-- ==== Sys2Proof/Word.lean ====
section
/-! DEFINITION. The words the FPB-8 is described in: bytes, 16-bit fields, slot numbers and a value per slot. -/

namespace Sys2Proof

/-- One byte, of a register, of a link frame or of the window buffer. -/
abbrev Byte := BitVec 8

/-- One 16-bit field, little-endian wherever it is laid out in bytes (00_scope.md, Conventions). -/
abbrev Half := BitVec 16

/-- A slot number, 0 to 7 (00_scope.md, Encodings). "No slot" (Fh) is `none` of `Option SlotId`. -/
abbrev SlotId := Fin 8

/-- One value for each of the eight slots. -/
abbrev Slots (α : Type) := Vector α 8

/-- The slots in ascending number. -/
def allSlots : List SlotId := [0, 1, 2, 3, 4, 5, 6, 7]

end Sys2Proof
end

