-- ==== Sys2Proof/Config.lean ====
section
/-! DEFINITION. What the part fixes (times, limits, identity) and the free values: what the manual leaves to the
clock or to chance. A free value has no body, so a claim holds whatever it is. -/

namespace Sys2Proof

/-- Milliseconds of the timebase that pass before the n-th happening, modulo 2^16 (R165): the manual fixes no time
between two happenings, so this is a free value (notes/assumptions/3.md). -/
opaque Config.elapsed : Nat → Half

/-- Whether a low level of 100 to 200 microseconds is heard as attention: R76 leaves it open ("may or may not"), so
this is a free value (notes/assumptions/4.md). -/
opaque Config.attentionHeard : Nat → Bool

/-- The settle timer's fixed value in ms (R22, R42). -/
def Config.settleMs : Nat := 50

/-- The clean-time timer's fixed value in ms (R41, R42). -/
def Config.cleanMs : Nat := 30000

/-- The largest value of the budget, the reserve and the derated budget, in BU (R148). -/
def Config.maxBudget : Nat := 4000

/-- The largest power of a point and of a slot's max power, in BU (R46, R150). -/
def Config.maxPointPower : Nat := 1023

/-- The ID register: device code 5Bh, then revision 01h (R191). -/
def Config.idBytes : List Byte := [0x5B, 0x01]

/-- The I2C address with both straps low (R184). -/
def Config.baseAddress : BitVec 7 := 0x3A

end Sys2Proof
end

