-- ==== Sys2Proof/Syntax.lean ====
section
/-! DEFINITION. The commands: one constructor per row of spec/opcode_table.json. A command is one happening of the part,
whole and indivisible (95_what_each_step_holds.md): a pin, a timer, a link frame, a notice taken by the Allocation
Engine, or an access of the host. -/

namespace Sys2Proof

/-- The levels standing at the input pins (section 10.7); `true` is high. A restart that takes inputs from their first
samples (R2, R20, R184, R193) takes these. -/
structure Inputs where
  straps  : BitVec 2
  derateN : Bool
  presN   : Slots Bool
  pg      : Slots Bool
  fltN    : Slots Bool
deriving DecidableEq, Repr

/-- One sample in which PRES_N of the slot is taken low, with the levels that it brings to PG and FLT_N, if any (R20).
-/
structure PresenceSample where
  slot : SlotId
  pg   : Option Bool
  fltN : Option Bool
deriving DecidableEq, Repr

/-- One sample in which FLT_N of the slot changes, with the level that it brings to PG, if any (R20). -/
structure FaultSample where
  slot : SlotId
  pg   : Option Bool
deriving DecidableEq, Repr

/-- The item of a slot's LE whose 2 ms on a line not free have run out: the turn attempt, or the frame without turn.
Each waits its own 2 ms (R60, R73). -/
structure LineWait where
  slot    : SlotId
  attempt : Bool
deriving DecidableEq, Repr

/-- The commands of the FPB-8, in the table's order. -/
inductive Instr where
  /-- PIN_RESET (R193): RESET_N rises, or power-on ends, with these levels at the first samples. -/
  | pinReset (first : Inputs)
  /-- RESET_N_LOW (R193): RESET_N is taken low. -/
  | resetNLow
  /-- FULL_RESTART (R194): 01h is written to RESTART and its transfer ends; the inputs' first samples follow. -/
  | fullRestart (first : Inputs)
  /-- KEEP_POWER_RESTART (R195): 02h is written to RESTART and its transfer ends. -/
  | keepPowerRestart
  /-- DERATE_N_LEVEL (R2): two equal samples of DERATE_N show this level. -/
  | derateNLevel (high : Bool)
  /-- PRESENCE_LOW (R22): PRES_N of the slot is taken low; the levels that the same sample brings to PG and FLT_N, if
  any (R20). One sample's levels are one command: PRESENCE_LOW or REMOVAL where it brings PRES_N a level, else
  FLT_N_LOW or FLT_N_HIGH where it brings FLT_N one, else PG_HIGH or PG_LOW. -/
  | presenceLow (sample : PresenceSample)
  /-- REMOVAL (R35): PRES_N is taken high; the levels that the same sample brings to PG and FLT_N, if any (R20). -/
  | removal (slot : SlotId) (pg fltN : Option Bool)
  /-- FLT_N_LOW (R32): FLT_N is taken low; the level that the same sample brings to PG, if any (R20, R33). -/
  | fltNLow (slot : SlotId) (pg : Option Bool)
  /-- PG_HIGH (R29): PG alone is taken high. -/
  | pgHigh (slot : SlotId)
  /-- PG_LOW (R33): PG alone is taken low. -/
  | pgLow (slot : SlotId)
  /-- SETTLE_EXPIRY (R23). -/
  | settleExpiry (slot : SlotId)
  /-- RAMP_EXPIRY (R30). -/
  | rampExpiry (slot : SlotId)
  /-- REDUCE_DEADLINE_EXPIRY (R36). -/
  | reduceDeadlineExpiry (slot : SlotId)
  /-- GRACE_EXPIRY (R34). -/
  | graceExpiry (slot : SlotId)
  /-- HOLDOFF_EXPIRY (R38). -/
  | holdoffExpiry (slot : SlotId)
  /-- CLEAN_TIME_EXPIRY (R41). -/
  | cleanTimeExpiry (slot : SlotId)
  /-- ATTENTION (R76): the card holds SL low for this many microseconds. -/
  | attention (slot : SlotId) (us : Nat)
  /-- SERVE_WORK (R75): the line is free, and the LE serves one item. -/
  | serveWork (slot : SlotId)
  /-- LINE_WAIT_TIMEOUT (R60): the line has not become free within 2 ms of the LE being ready to send this
  item. -/
  | lineWaitTimeout (wait : LineWait)
  /-- FRAME_SENT (R64): the last stop bit of the frame being sent. -/
  | frameSent (slot : SlotId)
  /-- REPLY_WINDOW_CLOSED (R64): the window closes with no start bit seen. -/
  | replyWindowClosed (slot : SlotId)
  /-- LINK_RETRY (R65): the 1 ms gap ends; `lineFree` when the line is free at that moment. -/
  | linkRetry (slot : SlotId) (lineFree : Bool)
  /-- RESEND (R82): the 100 ms between re-sends end; `lineFree` as in LINK_RETRY. -/
  | resend (slot : SlotId) (lineFree : Bool)
  /-- FOLLOW_UP_POLL (R77): the 50 ms follow-up interval ends. -/
  | followUpPoll (slot : SlotId)
  /-- DEMAND_REPLY (R48): a DEMAND reply with this status byte and payload (R61). -/
  | demandReply (slot : SlotId) (status : Byte) (payload : List Byte)
  /-- ACCEPT (R27, R56, R107). -/
  | accept (slot : SlotId) (status : Byte)
  /-- DECLINE (R27, R56, R108). -/
  | decline (slot : SlotId) (status : Byte)
  /-- NOTED_REPLY (R120). -/
  | notedReply (slot : SlotId) (status : Byte)
  /-- REDUCED_REPLY (R120): a REDUCED reply naming this index. -/
  | reducedReply (slot : SlotId) (status : Byte) (index : Byte)
  /-- RELEASE (R26, R27, R31). -/
  | release (slot : SlotId) (status : Byte)
  /-- IDLE (R24, R26, R31, R197). -/
  | idle (slot : SlotId) (status : Byte)
  /-- RESTATE_MAP (R55): the slot's SS takes the oldest RESTATE-MAP request sent to it. -/
  | restateMap (slot : SlotId)
  /-- DEMAND_NOTICE (R26, R54, R88): the AE takes the slot's oldest notice, a DEMAND. -/
  | demandNotice (slot : SlotId)
  /-- ACCEPTED_NOTICE (R99, R107, R56). -/
  | acceptedNotice (slot : SlotId)
  /-- DECLINED_NOTICE (R100, R108). -/
  | declinedNotice (slot : SlotId)
  /-- NOTED_NOTICE (R126). -/
  | notedNotice (slot : SlotId)
  /-- REDUCED_NOTICE (R126, R127). -/
  | reducedNotice (slot : SlotId)
  /-- RELEASED_NOTICE (R100). -/
  | releasedNotice (slot : SlotId)
  /-- FAULTED_NOTICE (R99, R100, R126). -/
  | faultedNotice (slot : SlotId)
  /-- REMOVED_NOTICE (R35, R126). -/
  | removedNotice (slot : SlotId)
  /-- POWERED_NOTICE (R99, R15, R197). -/
  | poweredNotice (slot : SlotId)
  /-- ANSWER_NOTICE (R142). -/
  | answerNotice (slot : SlotId)
  /-- SET_BUDGET (R148): the host submits command 01h with these three values. -/
  | setBudget (budget reserve derated : Half)
  /-- SET_SLOT_POLICY (R150): command 02h. -/
  | setSlotPolicy (slot classLimit : Byte) (maxPower : Half) (admits : Byte)
  /-- REVOKE_SLOT (R154): command 03h. -/
  | revokeSlot (slot : Byte)
  /-- RESET_SLOT (R157): command 04h. -/
  | resetSlot (slot : Byte)
  /-- REQUERY_SLOT (R158): command 05h. -/
  | requerySlot (slot : Byte)
  /-- HOLD (R159): command 06h. -/
  | hold (value : Byte)
  /-- SET_TIMING (R160): command 07h. -/
  | setTiming (reduceSteps graceSteps retryLimit rampMs holdoffSteps options : Byte)
  /-- BAD_CODE (R141): a code byte other than 01h to 07h is submitted with the parameters CMD_PARAM holds. -/
  | badCode (code : Byte)
  /-- CMD_RETIRE (R144): a byte is written to CMD_RETIRE. -/
  | cmdRetire (tag : Byte)
  /-- CMD_ABORT (R145): a byte is written to CMD_ABORT. -/
  | cmdAbort (tag : Byte)
  /-- EVT_POP (R168): a byte is written to EVT_POP. -/
  | evtPop (value : Byte)
  /-- INT_STATUS_CLEAR (R170): both bytes of INT_STATUS are written. -/
  | intStatusClear (value : Half)
  /-- INT_ENABLE (R171): both bytes of INT_ENABLE are written. -/
  | intEnable (value : Half)
  /-- HOST_STATUS_CLEAR (R189): a byte is written to HOST_STATUS. -/
  | hostStatusClear (value : Byte)
  /-- WIN_CAPTURE (R176): a byte is written to WIN_CAPTURE. -/
  | winCapture (value : Byte)
  /-- WIN_DATA (R177): a byte is read from WIN_DATA; `ack` is the host's acknowledge after it (R184). -/
  | winData (ack : Bool)
  /-- REGISTER_WRITE (R186): a byte of a write transfer after its offset byte. -/
  | registerWrite (value : Byte)
  /-- START (R184): a START or repeated START, with the address byte. -/
  | start (address : Byte)
  /-- STOP (R184). -/
  | stop
  /-- OFFSET_SET (R185): the first byte of a write transfer. -/
  | offsetSet (value : Byte)
  /-- FLT_N_HIGH (R20): FLT_N of the slot is taken high; the level that the same sample brings to PG, if any. -/
  | fltNHigh (sample : FaultSample)
  /-- REPLY_END (R64): a card's reply that began in the window ends, with these bytes received. -/
  | replyEnd (slot : SlotId) (bytes : List Byte)
  /-- REGISTER_READ (R185): the HP sends one byte of a read transfer; `ack` is the host's acknowledge (R184). -/
  | registerRead (ack : Bool)
deriving DecidableEq, Repr

end Sys2Proof
end

