-- ==== Sys2Proof/WellFormed.lean ====
section
/-! DEFINITION. When a command is one the row names: the checks on its operands. `exec` gives a meaning to every
command, well formed or not (an ill-formed reply is a bad reply, R64); the checks say which commands are the row's own. -/

namespace Sys2Proof

/-- The payload lengths a DEMAND reply may have (R61). -/
def demandLengths : List Nat := [3, 6, 9, 12, 15, 18, 21]

/-- The operand checks of the rows: a DEMAND payload has a length the kind allows (R61), a BAD_CODE code is outside
01h to 07h (R141), a reply is at most 25 bytes (R61), and a host that clears, retires or writes may write any byte. -/
def Instr.wellFormed : Instr → Bool
  | .demandReply _ _ payload => demandLengths.contains payload.length
  | .badCode code => code.toNat = 0 || 7 < code.toNat
  | .replyEnd _ bytes => bytes.length ≤ 25
  | _ => true

end Sys2Proof
end

