-- ==== Sys2Proof/Machine/State.lean ====
section
/-! DEFINITION. The state of the FPB-8: the record of each of its seven blocks, as the manual gives them, the
messages on their way between blocks, the levels at the pins, and the queue of commands that wait. Plain data. -/

namespace Sys2Proof.Machine

/-! ### Names the manual fixes -/

/-- Slot states (R17). -/
inductive SlotState where
  | empty | settling | identify | standby | waiting | parked | offering | powering | powered | raising | restating
  | reducing | faulted | lockedOut | resync
deriving DecidableEq, Repr

/-- Fault causes 1h to 8h (R37); cause 0h, none, is `none` of `Option FaultCause`. -/
inductive FaultCause where
  | switchFault | rampTimeout | powerLost | reduceTimeout | linkLost | noLink | badDemand | resyncFail
deriving DecidableEq, Repr

/-- Link states (section 4.8). -/
inductive LinkState where
  | down | up | lost
deriving DecidableEq, Repr

/-- Frames without turn (R73). -/
inductive NoTurn where
  | cut | refuse
deriving DecidableEq, Repr

/-- Turn frames, with what the SS supplies for them (R61, R62). -/
inductive Frame where
  | query
  | poll
  | offer (index power : Nat) (tag : BitVec 4) (restate : Bool)
  | reduce (index power : Nat)
deriving DecidableEq, Repr

/-- Card reply kinds (R61). -/
inductive CardKind where
  | demand | accept | decline | noted | reduced | release | idle
deriving DecidableEq, Repr

/-- A reply's kind, status byte and payload (R61). -/
structure Reply where
  kind    : CardKind
  status  : Byte
  payload : List Byte
deriving DecidableEq, Repr

/-- Near-side flags (R78). -/
inductive NearFlag where
  | crcBad | lengthBad | kindBad | staleReply | noReply
deriving DecidableEq, Repr

/-- Phases of an exchange (section 4.4). -/
inductive Phase where
  | waitLine | send | reply | gap | held
deriving DecidableEq, Repr

/-- What is left on the line of an exchange withdrawn in SEND or REPLY (R70): its frame, with the sequence bit it
carries, still being transmitted, or the window open after it. -/
inductive StalePhase where
  | send (frame : Frame) (seq : Bool)
  | reply
deriving DecidableEq, Repr

/-- Event kinds (R163). NONE names no event and is not a kind. -/
inductive EventKind where
  | present | removed
  | demand | demandTrimmed | demandBad | demandRefused | demandBlocked
  | granted | raised | raiseDeclined | offerDeclined | released | restated
  | reclaimStart | reclaimEnd | reclaimConverted | reduced | revoked
  | fault | lockout | retry
  | linkLost | linkRestored | linkErrors
  | budgetExcess | budgetOk | derateOn | derateOff
  | cmdDone
  | restart | overflow | resyncDone
deriving DecidableEq, Repr

/-- Origins of a reduction (R119). -/
inductive Origin where
  | reclaim | policy | host
deriving DecidableEq, Repr

/-- Exchange marks (R85). -/
inductive Mark where
  | none | offer | raise
deriving DecidableEq, Repr

/-- The exchange that an ACCEPTED or DECLINED notice answers (R85). -/
inductive Answers where
  | offer | raise | mapping
deriving DecidableEq, Repr

/-- Kinds of reclaim (R112). -/
inductive ReclaimKind where
  | none | admission | budget
deriving DecidableEq, Repr

/-- Outcomes of a victim entry (R112). -/
inductive VictimOutcome where
  | pending | noted | done | cut | gone
deriving DecidableEq, Repr

/-- States of a command slot (R139). -/
inductive CmdState where
  | free | queued | running | done | failed
deriving DecidableEq, Repr

/-- Results of a command (R139). -/
inductive CmdResult where
  | ok | badParam | badCode | wrongState | notPowered | aborted
deriving DecidableEq, Repr

/-- The restarts that RESTART requests (R192). -/
inductive RestartKind where
  | full | keepPower
deriving DecidableEq, Repr

/-- Where the Host Port stands in a transfer (R184): no transfer of its own, a write before and after its offset byte,
a read, and a read whose last byte the host gave no acknowledge. -/
inductive HpPhase where
  | idle | writeOffset | writing | reading | readDone
deriving DecidableEq, Repr

/-! ### The slot record (Slot Sequencer) -/

/-- One operating point (R44). Its index is its place in the list, counted from 1. -/
structure Point where
  power : Nat
  tag   : BitVec 4
  avail : Bool
deriving DecidableEq, Repr

/-- A demand record (R44). The count is the length of `points`. -/
structure DemandList where
  cardClass    : Nat
  currentIndex : Byte
  points       : List Point
deriving DecidableEq, Repr

/-- The point an exchange concerns: offered, raised to or mapped (R27, R55, R106). -/
structure Offered where
  index : Nat
  power : Nat
  tag   : BitVec 4
deriving DecidableEq, Repr

/-- The reduction record (R119). -/
structure Reduction where
  targetIndex : Nat
  targetPower : Nat
  entryPower  : Nat
  origin      : Origin
deriving DecidableEq, Repr

/-- An owed reduction, or a REDUCE held in RESTATING (R57, R152, R155). -/
structure Owed where
  origin      : Origin
  targetPower : Nat
deriving DecidableEq, Repr

/-- The command watch (R142), with the state code found when the request was taken (R143). -/
structure Watch where
  tag   : Fin 4
  num   : Byte
  limit : Nat
  found : Nat
deriving DecidableEq, Repr

/-- Notices from an SS to the AE (R5, R142). -/
inductive Notice where
  | demand (restatement : Bool) (holding : Option Nat)
  | accepted (answers : Answers) (holding : Nat)
  | declined (answers : Answers) (holding : Nat)
  | noted
  | reduced (holding : Nat)
  | released
  | faulted (cause : FaultCause)
  | removed
  | powered (holding : Nat)
  | answer (tag : Fin 4) (num : Byte) (result : CmdResult) (detail : Byte)
deriving DecidableEq, Repr

/-- The slot timers (R42): `some` value in ms that the timer took when it was started, `none` when it is stopped. -/
structure Timers where
  settle  : Option Nat
  ramp    : Option Nat
  reduce  : Option Nat
  grace   : Option Nat
  holdoff : Option Nat
  clean   : Option Nat
deriving DecidableEq, Repr

/-- The record of one Slot Sequencer (R18), with the input levels it has taken (R20), its reduction record, owed
reduction and command watch (R119, R142, R152), and the messages on their way: its notices not yet taken by the AE,
oldest first (R5), and the AE's RESTATE-MAP requests not yet taken by it (R54: the mapped index, or none). -/
structure SlotRec where
  state         : SlotState
  cause         : Option FaultCause
  strikes       : Nat
  en            : Bool
  presN         : Bool
  pg            : Bool
  fltN          : Bool
  current       : Option DemandList
  arriving      : Option DemandList
  restated      : Option DemandList
  granted       : Nat
  effClass      : Nat
  raiseDeclined : Bool
  linkHold      : Bool
  timers        : Timers
  offered       : Option Offered
  reduction     : Option Reduction
  owed          : Option Owed
  watch         : Option Watch
  outbox        : List Notice
  mapRequests   : List (Option Offered)
deriving DecidableEq, Repr

/-! ### The link record (Link Engine) -/

/-- One exchange (section 4.4): its frame, phase, attempts made, the retry limit it started with (R65), whether it is
a failed exchange being re-sent (R82), and the sequence bit chosen as it started (R64), which its frames carry (R68). -/
structure Exchange where
  frame    : Frame
  phase    : Phase
  attempts : Nat
  limit    : Nat
  resent   : Bool
  bit      : Bool
deriving DecidableEq, Repr

/-- The record of one Link Engine (R63). `seq` is the bit of the last turn frame begun, `sending` is a frame without
turn being transmitted, with the bit current when it was begun (R68), `stale` what runs on of a withdrawn exchange
(R70), `queryDue` a QUERY that starts at the end of a withdrawn frame (R71), `pollDue` a follow-up POLL that has become
due (R77). -/
structure LinkRec where
  link        : LinkState
  exchange    : Option Exchange
  pendingReq  : Option Frame
  waiting     : Option NoTurn
  sending     : Option (NoTurn × Bool)
  stale       : Option StalePhase
  queryDue    : Bool
  seq         : Bool
  attention   : Bool
  followUp    : Bool
  pollDue     : Bool
  near        : Byte
  far         : Byte
  lastReply   : Option CardKind
  retriesUsed : Nat
  resends     : Nat
deriving DecidableEq, Repr

/-! ### The Allocation Engine -/

/-- What the AE keeps for one slot (R4, R85); `resync` is set while the AE has not yet taken the notice with which the
slot's RESYNC ends (R199). -/
structure AeSlot where
  claim     : Nat
  confirmed : Nat
  mark      : Mark
  restating : Bool
  blocked   : Bool
  resync    : Bool
deriving DecidableEq, Repr

/-- A victim entry (R112). `targetPower` is the power of the entry's target (R126): the floor power, or 0 for REVOKE. -/
structure Victim where
  slot        : SlotId
  revoke      : Bool
  targetIndex : Nat
  targetPower : Nat
  expected    : Nat
  outcome     : VictimOutcome
deriving DecidableEq, Repr

/-- The reclaim record (R112). -/
structure Reclaim where
  active      : Bool
  kind        : ReclaimKind
  beneficiary : Option SlotId
  shortfall   : Nat
  earmark     : Nat
  victims     : List Victim
  yieldTaken  : Nat
deriving DecidableEq, Repr

/-- The Allocation Engine: the account (chapter 1), the admission queue as its entry order (R87), the grant order list
(R14), the reclaim record (R112), HOLD (R101), the kept excess condition (R13), and the RESYNC period (R199) with the
count of slots that concluded in POWERED during it (R164). Committed, EB and the queue order are computed from these
(R3, R9, R87). -/
structure Ae where
  slots         : Slots AeSlot
  budget        : Nat
  reserve       : Nat
  derated       : Nat
  derateN       : Bool
  hold          : Bool
  excess        : Bool
  entryOrder    : List SlotId
  grantOrder    : List SlotId
  reclaim       : Reclaim
  resyncActive  : Bool
  resyncPowered : Nat
deriving DecidableEq, Repr

/-! ### The Command Unit -/

/-- A command slot (R139). -/
structure CmdSlot where
  code   : Byte
  state  : CmdState
  result : CmdResult
  detail : Byte
  params : List Byte
  num    : Byte
deriving DecidableEq, Repr

/-- A slot's policy (R146). -/
structure Policy where
  classLimit : Nat
  maxPower   : Nat
  admits     : Bool
deriving DecidableEq, Repr

/-- The configuration in force but for the budgets, which the AE has in use, and HOLD (R146). -/
structure Settings where
  reduceSteps  : Nat
  graceSteps   : Nat
  retryLimit   : Nat
  rampMs       : Nat
  holdoffSteps : Nat
  backfill     : Bool
  autoRaise    : Bool
  policy       : Slots Policy
deriving DecidableEq, Repr

/-- A SET_SLOT_POLICY request whose shared step waits for the slot's notices (R150). -/
structure PolicyReq where
  slot : SlotId
  tag  : Fin 4
  num  : Byte
deriving DecidableEq, Repr

/-- The Command Unit (R139, R140, R146). -/
structure Cu where
  cmds         : Vector CmdSlot 4
  count        : Byte
  submitResult : Byte
  param        : List Byte
  settings     : Settings
  policyWait   : List PolicyReq
deriving DecidableEq, Repr

/-! ### The Event Unit, the Window Unit and the Host Port -/

/-- An event record (R162). -/
structure Event where
  seq  : Byte
  kind : EventKind
  slot : Option SlotId
  a    : Byte
  b    : Half
  time : Half
deriving DecidableEq, Repr

/-- The Event Unit (chapter 8): its queue, oldest first, the next sequence number, the millisecond count of R165, and
the interrupt registers. -/
structure Eu where
  queue     : List Event
  nextSeq   : Byte
  timeMs    : Half
  intStatus : Half
  intEnable : Half
deriving DecidableEq, Repr

/-- The Window Unit (chapter 9): selection, buffer, cursor, WRAP, and what the buffer holds. -/
structure Wu where
  first    : Byte
  last     : Byte
  group    : Byte
  buffer   : List Byte
  cursor   : Nat
  wrap     : Bool
  bufGroup : BitVec 2
  bufDesc  : Bool
deriving DecidableEq, Repr

/-- Bytes of a multi-byte register staged within a write transfer (R188): the offset of the first of them, and the
bytes in the order received. -/
structure Staging where
  first : Byte
  bytes : List Byte
deriving DecidableEq, Repr

/-- The copy of a multi-byte register being read (R187): the register's lowest offset and its bytes. -/
structure Snapshot where
  base  : Byte
  bytes : List Byte
deriving DecidableEq, Repr

/-- The Host Port (chapter 10). Two fields are the model's own record of the port's output on SDA: `sent` is the byte it
last sent in a read transfer, and `acked` whether it acknowledged the last byte that the host sent (R184). -/
structure Hp where
  address  : BitVec 7
  phase    : HpPhase
  offset   : Byte
  staging  : Option Staging
  snapshot : Option Snapshot
  status   : Byte
  restart  : Option RestartKind
  sent     : Option Byte
  acked    : Bool
deriving DecidableEq, Repr

/-! ### The whole part -/

/-- The state of the FPB-8. `resetLow` is RESET_N held low (R193), `inputs` the levels at the pins (R20, R184), and
`freeIndex` the model's own counter, to which the free values of Config are applied. -/
structure State where
  pending   : List Instr
  resetLow  : Bool
  inputs    : Inputs
  slots     : Slots SlotRec
  links     : Slots LinkRec
  ae        : Ae
  cu        : Cu
  eu        : Eu
  wu        : Wu
  hp        : Hp
  freeIndex : Nat
deriving DecidableEq, Repr

/-- The reasons the machine stops with a fault: there is none. No rule of the manual stops the part: a command that
finds nothing to act on leaves the state as it is. -/
inductive Fault
deriving DecidableEq, Repr

/-- The reasons a command is refused. -/
inductive Refusal where
  /-- Raised by `exec` for a command that has no meaning yet; safe. No arm raises it. -/
  | notModelled (mnemonic : String)
deriving DecidableEq, Repr

/-! ### Values after a pin reset or a full restart -/

def Timers.stopped : Timers :=
  { settle := none, ramp := none, reduce := none, grace := none, holdoff := none, clean := none }

/-- The slot record after a pin reset (R18), with input levels as given. -/
def SlotRec.reset (presN pg fltN : Bool) (classLimit : Nat) : SlotRec :=
  { state := .empty, cause := none, strikes := 0, en := false, presN := presN, pg := pg, fltN := fltN,
    current := none, arriving := none, restated := none, granted := 0, effClass := classLimit,
    raiseDeclined := false, linkHold := false, timers := .stopped, offered := none, reduction := none,
    owed := none, watch := none, outbox := [], mapRequests := [] }

/-- The link record after a pin reset (R63). -/
def LinkRec.reset : LinkRec :=
  { link := .down, exchange := none, pendingReq := none, waiting := none, sending := none, stale := none,
    queryDue := false, seq := false, attention := false, followUp := false, pollDue := false, near := 0, far := 0,
    lastReply := none, retriesUsed := 0, resends := 0 }

/-- The AE's entries for a slot after a pin reset (R4, R85). -/
def AeSlot.reset : AeSlot :=
  { claim := 0, confirmed := 0, mark := .none, restating := false, blocked := false, resync := false }

/-- The reclaim record after every restart (R112). -/
def Reclaim.reset : Reclaim :=
  { active := false, kind := .none, beneficiary := none, shortfall := 0, earmark := 0, victims := [],
    yieldTaken := 0 }

/-- The AE after a pin reset, with the DERATE_N level of the first sample (chapter 1, R89, R112). -/
def Ae.reset (derateN : Bool) : Ae :=
  { slots := .replicate 8 .reset, budget := 0, reserve := 0, derated := 0, derateN := derateN, hold := false,
    excess := false, entryOrder := [], grantOrder := [], reclaim := .reset, resyncActive := false,
    resyncPowered := 0 }

/-- A FREE command slot (R139): code 0, result OK and detail 0. That its parameters and submission number are empty too
is the model's choice (notes/assumptions/36.md). -/
def CmdSlot.free : CmdSlot :=
  { code := 0, state := .free, result := .ok, detail := 0, params := [], num := 0 }

/-- The default policy of a slot (R146). -/
def Policy.reset : Policy := { classLimit := 0, maxPower := 400, admits := true }

/-- The default configuration (R146). -/
def Settings.reset : Settings :=
  { reduceSteps := 20, graceSteps := 10, retryLimit := 3, rampMs := 50, holdoffSteps := 20, backfill := false,
    autoRaise := true, policy := .replicate 8 .reset }

/-- The CU after any restart, with the configuration given: defaults, or the kept one (R139, R140, R146, R161). -/
def Cu.restarted (settings : Settings) : Cu :=
  { cmds := .replicate 4 .free, count := 0, submitResult := 0xFE, param := [0, 0, 0, 0, 0, 0],
    settings := settings, policyWait := [] }

/-- The WU's buffer side after any restart, with the selection given (R174, R183). -/
def Wu.restarted (first last group : Byte) : Wu :=
  { first := first, last := last, group := group, buffer := [], cursor := 0, wrap := false, bufGroup := 0,
    bufDesc := false }

/-- The HP after any restart, at the address given (R192). -/
def Hp.restarted (address : BitVec 7) : Hp :=
  { address := address, phase := .idle, offset := 0, staging := none, snapshot := none, status := 0,
    restart := none, sent := none, acked := false }

/-- The RESTART record, first of every restarted queue (R164, R172). -/
def Event.restarted (a : Byte) (time : Half) : Event :=
  { seq := 0, kind := .restart, slot := none, a := a, b := 0, time := time }

/-- The EU right after a restart (R172): the RESTART record alone, SYSTEM set. -/
def Eu.restarted (a : Byte) (time enable : Half) : Eu :=
  { queue := [.restarted a time], nextSeq := 1, timeMs := time, intStatus := 0x0100, intEnable := enable }

/-- The levels of a chassis with no card, no derating and both straps low. -/
def quietInputs : Inputs :=
  { straps := 0, derateN := true, presN := .replicate 8 true, pg := .replicate 8 false, fltN := .replicate 8 true }

/-- The FPB-8 right after a pin reset (R193), in a chassis with no card inserted: the input levels are the model's
choice (notes/assumptions/1.md), everything else is the manual's pin-reset column. -/
def State.reset : State :=
  { pending := [], resetLow := false, inputs := quietInputs, slots := .replicate 8 (.reset true false true 0),
    links := .replicate 8 .reset, ae := .reset true, cu := .restarted .reset,
    eu := .restarted 0 0 0, wu := .restarted 0 7 0, hp := .restarted Config.baseAddress, freeIndex := 0 }

end Sys2Proof.Machine
end

