-- ==== Sys2Proof/Machine/Operands.lean ====
section
/-! DEFINITION. Codes, byte layouts and the reading of operands: the codes of states, causes and kinds; demand records
(chapter 3); link frames and the judging of replies (chapter 4); and little-endian fields. -/

namespace Sys2Proof.Machine

/-! ### Codes -/

/-- Slot state codes (R17). -/
def SlotState.code : SlotState → Nat
  | .empty => 0x0 | .settling => 0x1 | .identify => 0x2 | .standby => 0x3 | .waiting => 0x4 | .parked => 0x5
  | .offering => 0x6 | .powering => 0x7 | .powered => 0x8 | .raising => 0x9 | .restating => 0xA | .reducing => 0xB
  | .faulted => 0xC | .lockedOut => 0xD | .resync => 0xE

/-- The powered family (R17). -/
def SlotState.poweredFamily : SlotState → Bool
  | .powering | .powered | .raising | .restating | .reducing => true
  | _ => false

/-- The states in which EN is asserted (R17): the powered family and RESYNC. -/
def SlotState.enabled (s : SlotState) : Bool := s.poweredFamily || s == .resync

/-- Fault cause codes (R37). -/
def FaultCause.code : FaultCause → Nat
  | .switchFault => 1 | .rampTimeout => 2 | .powerLost => 3 | .reduceTimeout => 4 | .linkLost => 5 | .noLink => 6
  | .badDemand => 7 | .resyncFail => 8

/-- The fault cause field: 0 for none (R37). -/
def causeCode (c : Option FaultCause) : Nat := (c.map FaultCause.code).getD 0

/-- Link state codes (R181). -/
def LinkState.code : LinkState → Nat
  | .down => 0 | .up => 1 | .lost => 2

/-- Controller kind codes of turn frames (R61). -/
def Frame.code : Frame → Nat
  | .query => 0x1 | .poll => 0x2 | .offer .. => 0x3 | .reduce .. => 0x4

/-- Controller kind codes of frames without turn (R61). -/
def NoTurn.code : NoTurn → Nat
  | .cut => 0x5 | .refuse => 0x6

/-- Card kind codes (R61). -/
def CardKind.code : CardKind → Nat
  | .demand => 0x9 | .accept => 0xA | .decline => 0xB | .noted => 0xC | .reduced => 0xD | .release => 0xE
  | .idle => 0xF

/-- The card kind of a header's kind code (R61). -/
def CardKind.ofCode : Nat → Option CardKind
  | 0x9 => some .demand | 0xA => some .accept | 0xB => some .decline | 0xC => some .noted | 0xD => some .reduced
  | 0xE => some .release | 0xF => some .idle | _ => none

/-- Reclaim kind codes (R112). -/
def ReclaimKind.code : ReclaimKind → Nat
  | .none => 0 | .admission => 1 | .budget => 2

/-- Victim outcome codes (R182). -/
def VictimOutcome.code : VictimOutcome → Nat
  | .pending => 0 | .noted => 1 | .done => 2 | .cut => 3 | .gone => 4

/-- Whether a victim has concluded (R112). -/
def VictimOutcome.concluded : VictimOutcome → Bool
  | .pending | .noted => false
  | .done | .cut | .gone => true

/-- Command slot state codes (R139). -/
def CmdState.code : CmdState → Nat
  | .free => 0 | .queued => 1 | .running => 2 | .done => 3 | .failed => 4

/-- Result codes (R139). -/
def CmdResult.code : CmdResult → Nat
  | .ok => 0 | .badParam => 1 | .badCode => 2 | .wrongState => 3 | .notPowered => 4 | .aborted => 5

/-- The state a result concludes in (R139): DONE with OK or NOT_POWERED, FAILED with the others. -/
def CmdResult.concludes : CmdResult → CmdState
  | .ok | .notPowered => .done
  | .badParam | .badCode | .wrongState | .aborted => .failed

/-- Event kind codes (R163). -/
def EventKind.code : EventKind → Nat
  | .present => 0x01 | .removed => 0x02
  | .demand => 0x10 | .demandTrimmed => 0x11 | .demandBad => 0x12 | .demandRefused => 0x13 | .demandBlocked => 0x14
  | .granted => 0x20 | .raised => 0x21 | .raiseDeclined => 0x22 | .offerDeclined => 0x23 | .released => 0x24
  | .restated => 0x25
  | .reclaimStart => 0x30 | .reclaimEnd => 0x31 | .reclaimConverted => 0x32 | .reduced => 0x33 | .revoked => 0x34
  | .fault => 0x40 | .lockout => 0x41 | .retry => 0x42
  | .linkLost => 0x50 | .linkRestored => 0x51 | .linkErrors => 0x52
  | .budgetExcess => 0x60 | .budgetOk => 0x61 | .derateOn => 0x62 | .derateOff => 0x63
  | .cmdDone => 0x70
  | .restart => 0x80 | .overflow => 0x81 | .resyncDone => 0x82

/-- The interrupt class of a kind (R163): the upper digit of its code. -/
def EventKind.classBit (k : EventKind) : Nat := k.code / 16

/-- A slot field: Fh for no slot (00_scope.md). -/
def slotField (s : Option SlotId) : Byte := (s.map fun i => BitVec.ofNat 8 i.val).getD 0x0F

/-! ### Little-endian fields -/

def byteOf (n : Nat) : Byte := BitVec.ofNat 8 n

def boolByte (b : Bool) : Byte := if b then 1 else 0

/-- The two bytes of a 16-bit field, the less significant first (00_scope.md). -/
def le16 (n : Nat) : List Byte := [byteOf n, byteOf (n / 256)]

def lowByte (h : Half) : Byte := h.extractLsb' 0 8

def highByte (h : Half) : Byte := h.extractLsb' 8 8

/-- The 16-bit field whose bytes are `lo` and `hi`. -/
def half (lo hi : Byte) : Half := hi ++ lo

/-- The value of the field at bytes `k` and `k + 1`, counted from 0. -/
def fieldAt (l : List Byte) (k : Nat) : Nat := (half (l.getD k 0) (l.getD (k + 1) 0)).toNat

/-! ### Demand lists (chapter 3) -/

/-- The first point at which `p` holds, with its index, counting from `k`. -/
def firstPoint (p : Point → Bool) (k : Nat) : List Point → Option (Nat × Point)
  | [] => none
  | x :: xs => if p x then some (k, x) else firstPoint p (k + 1) xs

/-- The point of an index, counted from 1 (R44); index 0 names none. -/
def DemandList.point (l : DemandList) (index : Nat) : Option Point :=
  if index = 0 then none else l.points[index - 1]?

/-- The power of the point of an index, 0 where the index names none. -/
def DemandList.powerAt (l : DemandList) (index : Nat) : Nat := ((l.point index).map Point.power).getD 0

/-- The count of a list (R44). -/
def DemandList.count (l : DemandList) : Nat := l.points.length

/-- The floor's power (R49): the floor is the last point. -/
def DemandList.floorPower (l : DemandList) : Nat := l.powerAt l.count

/-- Whether the floor is available (R47). -/
def DemandList.floorAvail (l : DemandList) : Bool := ((l.point l.count).map Point.avail).getD false

/-- The preferred point (R49): the first available point. -/
def DemandList.preferred (l : DemandList) : Option (Nat × Point) := firstPoint Point.avail 1 l.points

/-- The highest available point of power at most `p` (R92). Powers descend, so it is the first such point. -/
def DemandList.highestWithin (l : DemandList) (p : Nat) : Option (Nat × Point) :=
  firstPoint (fun x => x.avail && decide (x.power ≤ p)) 1 l.points

/-- The available point with the greatest power above `low` and at most `high` (R105). -/
def DemandList.highestBetween (l : DemandList) (low high : Nat) : Option (Nat × Point) :=
  firstPoint (fun x => x.avail && decide (low < x.power) && decide (x.power ≤ high)) 1 l.points

/-- The highest point, available or not, of power at most `p` (R57). -/
def DemandList.highestPoint (l : DemandList) (p : Nat) : Option (Nat × Point) :=
  firstPoint (fun x => decide (x.power ≤ p)) 1 l.points

/-- The target of a policy reduction (R152): the highest available point, or index 0 when none is available. -/
def DemandList.policyTarget (l : DemandList) : Nat × Nat :=
  match l.preferred with
  | some (k, x) => (k, x.power)
  | none => (0, 0)

/-- Availability against a max power (R47). -/
def DemandList.trim (l : DemandList) (maxPower : Nat) : DemandList :=
  { l with points := l.points.map fun x => { x with avail := decide (x.power ≤ maxPower) } }

/-- Whether any point is available (R47). -/
def DemandList.anyAvail (l : DemandList) : Bool := l.points.any Point.avail

/-- Whether every point is available (R47). -/
def DemandList.allAvail (l : DemandList) : Bool := l.points.all Point.avail

/-- The available mask, point 1 in bit 0 (R59). -/
def availMask : List Point → Nat
  | [] => 0
  | x :: xs => (if x.avail then 1 else 0) + 2 * availMask xs

def DemandList.mask (l : DemandList) : Nat := availMask l.points

/-- The point groups of a DEMAND payload (R45): power, less significant byte first, then a tag byte whose upper four
bits are disregarded. -/
def readPoints : List Byte → List Point
  | lo :: hi :: tag :: rest =>
    { power := (half lo hi).toNat, tag := tag.extractLsb' 0 4, avail := true } :: readPoints rest
  | _ => []

/-- Whether powers are strictly descending (R46, check 5). -/
def descending : List Point → Bool
  | x :: y :: rest => decide (y.power < x.power) && descending (y :: rest)
  | _ => true

/-- What the SS makes of a DEMAND reply (R45 to R47). -/
inductive Verdict where
  | malformed (check : Nat)
  | overMax
  | valid (l : DemandList)
deriving DecidableEq, Repr

/-- The number of the first check of R46 that a payload fails, if any. -/
def demandCheck (cardClass count : Nat) (points : List Point) : Option Nat :=
  if 3 < cardClass then some 1
  else if count = 0 ∨ 6 < count then some 2
  else if count ≠ points.length then some 3
  else if points.any (fun x => x.power = 0 || decide (Config.maxPointPower < x.power)) then some 4
  else if !descending points then some 5
  else none

/-- Reading and judging a DEMAND payload against a max power: the record of R45, the checks of R46, trimming of R47. -/
def readDemand (payload : List Byte) (maxPower : Nat) : Verdict :=
  let points := readPoints (payload.drop 3)
  let cardClass := (payload.getD 0 0).toNat
  match demandCheck cardClass (payload.getD 1 0).toNat points with
  | some n => .malformed n
  | none =>
    let l := DemandList.trim { cardClass := cardClass, currentIndex := payload.getD 2 0, points := points } maxPower
    if l.anyAvail then .valid l else .overMax

/-! ### Link frames (R61, R62) -/

/-- One bit of the CRC of R62: polynomial 07h, most significant bit first. -/
def crcBit (c : Byte) : Byte := if c.msb then (c <<< 1) ^^^ 0x07 else c <<< 1

/-- One byte of the CRC of R62. -/
def crcByte (c b : Byte) : Byte :=
  crcBit (crcBit (crcBit (crcBit (crcBit (crcBit (crcBit (crcBit (c ^^^ b))))))))

/-- CRC-8 of R62, from FFh. -/
def crc8 (bytes : List Byte) : Byte := bytes.foldl crcByte 0xFF

/-- The payload of a turn frame (R61). -/
def Frame.payload : Frame → List Byte
  | .query | .poll => []
  | .offer index power tag restate => byteOf index :: le16 power ++ [tag.setWidth 8, boolByte restate]
  | .reduce index power => byteOf index :: le16 power

/-- A controller frame's bytes (R61, R62): header, length, payload, CRC. -/
def controllerBytes (kind : Nat) (turn seq : Bool) (payload : List Byte) : List Byte :=
  let body := byteOf (kind * 16 + (if turn then 8 else 0) + (if seq then 4 else 0)) :: byteOf payload.length :: payload
  body ++ [crc8 body]

/-- The bytes of a turn frame carrying a sequence bit. -/
def Frame.bytes (f : Frame) (seq : Bool) : List Byte := controllerBytes f.code true seq f.payload

/-- The bytes of a frame without turn, with the current sequence bit (R68). -/
def NoTurn.bytes (k : NoTurn) (seq : Bool) : List Byte := controllerBytes k.code false seq []

/-- What the LE drives on SL, if anything: the frame being transmitted (R62), which is a frame without turn (R73), a
withdrawn turn frame that is completed (R70), or the current exchange's. -/
def LinkRec.driven (l : LinkRec) : Option (List Byte) :=
  match l.sending, l.stale, l.exchange with
  | some (k, seq), _, _ => some (k.bytes seq)
  | none, some (.send f seq), _ => some (f.bytes seq)
  | none, _, some x => if x.phase = .send then some (x.frame.bytes x.bit) else none
  | none, _, none => none

/-- A card reply's bytes (R61), with a sequence echo. -/
def Reply.bytes (r : Reply) (echo : Bool) : List Byte :=
  let body := byteOf (r.kind.code * 16 + (if echo then 4 else 0)) :: byteOf r.payload.length :: r.status :: r.payload
  body ++ [crc8 body]

/-- The card kinds valid in reply to a frame (R61). -/
def Frame.allows : Frame → CardKind → Bool
  | .query, .demand | .query, .idle => true
  | .poll, .demand | .poll, .reduced | .poll, .release | .poll, .idle => true
  | .offer .., .accept | .offer .., .decline | .offer .., .release => true
  | .reduce .., .noted | .reduce .., .reduced | .reduce .., .release => true
  | _, _ => false

/-- The payload lengths a card kind allows (R61). -/
def CardKind.allowsLength : CardKind → Nat → Bool
  | .demand, n => demandLengths.contains n
  | .reduced, n => n == 1
  | _, n => n == 0

/-- The LE's judgement of a reply (R64). -/
inductive Judged where
  | bad (f : NearFlag)
  | good (r : Reply)
deriving DecidableEq, Repr

/-- The checks of R64 on kind and payload length, for a reply whose bytes and CRC are whole: a payload above 21 bytes
fails the byte-count check first. -/
def judgeReply (f : Frame) (r : Reply) : Judged :=
  if 21 < r.payload.length then .bad .lengthBad
  else if !f.allows r.kind then .bad .kindBad
  else if !r.kind.allowsLength r.payload.length then .bad .lengthBad
  else .good r

/-- A received frame as far as its CRC (R64): the flag of the failing check, or header, status and payload. -/
inductive Framed where
  | bad (f : NearFlag)
  | whole (header status : Byte) (payload : List Byte)
deriving DecidableEq, Repr

/-- The checks of R64 up to the CRC. The LE takes the length byte's value plus 4 bytes and no more. -/
def frameReply : List Byte → Framed
  | header :: len :: rest =>
    if 21 < len.toNat then .bad .lengthBad
    else
      let body := rest.take (len.toNat + 1)
      match body, rest[len.toNat + 1]? with
      | status :: payload, some crc =>
        if crc8 (header :: len :: body) = crc then .whole header status payload else .bad .crcBad
      | _, _ => .bad .lengthBad
  | _ => .bad .lengthBad

/-- The checks of R64 on the bytes of a reply to frame `f` sent with sequence bit `seq`, in their order. The LE
disregards header bits 3 and 1 to 0. -/
def judgeBytes (f : Frame) (seq : Bool) (bytes : List Byte) : Judged :=
  match frameReply bytes with
  | .bad flag => .bad flag
  | .whole header status payload =>
    match CardKind.ofCode (header.toNat / 16) with
    | none => .bad .kindBad
    | some k =>
      match judgeReply f { kind := k, status := status, payload := payload } with
      | .bad flag => .bad flag
      | .good r => if header.getLsbD 2 = seq then .good r else .bad .staleReply

end Sys2Proof.Machine
end

