-- ==== Sys2Proof/Machine/Flags.lean ====
section
/-! DEFINITION. Flags and status words: near-side and far-side flags (R78, R79), HOST_STATUS (R189), INT_STATUS and INT_N
(R169 to R171), WIN_GROUP and WIN_FLAGS (R173). -/

namespace Sys2Proof.Machine

/-- The bit of a near-side flag (R78). -/
def NearFlag.mask : NearFlag → Byte
  | .crcBad => 0x01 | .lengthBad => 0x02 | .kindBad => 0x04 | .staleReply => 0x08 | .noReply => 0x10

/-- Setting a near-side flag; flags are sticky (section 4.7). -/
def LinkRec.withNear (l : LinkRec) (f : NearFlag) : LinkRec := { l with near := l.near ||| f.mask }

/-- The far-side flags of a status byte (R61, R79): bits 3 to 0. -/
def farBits (status : Byte) : Byte := status &&& 0x0F

/-- HOST_STATUS flags (R189). -/
inductive HostFlag where
  | badOffset | readOnlyWrite | writeIncomplete | badValue
deriving DecidableEq, Repr

def HostFlag.mask : HostFlag → Byte
  | .badOffset => 0x01 | .readOnlyWrite => 0x02 | .writeIncomplete => 0x04 | .badValue => 0x08

def Hp.flag (h : Hp) (f : HostFlag) : Hp := { h with status := h.status ||| f.mask }

/-- The INT_STATUS bit of a kind's class (R163, R169). -/
def EventKind.classMask (k : EventKind) : Half := 1#16 <<< k.classBit

/-- The nine class bits (R169, R171): bits 15 to 9 are not kept. -/
def classBits : Half := 0x01FF

/-- INT_N driven low (R171): while INT_STATUS AND INT_ENABLE is nonzero, and never while RESET_N is low. -/
def State.intNLow (s : State) : Bool := !s.resetLow && (s.eu.intStatus &&& s.eu.intEnable) != 0

/-- The group field of WIN_GROUP (R173). -/
def groupField (g : Byte) : BitVec 2 := g.extractLsb' 0 2

/-- The direction field of WIN_GROUP (R173): descending. -/
def groupDescending (g : Byte) : Bool := g.getLsbD 2

/-- The clear option of WIN_GROUP (R173). -/
def groupClears (g : Byte) : Bool := g.getLsbD 3

/-- WIN_FLAGS (R173). -/
def Wu.flags (w : Wu) : Byte :=
  (if w.wrap then 1 else 0) ||| (w.bufGroup.setWidth 8 <<< 1) ||| (if w.bufDesc then 8 else 0)

end Sys2Proof.Machine
end

