-- ==== Sys2Proof/Machine/Ops.lean ====
section
/-! DEFINITION. The named operations every meaning is made of: reading and changing one slot's, one link's or one AE
entry, appending an event (chapter 8), passing time, and running a happening. -/

namespace Sys2Proof.Machine

/-! ### One entry of a per-slot record -/

/-- Changing the entry of slot `i`. -/
def updateAt {α : Type} (v : Slots α) (i : SlotId) (f : α → α) : Slots α := v.set i.val (f v[i.val])

/-- The slot record of slot `i`. -/
def State.slot (s : State) (i : SlotId) : SlotRec := s.slots[i.val]

/-- The link record of slot `i`. -/
def State.link (s : State) (i : SlotId) : LinkRec := s.links[i.val]

/-- The AE's entries for slot `i`. -/
def State.entry (s : State) (i : SlotId) : AeSlot := s.ae.slots[i.val]

/-- The policy in force for slot `i` (R146). -/
def State.policy (s : State) (i : SlotId) : Policy := s.cu.settings.policy[i.val]

def State.modSlot (s : State) (i : SlotId) (f : SlotRec → SlotRec) : State :=
  { s with slots := updateAt s.slots i f }

def State.modLink (s : State) (i : SlotId) (f : LinkRec → LinkRec) : State :=
  { s with links := updateAt s.links i f }

def State.modEntry (s : State) (i : SlotId) (f : AeSlot → AeSlot) : State :=
  { s with ae := { s.ae with slots := updateAt s.ae.slots i f } }

/-! ### Appending an event (R165, R166, R169) -/

/-- Keeping a record at the tail, with the next sequence number and the present time (R165). -/
def Eu.keep (e : Eu) (k : EventKind) (slot : Option SlotId) (a : Byte) (b : Half) : Eu :=
  { e with
    queue := e.queue ++ [{ seq := e.nextSeq, kind := k, slot := slot, a := a, b := b, time := e.timeMs }]
    nextSeq := e.nextSeq + 1 }

/-- The count of an OVERFLOW record rising by 1, staying at 255 (R166). -/
def Event.counted (r : Event) : Event := { r with b := if r.b.toNat < 255 then r.b + 1 else r.b }

/-- Setting INT_STATUS bits (R169). -/
def Eu.raiseBits (e : Eu) (mask : Half) : Eu := { e with intStatus := e.intStatus ||| mask }

/-- The effect of an append on the queue, by the number of records held (R166), with its class bits (R169). -/
def Eu.append (e : Eu) (k : EventKind) (slot : Option SlotId) (a : Byte) (b : Half) : Eu :=
  if e.queue.length < 31 then (e.keep k slot a b).raiseBits k.classMask
  else
    let dropped := e.raiseBits (k.classMask ||| EventKind.overflow.classMask)
    match e.queue.getLast? with
    | some r =>
      if r.kind = .overflow then { dropped with queue := e.queue.dropLast ++ [r.counted] }
      else if e.queue.length = 31 then dropped.keep .overflow none 0 1
      else dropped
    | none => dropped

/-- A block's append of an event, with fields a and b given as numbers. -/
def State.event (s : State) (k : EventKind) (slot : Option SlotId) (a b : Nat) : State :=
  { s with eu := s.eu.append k slot (byteOf a) (BitVec.ofNat 16 b) }

/-! ### Happenings -/

/-- Time passing before a happening (R165): by a free value of Config (notes/assumptions/3.md). -/
def State.elapse (s : State) : State :=
  { s with
    eu := { s.eu with timeMs := s.eu.timeMs + Config.elapsed s.freeIndex }
    freeIndex := s.freeIndex + 1 }

/-- A happening of the running part. While RESET_N is low every block is held at rest (R193), and nothing happens. -/
def happening (f : State → State) (s : State) : Host.Outcome State Fault Refusal :=
  .next (if s.resetLow then s else f s.elapse)

end Sys2Proof.Machine
end

