-- ==== Sys2Proof/Machine/Link.lean ====
section
/-! DEFINITION. The Link Engine (chapter 4): requests of the SS, withdrawal, frames without turn, starting an exchange,
and the phases of an attempt. What the SS makes of a reply or a failure is Machine/Sequencer.lean's. -/

namespace Sys2Proof.Machine

/-! ### Requests from the SS -/

/-- Starting an exchange (R64): its sequence bit is chosen, the toggle of the bit of the last turn frame begun (R68),
and the first attempt waits for the line. Starting any POLL clears the attention latch and restarts the follow-up
interval (R75). -/
def LinkRec.begin (l : LinkRec) (f : Frame) (limit : Nat) : LinkRec :=
  { l with
    exchange := some { frame := f, phase := .waitLine, attempts := 1, limit := limit, resent := false, bit := !l.seq }
    attention := l.attention && f != .poll
    pollDue := l.pollDue && f != .poll }

/-- Withdrawing the current exchange (R70): in SEND the frame is completed, with its bit, and in SEND and REPLY the
window runs on, stale. That the retries used (R63) stay those of the exchange before it is the model's choice
(notes/assumptions/41.md). -/
def LinkRec.withdrawExchange (l : LinkRec) : LinkRec :=
  match l.exchange with
  | none => l
  | some x =>
    match x.phase with
    | .send => { l with exchange := none, stale := some (.send x.frame x.bit) }
    | .reply => { l with exchange := none, stale := some .reply }
    | .waitLine | .gap | .held => { l with exchange := none }

/-- Withdrawing the current exchange and the pending request (R70), and with them a QUERY that has not started. -/
def LinkRec.withdraw (l : LinkRec) : LinkRec := { l.withdrawExchange with pendingReq := none, queryDue := false }

/-- A withdrawn frame is still being sent: its exchange ends only with the frame (R70). -/
def LinkRec.completing (l : LinkRec) : Bool :=
  match l.stale with
  | some (.send ..) => true
  | _ => false

/-- What makes a request wait (R69): a current exchange, a withdrawn one whose frame is not yet sent, or a frame without
turn that waits or is being sent. That one being sent still counts as waiting is the model's choice
(notes/assumptions/47.md). -/
def LinkRec.busy (l : LinkRec) : Bool :=
  l.exchange.isSome || l.completing || l.waiting.isSome || l.sending.isSome

/-- An OFFER or REDUCE request (R69): the current exchange at once, or the pending request. That one which finds the LE
free, but still holding a pending request that waits for the line (R75), starts and drops that one is the model's choice
(notes/assumptions/47.md). -/
def LinkRec.request (l : LinkRec) (f : Frame) (limit : Nat) : LinkRec :=
  if l.link = .down then l
  else if l.busy then { l with pendingReq := some f }
  else { l.begin f limit with pendingReq := none }

/-- A QUERY request (R71): it replaces what the LE holds, keeps a waiting CUT, and takes a DOWN link to UP (R81). It
starts at once, but for a withdrawn frame that is still being sent, at whose end it starts. -/
def LinkRec.query (l : LinkRec) (limit : Nat) : LinkRec :=
  let freed : LinkRec := { l.withdraw with
    waiting := if l.waiting = some .refuse then none else l.waiting
    link := if l.link = .down then .up else l.link }
  if freed.completing then { freed with queryDue := true } else freed.begin .query limit

/-- A CUT or REFUSE asked for (R73): it replaces a waiting one. In DOWN the LE serves nothing (R75). -/
def LinkRec.ask (l : LinkRec) (k : NoTurn) : LinkRec :=
  if l.link = .down then l else { l with waiting := some k }

/-- Turning follow-up polling on or off (R77). -/
def LinkRec.polling (l : LinkRec) (on : Bool) : LinkRec :=
  { l with followUp := on, pollDue := l.pollDue && on }

/-- The retry limit in force (R65). -/
def State.retryLimit (s : State) : Nat := s.cu.settings.retryLimit

def State.linkRequest (s : State) (i : SlotId) (f : Frame) : State :=
  s.modLink i fun l => l.request f s.retryLimit

def State.linkQuery (s : State) (i : SlotId) : State := s.modLink i fun l => l.query s.retryLimit

def State.linkWithdraw (s : State) (i : SlotId) : State := s.modLink i LinkRec.withdraw

def State.linkAsk (s : State) (i : SlotId) (k : NoTurn) : State := s.modLink i fun l => l.ask k

/-! ### The line -/

/-- The LE is neither transmitting nor holding a reply window open: with a high line this makes the line free (R60). -/
def LinkRec.quiet (l : LinkRec) : Bool :=
  l.sending.isNone && l.stale.isNone &&
    match l.exchange with
    | some x => x.phase != .send && x.phase != .reply
    | none => true

/-- The phase of the current exchange set. -/
def LinkRec.inPhase (l : LinkRec) (x : Exchange) (p : Phase) : LinkRec :=
  { l with exchange := some { x with phase := p } }

/-- Whether a POLL is to be served (R75, item 3). -/
def LinkRec.pollWanted (l : LinkRec) : Bool := l.attention || l.pollDue

/-- Taking up the next item of work of a free LE (R75, items 2 and 3): the pending request, or a POLL. -/
def LinkRec.takeUp (l : LinkRec) (limit : Nat) : LinkRec :=
  match l.pendingReq with
  | some f => { l.begin f limit with pendingReq := none }
  | none => if l.pollWanted then l.begin .poll limit else l

/-- The attempt that waits for the line is begun (R60, R64): its bit is then the bit of the last turn frame begun (R63).
-/
def LinkRec.transmit (l : LinkRec) : LinkRec :=
  match l.exchange with
  | some x => if x.phase = .waitLine then { l.inPhase x .send with seq := x.bit } else l
  | none => l

/-- Serving one item on a free line (R73, R75): a waiting frame without turn, else the attempt that waits, else the
pending request, else a POLL. -/
def LinkRec.serve (l : LinkRec) (limit : Nat) : LinkRec :=
  if l.link = .down || !l.quiet then l
  else
    match l.waiting with
    | some k => { l with sending := some (k, l.seq), waiting := none }
    | none => if l.exchange.isSome then l.transmit else (l.takeUp limit).transmit

/-- The end of a withdrawn frame (R70, R71): its window opens, and a QUERY that was due starts. -/
def LinkRec.completed (l : LinkRec) (limit : Nat) : LinkRec :=
  let l := { l with stale := some .reply }
  if l.queryDue then ({ l with queryDue := false } : LinkRec).begin .query limit else l

/-- The last stop bit of the frame being transmitted (R64, R73): a turn frame opens its window; so does a frame
withdrawn while it was sent (R70). -/
def LinkRec.sent (l : LinkRec) (limit : Nat) : LinkRec :=
  if l.sending.isSome then { l with sending := none }
  else if l.completing then l.completed limit
  else
    match l.exchange with
    | some x => if x.phase = .send then l.inPhase x .reply else l
    | none => l

/-- The next attempt made ready, and sent at once on a free line with no frame without turn waiting (R73). -/
def LinkRec.ready (l : LinkRec) (x : Exchange) (lineFree : Bool) : LinkRec :=
  let l := l.inPhase x .waitLine
  if lineFree && l.waiting.isNone && l.quiet then l.transmit else l

/-- A retry (R65): the same frame and sequence bit, one more attempt. -/
def LinkRec.retry (l : LinkRec) (lineFree : Bool) : LinkRec :=
  match l.exchange with
  | some x => if x.phase = .gap then l.ready { x with attempts := x.attempts + 1 } lineFree else l
  | none => l

/-- A re-send (R82): the same frame and sequence bit, counted up to 255. That it is counted when it is made ready, so
also when it then finds no free line, is the model's choice (notes/assumptions/35.md). -/
def LinkRec.resend (l : LinkRec) (lineFree : Bool) : LinkRec :=
  match l.exchange with
  | some x =>
    if x.phase = .held then ({ l with resends := min (l.resends + 1) 255 } : LinkRec).ready x lineFree else l
  | none => l

/-- Attention (R76): a low level of 200 microseconds or longer sets the latch, one below 100 does not, and between the
two `heard` decides. The LE watches the line in UP and LOST while it is neither transmitting nor holding a window. -/
def LinkRec.attend (l : LinkRec) (us : Nat) (heard : Bool) : LinkRec :=
  if l.link != .down && l.quiet && (decide (200 ≤ us) || (decide (100 ≤ us) && heard)) then
    { l with attention := true }
  else l

/-- The follow-up interval ends (R77): a POLL becomes due while polling is on. -/
def LinkRec.followUpEnds (l : LinkRec) : LinkRec := { l with pollDue := l.pollDue || l.followUp }

/-- Clearing the near-side and far-side flags (R80). -/
def LinkRec.clearFlags (l : LinkRec) : LinkRec := { l with near := 0, far := 0 }

/-! ### Good replies -/

/-- Steps 1 to 3 of R67 at the record: kind, retries used (kept for a re-send), UP, far-side flags, and the LE free. -/
def LinkRec.goodReply (l : LinkRec) (x : Exchange) (r : Reply) : LinkRec :=
  { l with
    lastReply := some r.kind
    retriesUsed := if x.resent then l.retriesUsed else x.attempts - 1
    link := .up
    far := l.far ||| farBits r.status
    exchange := none }

/-- Whether a good reply appends LINK_ERRORS (R79): status faults, or a bad attempt of the exchange while the link
stayed UP. -/
def linkErrorsDue (l : LinkRec) (x : Exchange) (r : Reply) : Bool :=
  farBits r.status != 0 || (l.link == .up && decide (1 < x.attempts))

/-- Steps 1 to 3 of R67, with their events. -/
def State.linkGood (s : State) (i : SlotId) (x : Exchange) (r : Reply) : State :=
  let old := s.link i
  let s := s.modLink i fun l => l.goodReply x r
  let s := if old.link = .lost then s.event .linkRestored (some i) r.kind.code old.resends else s
  if linkErrorsDue old x r then s.event .linkErrors (some i) (s.link i).near.toNat (s.link i).far.toNat else s

/-- A reply for an exchange the LE no longer holds, whole as far as its CRC: STALE_REPLY, and no more (R84). -/
def LinkRec.staleReply (l : LinkRec) (f : NearFlag) : LinkRec := { l.withNear f with stale := none }

end Sys2Proof.Machine
end

