-- ==== Sys2Proof/Machine/Sequencer.lean ====
section
/-! DEFINITION. The Slot Sequencer (chapters 2, 3, and the SS side of chapters 5, 6, 7 and 11): the cut, faults,
requests taken from the AE and the CU, and what it makes of each reply, failure, timer and input. The SS decides nothing about
power: it tells the AE by notices, which wait in the slot's `outbox` until the AE takes them. -/

namespace Sys2Proof.Machine

/-! ### Reading the slot record -/

/-- The power of the granted point (R18), 0 while none is granted. -/
def SlotRec.grantedPower (r : SlotRec) : Nat := ((r.current.map fun l => l.powerAt r.granted)).getD 0

/-- The effective class a list gives a slot (R50). -/
def State.classOf (s : State) (i : SlotId) (l : DemandList) : Nat := max l.cardClass (s.policy i).classLimit

/-- The standing power of R142: the claim that R4 gives for the state, reckoned from the slot record. -/
def SlotRec.standing (r : SlotRec) (maxPower : Nat) : Nat :=
  match r.state with
  | .offering | .raising => (r.offered.map Offered.power).getD 0
  | .powering | .powered | .restating | .reducing => r.grantedPower
  | .resync => maxPower
  | .empty | .settling | .identify | .standby | .waiting | .parked | .faulted | .lockedOut => 0

def State.standingPower (s : State) (i : SlotId) : Nat := (s.slot i).standing (s.policy i).maxPower

/-- The outstanding index of the SUMMARY record (R180). -/
def SlotRec.outstandingIndex (r : SlotRec) : Nat :=
  match r.state with
  | .offering | .raising | .restating => (r.offered.map Offered.index).getD 0
  | .reducing => (r.reduction.map Reduction.targetIndex).getD 0
  | _ => 0

/-! ### Small changes -/

/-- Sending a notice (R5): notices of one SS are taken in the order sent. -/
def State.notify (s : State) (i : SlotId) (n : Notice) : State :=
  s.modSlot i fun r => { r with outbox := r.outbox ++ [n] }

/-- Leaving the admission queue (R26, R86), in the step of the exit; the blocked flag clears (R96). -/
def State.leaveQueue (s : State) (i : SlotId) : State :=
  { s with ae := { s.ae with
      entryOrder := s.ae.entryOrder.filter (· != i)
      slots := updateAt s.ae.slots i fun e => { e with blocked := false } } }

/-- Discarding the lists: the effective class returns to the class limit (R25, R50). -/
def SlotRec.discard (r : SlotRec) (classLimit : Nat) : SlotRec :=
  { r with current := none, arriving := none, restated := none, effClass := classLimit }

def State.discard (s : State) (i : SlotId) : State :=
  s.modSlot i fun r => r.discard (s.policy i).classLimit

def State.enter (s : State) (i : SlotId) (st : SlotState) : State := s.modSlot i fun r => { r with state := st }

/-- A list becoming current (R50, R110): the effective class is computed and the raise-declined flag clears. -/
def State.makeCurrent (s : State) (i : SlotId) (l : DemandList) : State :=
  s.modSlot i fun r =>
    { r with current := some l, arriving := none, restated := none, effClass := s.classOf i l,
             raiseDeclined := false }

/-! ### The cut, faults and removal -/

/-- Step 1 of the cut (R21), with what every cut clears: granted index, pending list, offer and reduction records,
owed reduction (R152), raise-declined (R110) and link-hold (R34) flags. -/
def SlotRec.cut (r : SlotRec) : SlotRec :=
  { r with
    en := false
    timers := { r.timers with ramp := none, reduce := none, grace := none, clean := none }
    granted := 0, restated := none, offered := none, reduction := none, owed := none
    raiseDeclined := false, linkHold := false }

/-- Step 2 of the cut (R21): everything is withdrawn, polling is off (R77), and a CUT frame is asked for. -/
def LinkRec.cut (l : LinkRec) : LinkRec := (l.withdraw.polling false).ask .cut

/-- Steps 1 and 2 of the cut (R21); the calling rule sends the notice last. -/
def State.cut (s : State) (i : SlotId) : State := (s.modSlot i SlotRec.cut).modLink i LinkRec.cut

/-- The holdoff timer's value (R38): none for 0 steps. -/
def State.holdoffTimer (s : State) : Option Nat :=
  if s.cu.settings.holdoffSteps = 0 then none else some (s.cu.settings.holdoffSteps * 100)

/-- The slot record entering FAULTED or LOCKED_OUT (R37 steps 2 and 4, R39): strikes never exceed 3. -/
def SlotRec.faulted (r : SlotRec) (cause : FaultCause) (holdoff : Option Nat) : SlotRec :=
  let strikes := min (r.strikes + 1) 3
  { r with
    cause := some cause, strikes := strikes, offered := none
    state := if strikes < 3 then .faulted else .lockedOut
    timers := { r.timers with holdoff := if strikes < 3 then holdoff else none } }

/-- Entering FAULTED, or LOCKED_OUT at the third strike (R37, R39). A WAITING slot leaves the queue (R26). -/
def State.fault (s : State) (i : SlotId) (cause : FaultCause) : State :=
  let s := if (s.slot i).en then s.cut i else s
  let s := (s.leaveQueue i).modSlot i fun r =>
    (r.discard (s.policy i).classLimit).faulted cause s.holdoffTimer
  let s := s.event .fault (some i) cause.code (s.slot i).strikes
  let s := if (s.slot i).state = .lockedOut then s.event .lockout (some i) cause.code 3 else s
  s.notify i (.faulted cause)

/-- Removal (R35) in any state but EMPTY. Notices on their way, and a command watch, outlive it. -/
def State.remove (s : State) (i : SlotId) : State :=
  let r := s.slot i
  if r.state = .empty then s
  else
    let s := (s.leaveQueue i).modLink i fun _ => LinkRec.reset
    let s := s.modSlot i fun r =>
      { SlotRec.reset r.presN r.pg r.fltN (s.policy i).classLimit with
        watch := r.watch, outbox := r.outbox, mapRequests := r.mapRequests }
    (s.event .removed (some i) r.state.code r.grantedPower).notify i .removed

/-- Presence (R22): SETTLING, PRESENT, and the 50 ms settle timer. -/
def State.settle (s : State) (i : SlotId) : State :=
  (s.modSlot i fun r =>
    { r with state := .settling, timers := { r.timers with settle := some Config.settleMs } }).event
      .present (some i) 0 0

/-- Entering IDENTIFY, which asks the LE for QUERY (R23). -/
def State.identify (s : State) (i : SlotId) : State :=
  (s.modSlot i fun r =>
    { r with state := .identify, timers := { r.timers with settle := none, holdoff := none } }).linkQuery i

/-! ### Requests taken from the AE and the CU -/

/-- Taking an offer request (R27): OFFERING, and an OFFER with the restate flag clear. -/
def State.takeOffer (s : State) (i : SlotId) (o : Offered) : State :=
  (s.modSlot i fun r => { r with state := .offering, offered := some o }).linkRequest i
    (.offer o.index o.power o.tag false)

/-- Taking a RAISE request (R106), declined without frame, flag or event when a pending list is held (R57). -/
def State.takeRaise (s : State) (i : SlotId) (o : Offered) : State :=
  if (s.slot i).restated.isSome then s.notify i (.declined .raise (s.slot i).grantedPower)
  else
    (s.modSlot i fun r => { r with state := .raising, offered := some o }).linkRequest i
      (.offer o.index o.power o.tag false)

/-- REFUSE for a list the SS does not take (R55, R57, R58), with DEMAND_REFUSED (R59). -/
def State.refuse (s : State) (i : SlotId) : State :=
  (s.linkAsk i .refuse).event .demandRefused (some i) (s.slot i).state.code (s.slot i).grantedPower

/-- A pending list dropped by a REDUCE (R57). -/
def State.dropPending (s : State) (i : SlotId) : State :=
  if (s.slot i).restated.isSome then (s.modSlot i fun r => { r with restated := none }).refuse i else s

/-- The reduce deadline's value in ms (R36, R146). -/
def State.reduceMs (s : State) : Nat := s.cu.settings.reduceSteps * 10

/-- Entering REDUCING (R119, R36). -/
def State.beginReduce (s : State) (i : SlotId) (index power : Nat) (origin : Origin) : State :=
  (s.modSlot i fun r =>
    { r with
      state := .reducing
      reduction := some { targetIndex := index, targetPower := power, entryPower := power, origin := origin }
      timers := { r.timers with reduce := some s.reduceMs } }).linkRequest i (.reduce index power)

/-- The origin after an upgrade request (R124). -/
def upgradedOrigin (old new : Origin) (lowers : Bool) : Origin :=
  if new = .host then .host else if new = .policy && lowers then .policy else old

/-- A REDUCE request that reaches a slot in REDUCING (R124). -/
def State.upgrade (s : State) (i : SlotId) (d : Reduction) (index power : Nat) (origin : Origin) : State :=
  let origin' := upgradedOrigin d.origin origin (decide (power < d.targetPower))
  if power < d.targetPower then
    (s.modSlot i fun r =>
      { r with reduction := some { d with targetIndex := index, targetPower := power, origin := origin' } }).linkRequest
        i (.reduce index power)
  else s.modSlot i fun r => { r with reduction := some { d with origin := origin' } }

/-- An owed reduction recorded: one owed by a revoke takes the place of a policy reduction and is not displaced by
one (R152, R155). That of two policy reductions the later holds, be its target the higher, is the model's choice
(notes/assumptions/22.md). -/
def State.owe (s : State) (i : SlotId) (o : Owed) : State :=
  s.modSlot i fun r =>
    { r with owed := if r.owed.any (fun w => w.origin = .host) && o.origin != .host then r.owed else some o }

/-- A REDUCE request by slot state (R57, R119, R124). -/
def State.takeReduce (s : State) (i : SlotId) (index power : Nat) (origin : Origin) : State :=
  match (s.slot i).state, (s.slot i).reduction with
  | .powered, _ => (s.dropPending i).beginReduce i index power origin
  | .reducing, some d => s.upgrade i d index power origin
  | .restating, _ => s.owe i { origin := origin, targetPower := power }
  | _, _ => s

/-- The policy reduction that a lowered max power calls for (R152), by slot state. -/
def State.policyReduce (s : State) (i : SlotId) : State :=
  let r := s.slot i
  let maxPower := (s.policy i).maxPower
  let target := (r.current.map DemandList.policyTarget).getD (0, 0)
  if s.standingPower i ≤ maxPower then s
  else
    match r.state with
    | .powered | .reducing => s.takeReduce i target.1 target.2 .policy
    | .raising | .restating => s.owe i { origin := .policy, targetPower := maxPower }
    | _ => s

/-- A reduction owed during a raise or RESYNC, carried out in POWERED (R152, R155). -/
def State.carryOwed (s : State) (i : SlotId) : State :=
  let r := s.slot i
  let s' := s.modSlot i fun r => { r with owed := none }
  match r.owed with
  | none => s
  | some o =>
    if o.origin = .host then s'.takeReduce i 0 0 .host
    else s'.policyReduce i

/-- A REDUCE held in RESTATING, re-expressed against the new current list (R57). -/
def State.carryHeld (s : State) (i : SlotId) (l : DemandList) (mapped : Nat) : State :=
  let s' := s.modSlot i fun r => { r with owed := none }
  match (s.slot i).owed with
  | none => s
  | some o =>
    if o.targetPower = 0 then s'.takeReduce i 0 0 o.origin
    else if mapped ≤ o.targetPower then s'.notify i (.reduced mapped)
    else
      match l.highestPoint o.targetPower with
      | some (k, x) => s'.takeReduce i k x.power o.origin
      | none => s'.takeReduce i 0 0 o.origin

/-! ### Power-up -/

/-- PG high in POWERING (R29): POWERED, GRANTED, clean time, and POWERED to the AE. -/
def State.becomePowered (s : State) (i : SlotId) : State :=
  let s := s.modSlot i fun r =>
    { r with state := .powered, timers := { r.timers with ramp := none, clean := some Config.cleanMs } }
  let r := s.slot i
  (s.event .granted (some i) r.granted r.grantedPower).notify i (.powered r.grantedPower)

/-- Levels already held at the entry to POWERING (R20, R29, R32); FLT_N low comes first. -/
def State.poweringLevels (s : State) (i : SlotId) : State :=
  if !(s.slot i).fltN then s.fault i .switchFault
  else if (s.slot i).pg then s.becomePowered i
  else s

/-- ACCEPT to an offer (R27, R29): EN, POWERING and the ramp timer, and ACCEPTED to the AE. -/
def State.acceptOffer (s : State) (i : SlotId) (o : Offered) : State :=
  ((s.modSlot i fun r =>
    { r with
      granted := o.index, en := true, state := .powering, offered := none
      timers := { r.timers with ramp := some s.cu.settings.rampMs } }).notify i
        (.accepted .offer o.power)).poweringLevels i

/-- An offer or power-up that ends in STANDBY with nothing on the switch (R27, R28). -/
def State.dropOffer (s : State) (i : SlotId) : State :=
  ((s.modSlot i fun r => { r with state := .standby, offered := none }).discard i).linkWithdraw i

/-! ### Replies -/

/-- Events of an accepted list: DEMAND with the count and the preferred power, as R59 and section 8.2 give its fields
(R88 calls the class shown by it; notes/assumptions/37.md), and DEMAND_TRIMMED where a point is unavailable (R47). -/
def State.demandEvents (s : State) (i : SlotId) (l : DemandList) : State :=
  let s := s.event .demand (some i) l.count ((l.preferred.map fun p => p.2.power).getD 0)
  if l.allAvail then s else s.event .demandTrimmed (some i) l.mask (s.policy i).maxPower

/-- DEMAND_BAD for a rejected list (R59). -/
def State.demandBad (s : State) (i : SlotId) : Verdict → State
  | .malformed n => s.event .demandBad (some i) 1 n
  | .overMax => s.event .demandBad (some i) 2 (s.policy i).maxPower
  | .valid _ => s

/-- A valid list taken in IDENTIFY, STANDBY, WAITING or PARKED (R24 to R26, R48). In WAITING and PARKED it replaces the
current list. From IDENTIFY and STANDBY the entry to WAITING is a step shared with the AE (R26): the list is held as
arriving until the AE takes the DEMAND notice (notes/assumptions/5.md); in STANDBY with a list kept, whose entry is
under way, it replaces that list (notes/assumptions/20.md). With admit disabled the slot parks at once. -/
def State.takeList (s : State) (i : SlotId) (l : DemandList) : State :=
  let s := s.demandEvents i l
  let s :=
    if (s.slot i).state = .waiting ∨ (s.slot i).state = .parked then s.makeCurrent i l
    else if !(s.policy i).admits then (s.makeCurrent i l).enter i .parked
    else if (s.slot i).state = .standby ∧ (s.slot i).current.isSome then s.makeCurrent i l
    else s.modSlot i fun r => { r with arriving := some l }
  s.notify i (.demand false none)

/-- A restatement begun (R53). A RESTATE-MAP request still on its way names a point of a list dropped before, and is
discarded (notes/assumptions/21.md). -/
def State.beginRestatement (s : State) (i : SlotId) (l : DemandList) : State :=
  ((s.modSlot i fun r => { r with restated := some l, mapRequests := [] }).demandEvents i l).notify i
    (.demand true none)

/-- RESYNC concluding in POWERED at point c (R197): the list becomes current, GRANTED, clean time and POWERED to the
AE; an owed revoke is carried out in the same happening (R155). -/
def State.resyncPowered (s : State) (i : SlotId) (l : DemandList) (c : Nat) : State :=
  let s := (s.makeCurrent i l).modSlot i fun r =>
    { r with state := .powered, granted := c, timers := { r.timers with clean := some Config.cleanMs } }
  let s := (s.demandEvents i l).event .granted (some i) c (l.powerAt c)
  (s.notify i (.powered (l.powerAt c))).carryOwed i

/-- RESYNC concluding at no point, current index 0 (R197): cut, and STANDBY with the list kept until the AE takes the
notice (R25); PARKED at the cut while admit is disabled (R151). -/
def State.resyncUnpowered (s : State) (i : SlotId) (l : DemandList) : State :=
  let s := ((s.cut i).makeCurrent i l).enter i (if (s.policy i).admits then .standby else .parked)
  (s.demandEvents i l).notify i (.demand false (some 0))

/-- The DEMAND reply that answers RESYNC's QUERY (R197). -/
def State.resyncDemand (s : State) (i : SlotId) (v : Verdict) : State :=
  match v with
  | .malformed _ | .overMax => ((s.cut i).demandBad i v).fault i .resyncFail
  | .valid l =>
    let c := l.currentIndex.toNat
    if c = 0 then s.resyncUnpowered i l
    else if ((l.point c).map Point.avail).getD false then s.resyncPowered i l c
    else ((s.cut i).demandEvents i l).fault i .resyncFail

/-- A DEMAND reply by slot state (R48). -/
def State.onDemand (s : State) (i : SlotId) (payload : List Byte) : State :=
  let v := readDemand payload (s.policy i).maxPower
  match (s.slot i).state with
  | .identify | .standby | .waiting | .parked =>
    match v with
    | .valid l => s.takeList i l
    | .malformed _ | .overMax => (s.demandBad i v).fault i .badDemand
  | .powered =>
    if (s.slot i).restated.isSome then s.refuse i
    else
      match v with
      | .valid l => s.beginRestatement i l
      | .malformed _ | .overMax => (s.demandBad i v).linkAsk i .refuse
  | .offering | .powering | .raising | .restating | .reducing => s.refuse i
  | .resync => s.resyncDemand i v
  | .empty | .settling | .faulted | .lockedOut => s

/-- A mapping accepted (R56), with a held REDUCE re-expressed (R57). -/
def State.acceptMapping (s : State) (i : SlotId) (l : DemandList) (o : Offered) : State :=
  let s := (s.makeCurrent i l).modSlot i fun r =>
    { r with state := .powered, granted := o.index, offered := none }
  let s := (s.event .restated (some i) o.index o.power).notify i (.accepted .mapping o.power)
  s.carryHeld i l o.power

/-- A raise accepted (R107), with an owed reduction carried out (R152, R155). -/
def State.acceptRaise (s : State) (i : SlotId) (o : Offered) : State :=
  let s := s.modSlot i fun r => { r with state := .powered, granted := o.index, offered := none }
  ((s.event .raised (some i) o.index o.power).notify i (.accepted .raise o.power)).carryOwed i

/-- An ACCEPT reply by slot state (R27, R56, R107); in any other state it is not an answer to a current request (R72).
-/
def State.onAccept (s : State) (i : SlotId) : State :=
  match (s.slot i).state, (s.slot i).offered with
  | .offering, some o => s.acceptOffer i o
  | .raising, some o => s.acceptRaise i o
  | .restating, some o =>
    match (s.slot i).restated with
    | some l => s.acceptMapping i l o
    | none => s
  | _, _ => s

/-- A raise declined (R108), with an owed reduction carried out (R152, R155). -/
def State.declineRaise (s : State) (i : SlotId) (o : Offered) : State :=
  let s := s.modSlot i fun r => { r with state := .powered, raiseDeclined := true, offered := none }
  ((s.event .raiseDeclined (some i) o.index o.power).notify i
    (.declined .raise (s.slot i).grantedPower)).carryOwed i

/-- The cut of a card that gives up its power (R31, R56): STANDBY, RELEASED, and the notice given. -/
def State.releaseCut (s : State) (i : SlotId) (n : Notice) : State :=
  let r := s.slot i
  let s := ((s.cut i).enter i .standby).discard i
  (s.event .released (some i) r.granted r.grantedPower).notify i n

/-- An offer declined or released (R27). -/
def State.declineOffer (s : State) (i : SlotId) (o : Offered) (n : Notice) : State :=
  ((s.dropOffer i).event .offerDeclined (some i) o.index o.power).notify i n

/-- A DECLINE reply by slot state (R27, R56, R108). -/
def State.onDecline (s : State) (i : SlotId) : State :=
  match (s.slot i).state, (s.slot i).offered with
  | .offering, some o => s.declineOffer i o (.declined .offer 0)
  | .raising, some o => s.declineRaise i o
  | .restating, _ => s.releaseCut i (.declined .mapping 0)
  | _, _ => s

/-- A demand withdrawn in WAITING or PARKED (R26). -/
def State.withdrawDemand (s : State) (i : SlotId) : State :=
  (((s.leaveQueue i).enter i .standby).discard i).notify i .released

/-- A RELEASE reply by slot state (R25 to R27, R31). -/
def State.onRelease (s : State) (i : SlotId) : State :=
  match (s.slot i).state, (s.slot i).offered with
  | .powering, _ | .powered, _ | .raising, _ | .restating, _ | .reducing, _ => s.releaseCut i .released
  | .offering, some o => s.declineOffer i o .released
  | .waiting, _ | .parked, _ => s.withdrawDemand i
  | .standby, _ | .identify, _ => (s.enter i .standby).discard i
  | _, _ => s

/-- IDLE answering RESYNC's QUERY (R197). -/
def State.resyncIdle (s : State) (i : SlotId) : State :=
  let s := ((s.cut i).enter i .standby).discard i
  (s.event .released (some i) 0 (s.policy i).maxPower).notify i .released

/-- An IDLE reply by slot state (R24 to R26, R31, R197). -/
def State.onIdle (s : State) (i : SlotId) : State :=
  match (s.slot i).state with
  | .powering | .powered | .raising | .restating | .reducing => s.releaseCut i .released
  | .waiting | .parked => s.withdrawDemand i
  | .standby | .identify => (s.enter i .standby).discard i
  | .resync => s.resyncIdle i
  | .offering | .empty | .settling | .faulted | .lockedOut => s

/-- NOTED in REDUCING (R120): follow-up polling on and a NOTED notice, once; discarded in any other state. -/
def State.onNoted (s : State) (i : SlotId) : State :=
  if (s.slot i).state = .reducing && !(s.link i).followUp then
    (s.modLink i fun l => l.polling true).notify i .noted
  else s

/-- The slot record leaving REDUCING for POWERED (R121). -/
def SlotRec.reduced (r : SlotRec) (index : Nat) : SlotRec :=
  { r with
    state := .powered, granted := index, reduction := none, timers := { r.timers with reduce := none } }

/-- A reduction completing at a nonzero point (R121). -/
def State.completeAt (s : State) (i : SlotId) (index power : Nat) : State :=
  let s := (s.modSlot i fun r => r.reduced index).modLink i fun l =>
    { l.polling false with pendingReq := none }
  (s.event .reduced (some i) index power).notify i (.reduced power)

/-- A reduction completing at 0 (R122): where a victim's demand stands the list is kept. -/
def State.completeZero (s : State) (i : SlotId) (d : Reduction) : State :=
  let r := s.slot i
  let s := s.cut i
  let s :=
    if d.origin = .reclaim && (r.current.map DemandList.anyAvail).getD false then
      s.enter i (if (s.policy i).admits then .standby else .parked)
    else (s.enter i .standby).discard i
  (s.event .revoked (some i) r.granted r.grantedPower).notify i (.reduced 0)

/-- A partial reduction (R123). -/
def State.completePart (s : State) (i : SlotId) (index power : Nat) : State :=
  ((s.modSlot i fun r => { r with granted := index }).event .reduced (some i) index power).notify i
    (.reduced power)

/-- A REDUCED reply judged against the reduction held (R120); discarded in any state but REDUCING. -/
def State.onReduced (s : State) (i : SlotId) (answersReduce : Bool) (index : Nat) : State :=
  match (s.slot i).state, (s.slot i).reduction, (s.slot i).current with
  | .reducing, some d, some l =>
    if index = (s.slot i).granted then (if answersReduce then s.onNoted i else s)
    else if index = 0 then s.completeZero i d
    else
      match l.point index with
      | none => s.modLink i fun l => l.withNear .kindBad
      | some x =>
        if x.power ≤ d.targetPower then s.completeAt i index x.power
        else if x.power ≤ d.entryPower && decide (x.power < (s.slot i).grantedPower) then
          s.completePart i index x.power
        else s.modLink i fun l => l.withNear .kindBad
  | _, _, _ => s

/-- Restore taken (R34): the grace timer stops and link-hold clears. -/
def State.restore (s : State) (i : SlotId) : State :=
  s.modSlot i fun r => { r with linkHold := false, timers := { r.timers with grace := none } }

/-- The SS taking a reply that its LE hands over (R67 step 4), with the frame it answers (R72). -/
def State.onReply (s : State) (i : SlotId) (f : Frame) (r : Reply) : State :=
  let s := s.restore i
  match r.kind with
  | .demand => s.onDemand i r.payload
  | .accept => s.onAccept i
  | .decline => s.onDecline i
  | .noted => s.onNoted i
  | .reduced => s.onReduced i (f.code == 4) (r.payload.getD 0 0).toNat
  | .release => s.onRelease i
  | .idle => s.onIdle i

/-! ### Failures and bad replies -/

/-- Link grace starts (R34). -/
def State.startGrace (s : State) (i : SlotId) : State :=
  s.modSlot i fun r =>
    { r with linkHold := true, timers := { r.timers with grace := some (s.cu.settings.graceSteps * 100) } }

/-- The SS taking the report of a failed exchange, by slot state (R27, R33, R34, R40, R197). In OFFERING the LE's
re-send is withdrawn; that an OFFER still pending behind a failed POLL is dropped with it is DEDUCED
(notes/assumptions/18.md). -/
def State.onFailure (s : State) (i : SlotId) : State :=
  match (s.slot i).state with
  | .identify | .standby | .waiting | .parked => s.fault i .noLink
  | .offering => (s.linkWithdraw i).fault i .noLink
  | .powering | .powered | .raising | .restating | .reducing => s.startGrace i
  | .resync => s.fault i .resyncFail
  | .empty | .settling | .faulted | .lockedOut => s

/-- The LE's record of a failed exchange (R66, R81, R82): LOST, the frame held, the re-send count 0 on entry. -/
def LinkRec.failed (l : LinkRec) (x : Exchange) : LinkRec :=
  { l with
    exchange := some { x with phase := .held, resent := true }
    retriesUsed := x.limit
    resends := if l.link = .up then 0 else l.resends
    link := .lost }

/-- An exchange failing (R66): LINK_LOST on the entry to LOST (R81), and the report to the SS. -/
def State.linkFailed (s : State) (i : SlotId) (x : Exchange) : State :=
  let wasUp := (s.link i).link = .up
  let s := s.modLink i fun l => l.failed x
  let s := if wasUp then s.event .linkLost (some i) x.frame.code x.attempts else s
  s.onFailure i

/-- A bad reply to the current exchange (R65): its flag, and then a retry, a further re-send (R82), or failure. -/
def State.badReply (s : State) (i : SlotId) (x : Exchange) (f : NearFlag) : State :=
  let s := s.modLink i fun l => l.withNear f
  if x.resent then s.modLink i fun l => l.inPhase x .held
  else if x.attempts ≤ x.limit then s.modLink i fun l => l.inPhase x .gap
  else s.linkFailed i x

/-- A judged reply to the current exchange (R65, R67). -/
def State.judged (s : State) (i : SlotId) (x : Exchange) : Judged → State
  | .bad f => s.badReply i x f
  | .good r => (s.linkGood i x r).onReply i x.frame r

/-- The exchange whose reply window is open, if any. -/
def LinkRec.awaiting (l : LinkRec) : Option Exchange :=
  match l.exchange with
  | some x => if x.phase = .reply then some x else none
  | none => none

/-- A whole reply with the right echo ending: judged while the exchange is current (R64), stale while only the window
of a withdrawn exchange is open (R84), disregarded otherwise (R60, R84). -/
def State.receive (s : State) (i : SlotId) (r : Reply) : State :=
  match (s.link i).awaiting with
  | some x => s.judged i x (judgeReply x.frame r)
  | none =>
    if (s.link i).stale = some .reply then
      s.modLink i fun l => l.staleReply (if 21 < r.payload.length then .lengthBad else .staleReply)
    else s

/-- Received bytes ending (R64), likewise. -/
def State.receiveBytes (s : State) (i : SlotId) (bytes : List Byte) : State :=
  match (s.link i).awaiting with
  | some x => s.judged i x (judgeBytes x.frame x.bit bytes)
  | none =>
    if (s.link i).stale = some .reply then
      s.modLink i fun l =>
        l.staleReply (match frameReply bytes with | .bad f => f | .whole .. => .staleReply)
    else s

/-- A reply window closing with no start bit (R64): NO_REPLY for the current exchange; the window of a withdrawn one
just ends (R70). -/
def State.windowClosed (s : State) (i : SlotId) : State :=
  match (s.link i).awaiting with
  | some x => s.badReply i x .noReply
  | none =>
    if (s.link i).stale = some .reply then s.modLink i fun l => { l with stale := none } else s

/-- The work a free LE would take up (R75, items 2 and 3), begun and not sent within its 2 ms (R60). -/
def State.takeUpTimeout (s : State) (i : SlotId) : State :=
  let s := s.modLink i fun l => l.takeUp s.retryLimit
  match (s.link i).exchange with
  | some x => s.badReply i x .noReply
  | none => s

/-- The 2 ms of a turn attempt running out (R60): the attempt that waits for the line counts as NO_REPLY, whatever frame
without turn waits beside it (R73); on an LE that holds none and is free, the work it would take up. -/
def State.attemptTimeout (s : State) (i : SlotId) : State :=
  match (s.link i).exchange with
  | some x => if x.phase = .waitLine then s.badReply i x .noReply else s
  | none => if (s.link i).busy then s else s.takeUpTimeout i

/-- A frame without turn that waits can be sent as soon as the line is free (R73): no frame is being sent, and no
exchange holds its window open. -/
def LinkRec.frameReady (l : LinkRec) : Bool :=
  l.sending.isNone && !l.completing && !(l.exchange.any fun x => x.phase = .send || x.phase = .reply)

/-- The 2 ms of a frame without turn running out (R60, R73): it is dropped. -/
def LinkRec.dropWaiting (l : LinkRec) : LinkRec := if l.frameReady then { l with waiting := none } else l

/-- The line not free within 2 ms (R60). -/
def State.lineTimeout (s : State) (i : SlotId) (attempt : Bool) : State :=
  if (s.link i).link = .down then s
  else if attempt then s.attemptTimeout i
  else s.modLink i LinkRec.dropWaiting

/-! ### The command watch -/

/-- The slot record at the end of a happening at the SS (R142): a watch whose limit the standing power has come down to
is cleared, and an ANSWER sent. -/
def SlotRec.answered (r : SlotRec) (maxPower : Nat) : SlotRec :=
  match r.watch with
  | none => r
  | some w =>
    if r.standing maxPower ≤ w.limit then
      { r with watch := none, outbox := r.outbox ++ [.answer w.tag w.num .ok (byteOf w.found)] }
    else r

def State.watchCheck (s : State) (i : SlotId) : State := s.modSlot i fun r => r.answered (s.policy i).maxPower

/-- A happening at one slot's SS: its effect, then the watch (R142). -/
def atSlot (i : SlotId) (f : State → State) (s : State) : State := (f s).watchCheck i

/-! ### Requests from the CU to one SS (chapter 7) -/

def State.answer (s : State) (i : SlotId) (tag : Fin 4) (num : Byte) (r : CmdResult) (detail : Nat) : State :=
  s.notify i (.answer tag num r (byteOf detail))

def State.setWatch (s : State) (i : SlotId) (w : Watch) : State :=
  s.modSlot i fun r => { r with watch := some w }

/-- A host revoke in POWERING (R28, R154): RELEASED carries the granted index and power. -/
def State.revokePowering (s : State) (i : SlotId) : State := s.releaseCut i .released

/-- A host revoke in OFFERING (R28, R154): the offer is withdrawn and a CUT frame is sent. -/
def State.revokeOffering (s : State) (i : SlotId) : State :=
  ((s.dropOffer i).linkAsk i .cut).notify i .released

/-- What REVOKE_SLOT does by slot state (R154, R155), the watch aside. -/
def State.revoke (s : State) (i : SlotId) : State :=
  match (s.slot i).state with
  | .offering => s.revokeOffering i
  | .powering => s.revokePowering i
  | .powered | .reducing => s.takeReduce i 0 0 .host
  | .raising | .restating | .resync => s.owe i { origin := .host, targetPower := 0 }
  | _ => s

/-- The states in which REVOKE_SLOT finds no power (R154). -/
def SlotState.unpowered : SlotState → Bool
  | .empty | .settling | .identify | .standby | .waiting | .parked | .faulted | .lockedOut => true
  | .offering | .powering | .powered | .raising | .restating | .reducing | .resync => false

/-- The SS taking REVOKE_SLOT (R154). -/
def State.takeRevoke (s : State) (i : SlotId) (tag : Fin 4) (num : Byte) : State :=
  let st := (s.slot i).state
  if st.unpowered then s.answer i tag num .notPowered st.code
  else ((s.setWatch i { tag := tag, num := num, limit := 0, found := st.code }).revoke i).watchCheck i

/-- The SS taking RESET_SLOT (R157). -/
def State.takeReset (s : State) (i : SlotId) (tag : Fin 4) (num : Byte) : State :=
  let st := (s.slot i).state
  if st = .faulted ∨ st = .lockedOut then
    ((s.modSlot i fun r => { r with strikes := 0 }).identify i).answer i tag num .ok st.code
  else s.answer i tag num .wrongState st.code

/-- A DEMAND taken in STANDBY whose entry to WAITING is under way: its list has arrived (notes/assumptions/5.md), or has
replaced a list kept from a cut, and its notice is on its way (notes/assumptions/20.md). -/
def SlotRec.awaitsEntry (r : SlotRec) : Bool :=
  r.state = .standby && (r.arriving.isSome || (r.current.isSome && r.outbox.any fun n => n == .demand false none))

/-- The SS taking REQUERY_SLOT (R158). A STANDBY slot that has taken a DEMAND counts as WAITING for it, so that the
demand is taken once. One that keeps its list from its cut on (R25), and has taken none since, is in STANDBY: that its
list is discarded with the return to IDENTIFY is the model's choice (notes/assumptions/20.md). -/
def State.takeRequery (s : State) (i : SlotId) (tag : Fin 4) (num : Byte) : State :=
  let st := if (s.slot i).awaitsEntry then .waiting else (s.slot i).state
  if st = .standby then ((s.discard i).identify i).answer i tag num .ok st.code
  else s.answer i tag num .wrongState st.code

/-! ### RESTATE-MAP (R55) -/

/-- The SS acting on a RESTATE-MAP request: only while POWERED with a pending list. The tag is that of the mapped
point in the pending list. -/
def State.takeMap (s : State) (i : SlotId) (o : Option Offered) : State :=
  match (s.slot i).state, (s.slot i).restated with
  | .powered, some l =>
    match o with
    | some p =>
      let tag := ((l.point p.index).map Point.tag).getD 0
      (s.modSlot i fun r => { r with state := .restating, offered := some { p with tag := tag } }).linkRequest i
        (.offer p.index p.power tag true)
    | none => (s.modSlot i fun r => { r with restated := none }).refuse i
  | _, _ => s

/-- The oldest RESTATE-MAP request taken. -/
def State.nextMap (s : State) (i : SlotId) : State :=
  match (s.slot i).mapRequests with
  | [] => s
  | o :: rest => (s.modSlot i fun r => { r with mapRequests := rest }).takeMap i o

/-! ### Timers and switch inputs -/

/-- Settle expiry (R23). -/
def State.settleExpires (s : State) (i : SlotId) : State :=
  if (s.slot i).timers.settle.isSome && (s.slot i).state = .settling then s.identify i else s

/-- Ramp expiry (R30). -/
def State.rampExpires (s : State) (i : SlotId) : State :=
  if (s.slot i).timers.ramp.isSome && (s.slot i).state = .powering then s.fault i .rampTimeout else s

/-- Reduce-deadline expiry (R36). -/
def State.reduceExpires (s : State) (i : SlotId) : State :=
  if (s.slot i).timers.reduce.isSome && (s.slot i).state = .reducing then s.fault i .reduceTimeout else s

/-- Grace expiry (R34). -/
def State.graceExpires (s : State) (i : SlotId) : State :=
  if (s.slot i).timers.grace.isSome && (s.slot i).state.poweredFamily then s.fault i .linkLost else s

/-- Holdoff expiry (R38): RETRY, then IDENTIFY. -/
def State.holdoffExpires (s : State) (i : SlotId) : State :=
  if (s.slot i).timers.holdoff.isSome && (s.slot i).state = .faulted then
    (s.event .retry (some i) (causeCode (s.slot i).cause) (s.slot i).strikes).identify i
  else s

/-- Clean-time expiry (R41): strikes 0, no event. -/
def State.cleanExpires (s : State) (i : SlotId) : State :=
  if (s.slot i).timers.clean.isSome && (s.slot i).state.poweredFamily then
    s.modSlot i fun r => { r with strikes := 0, timers := { r.timers with clean := none } }
  else s

/-- The levels of slot `i` after one sample has brought it these, if any (R20). -/
def SlotRec.sampled (r : SlotRec) (presN pg fltN : Option Bool) : SlotRec :=
  { r with presN := presN.getD r.presN, pg := pg.getD r.pg, fltN := fltN.getD r.fltN }

/-- The levels that one sample brings to slot `i`, taken as one happening (R20), each by its rule in the state found.
PRES_N high is a removal, and the other inputs are not acted on (R35); PRES_N low is presence (R22); FLT_N low cuts with
SWITCH_FAULT, PG low with it (R32), and PG low alone with POWER_LOST (R33); PG high ends POWERING (R29). That FLT_N low
comes before a PG high of the same sample is DEDUCED (notes/assumptions/19.md). A level no rule names for the state is
recorded. -/
def State.sample (s : State) (i : SlotId) (presN pg fltN : Option Bool) : State :=
  let st := (s.slot i).state
  let s := s.modSlot i fun r => r.sampled presN pg fltN
  if presN = some true then s.remove i
  else if presN = some false ∧ st = .empty then s.settle i
  else if fltN = some false ∧ st.enabled then s.fault i .switchFault
  else if pg = some true ∧ st = .powering then s.becomePowered i
  else if pg = some false ∧ st.enabled ∧ st ≠ .powering then s.fault i .powerLost
  else s

/-- Levels already held at the entry to RESYNC (R196): FLT_N low, else PG low, cuts at once. -/
def State.resyncLevels (s : State) (i : SlotId) : State :=
  if !(s.slot i).fltN then s.fault i .switchFault
  else if !(s.slot i).pg then s.fault i .powerLost
  else s

end Sys2Proof.Machine
end

