-- ==== Sys2Proof/Machine/Accounting.lean ====
section
/-! DEFINITION. The account of the Allocation Engine (chapter 1): committed, the effective budget, available power, the
excess condition, claims and holdings, the grant order list, and the orders derived from it. -/

namespace Sys2Proof.Machine

/-! ### The account -/

/-- Committed (R9): the sum of the eight claims, never kept apart from them. -/
def Ae.committed (a : Ae) : Nat := (a.slots.toList.map AeSlot.claim).sum

/-- The effective budget EB (R3). -/
def Ae.effective (a : Ae) : Nat := if a.derateN then a.budget else min a.budget a.derated

/-- Whether a slot is the beneficiary of the active ADMIT reclaim (R11, R97). -/
def State.isBeneficiary (s : State) (i : SlotId) : Bool :=
  s.ae.reclaim.active && s.ae.reclaim.kind == .admission && s.ae.reclaim.beneficiary == some i

/-- The available power for a decision made for a slot (R11): a negative result counts as 0. -/
def State.available (s : State) (i : SlotId) : Nat :=
  s.ae.effective
    - (s.ae.committed
      + (if (s.slot i).effClass = 0 then 0 else s.ae.reserve)
      + (if s.isBeneficiary i then 0 else s.ae.reclaim.earmark))

/-- The highest fitting point of a queued slot (R92), whose present claim is 0. -/
def State.fitting (s : State) (i : SlotId) : Option (Nat × Point) :=
  (s.slot i).current.bind fun l => l.highestWithin (s.available i)

/-- The raise point of a candidate (R105). -/
def State.raisePoint (s : State) (i : SlotId) : Option (Nat × Point) :=
  (s.slot i).current.bind fun l =>
    l.highestBetween (s.slot i).grantedPower (s.available i + (s.entry i).claim)

/-- The power of the floor of a slot's current list (R49), 0 where it holds none. -/
def State.floorPower (s : State) (i : SlotId) : Nat := ((s.slot i).current.map DemandList.floorPower).getD 0

/-- Evaluating the excess condition (R13). -/
def State.evalExcess (s : State) : State :=
  let c := s.ae.committed
  let e := s.ae.effective
  if e < c then
    if s.ae.excess then s
    else ({ s with ae := { s.ae with excess := true } } : State).event .budgetExcess none 0 (c - e)
  else if s.ae.excess then
    ({ s with ae := { s.ae with excess := false } } : State).event .budgetOk none 0 (e - c)
  else s

/-! ### Claims -/

/-- A decision raising a claim (R6): claim and exchange mark set, then excess evaluated. -/
def State.claimFor (s : State) (i : SlotId) (power : Nat) (mark : Mark) : State :=
  (s.modEntry i fun e => { e with claim := power, mark := mark }).evalExcess

/-- A claim set to 0 (R5, R14, R54, R85): the marks clear, and the slot leaves the grant order list. -/
def State.zeroClaim (s : State) (i : SlotId) : State :=
  let s := s.modEntry i fun e => { e with claim := 0, confirmed := 0, mark := .none, restating := false }
  { s with ae := { s.ae with grantOrder := s.ae.grantOrder.filter (· != i) } }

/-- A notice with a holding (R5): the holding is confirmed, and the claim is set to it, but for a nonzero holding that
meets a raise whose answer has not come, which leaves the raised claim (R6; notes/assumptions/6.md). -/
def State.takeHolding (s : State) (i : SlotId) (h : Nat) : State :=
  (if h = 0 then s.zeroClaim i
   else s.modEntry i fun e =>
     { e with confirmed := h, claim := if e.mark = .raise then e.claim else h }).evalExcess

/-- An answer to an offer or a raise (R99, R107, R108): the exchange mark clears, then the holding is taken. -/
def State.takeAnswer (s : State) (i : SlotId) (h : Nat) : State :=
  (s.modEntry i fun e => { e with mark := .none }).takeHolding i h

/-! ### The grant order list -/

/-- A slot's place in the grant order list given anew (R14); a slot whose claim is 0 has none. -/
def State.joinGrants (s : State) (i : SlotId) (place : List SlotId → List SlotId) : State :=
  { s with ae := { s.ae with
      grantOrder :=
        if (s.entry i).claim = 0 then s.ae.grantOrder else place (s.ae.grantOrder.filter (· != i)) } }

/-- Joining, or moving to, the tail of the grant order list (R14). -/
def State.joinTail (s : State) (i : SlotId) : State := s.joinGrants i (· ++ [i])

/-- A slot placed right after the last member of lower number, or at the head (R15). -/
def insertBySlot (i : SlotId) : List SlotId → List SlotId
  | [] => [i]
  | j :: rest => if (j :: rest).any (fun k => decide (k < i)) then j :: insertBySlot i rest else i :: j :: rest

def State.joinBySlot (s : State) (i : SlotId) : State := s.joinGrants i (insertBySlot i)

/-- The members of a list that have an effective class. -/
def State.ofClass (s : State) (c : Nat) (l : List SlotId) : List SlotId :=
  l.filter fun i => (s.slot i).effClass == c

/-- The admission queue, head first (R87): class 0 first, and entry order within a class. -/
def State.queue (s : State) : List SlotId :=
  [0, 1, 2, 3].flatMap fun c => s.ofClass c s.ae.entryOrder

/-- The shedding order (R16): worst class first, newest grant first within a class. -/
def State.shedding (s : State) : List SlotId :=
  [3, 2, 1, 0].flatMap fun c => s.ofClass c s.ae.grantOrder.reverse

/-- The raise order (R16, R105): class 0 first, oldest grant first within a class. -/
def State.raiseOrder (s : State) : List SlotId :=
  [0, 1, 2, 3].flatMap fun c => s.ofClass c s.ae.grantOrder

/-- The position of a slot in a list, 1 to its length, or 0 when it is not in it (R14, R89). -/
def positionIn (i : SlotId) (l : List SlotId) : Nat :=
  match l.findIdx? (· == i) with
  | some k => k + 1
  | none => 0

/-! ### Entries to WAITING -/

/-- Entering WAITING and the queue in one step (R26, R86): a new place at the end of the entry order, blocked clear. -/
def State.joinQueue (s : State) (i : SlotId) : State :=
  let s := (s.leaveQueue i).enter i .waiting
  { s with ae := { s.ae with entryOrder := s.ae.entryOrder ++ [i] } }

/-- The entry of a slot that has a valid demand and no power (R26, R151): WAITING, or PARKED while admit is disabled. -/
def State.admitDemand (s : State) (i : SlotId) : State :=
  if (s.policy i).admits then s.joinQueue i else s.enter i .parked

/-- The holding a notice carries, if it carries one (R5). -/
def Notice.holding : Notice → Option Nat
  | .demand _ h => h
  | .accepted _ h | .declined _ h | .reduced h | .powered h => some h
  | .released | .faulted _ | .removed => some 0
  | .noted | .answer .. => none

/-- Whether a notice frees the slot's claim (R5): its holding is 0. -/
def Notice.frees (n : Notice) : Bool := n.holding == some 0

/-- The AE knows of every claim that the slot has given up: no notice that frees it is on its way. An entry to WAITING
is made only then, by the notice that frees the claim or a later one (R25, R26; notes/assumptions/38.md). -/
def State.freed (s : State) (i : SlotId) : Bool := !(s.slot i).outbox.any Notice.frees

/-- The entry of a slot that awaits it in STANDBY with its current list kept (R25). -/
def State.admitKept (s : State) (i : SlotId) : State :=
  if (s.slot i).state = .standby ∧ (s.slot i).current.isSome ∧ s.freed i then s.admitDemand i else s

end Sys2Proof.Machine
end

