-- ==== Sys2Proof/Machine/Reclaim.lean ====
section
/-! DEFINITION. Reclaim (chapter 6) at the Allocation Engine: the choice of victims, the start, the outcomes, the end
tests, the conversion and the BUDGET trigger. -/

namespace Sys2Proof.Machine

/-! ### Offers (R93) -/

/-- The offer step (R93): the claim, the mark, the exit from the queue, and the SS taking the request (R27). -/
def State.offer (s : State) (i : SlotId) (p : Nat × Point) : State :=
  ((s.leaveQueue i).claimFor i p.2.power .offer).takeOffer i { index := p.1, power := p.2.power, tag := p.2.tag }

/-! ### Choosing victims (R115 to R117) -/

/-- The victims chosen so far, and their total of expected yield. -/
structure Selection where
  victims : List Victim
  total   : Nat
deriving DecidableEq, Repr

/-- Candidates among the slots in POWERED that a condition admits, in shedding order (R115, R16). -/
def State.candidates (s : State) (p : SlotId → Bool) : List SlotId :=
  s.shedding.filter fun i => (s.slot i).state == .powered && p i

/-- ADMIT candidates for a beneficiary (R94, R115): a worse class, and no pending list. -/
def State.admitCandidates (s : State) (b : SlotId) : List SlotId :=
  s.candidates fun i => decide ((s.slot b).effClass < (s.slot i).effClass) && (s.slot i).restated.isNone

/-- BUDGET candidates (R115). -/
def State.budgetCandidates (s : State) : List SlotId := s.candidates fun _ => true

/-- Whether a slot is listed. -/
def listed (i : SlotId) (l : List Victim) : Bool := l.any fun v => v.slot == i

/-- Conversion candidates (R115): not already listed. -/
def State.conversionCandidates (s : State) : List SlotId :=
  s.candidates fun i => !listed i s.ae.reclaim.victims

/-- Whether a candidate can be reduced to its floor (R115, R116). -/
def State.reducible (s : State) (i : SlotId) : Bool :=
  match (s.slot i).current with
  | some l => l.floorAvail && decide (l.floorPower < (s.entry i).claim)
  | none => false

/-- A REDUCE entry (R116). -/
def State.reduceEntry (s : State) (i : SlotId) : Victim :=
  { slot := i, revoke := false, targetIndex := ((s.slot i).current.map DemandList.count).getD 0,
    targetPower := s.floorPower i, expected := (s.entry i).claim - s.floorPower i, outcome := .pending }

/-- A REVOKE entry (R117). -/
def State.revokeEntry (s : State) (i : SlotId) : Victim :=
  { slot := i, revoke := true, targetIndex := 0, targetPower := 0, expected := (s.entry i).claim,
    outcome := .pending }

/-- Stage 1 (R116): reductions to the floor, until the total reaches the shortfall. -/
def State.stage1 (s : State) (shortfall : Nat) : List SlotId → Selection → Selection
  | [], a => a
  | i :: rest, a =>
    if shortfall ≤ a.total then a
    else
      s.stage1 shortfall rest
        (if s.reducible i then
          { victims := a.victims ++ [s.reduceEntry i], total := a.total + (s.reduceEntry i).expected }
         else a)

/-- One candidate of stage 2 (R117): its entry becomes REVOKE in its place, or a REVOKE entry is appended. -/
def State.revokeOne (s : State) (i : SlotId) (a : Selection) : Selection :=
  if listed i a.victims then
    { victims := a.victims.map fun v => if v.slot = i then s.revokeEntry i else v
      total := a.total + s.floorPower i }
  else { victims := a.victims ++ [s.revokeEntry i], total := a.total + (s.entry i).claim }

/-- Stage 2 (R117): revocations, until the total reaches the shortfall. -/
def State.stage2 (s : State) (shortfall : Nat) : List SlotId → Selection → Selection
  | [], a => a
  | i :: rest, a => if shortfall ≤ a.total then a else s.stage2 shortfall rest (s.revokeOne i a)

/-- The selection (R116, R117). -/
def State.selectVictims (s : State) (shortfall : Nat) (candidates : List SlotId) : List Victim :=
  (s.stage2 shortfall candidates (s.stage1 shortfall candidates { victims := [], total := 0 })).victims

/-! ### Starting (R118) -/

/-- Each victim's SS takes its REDUCE request, in list order (R118, R119). -/
def State.requestReductions (s : State) (l : List Victim) : State :=
  l.foldl (fun s v => s.takeReduce v.slot v.targetIndex v.targetPower .reclaim) s

/-- A reclaim starts: the record written afresh, RECLAIM_START, and the requests (R112, R118). -/
def State.startReclaim (s : State) (kind : ReclaimKind) (b : Option SlotId) (shortfall earmark : Nat)
    (victims : List Victim) : State :=
  let s := { s with ae := { s.ae with reclaim :=
    { active := true, kind := kind, beneficiary := b, shortfall := shortfall, earmark := earmark,
      victims := victims, yieldTaken := 0 } } }
  (s.event .reclaimStart b kind.code shortfall).requestReductions victims

/-- An ADMIT reclaim starts for the head (R95, R118): its blocked flag clears. -/
def State.startAdmit (s : State) (b : SlotId) (shortfall : Nat) : State :=
  (s.modEntry b fun e => { e with blocked := false }).startReclaim .admission (some b) shortfall (s.floorPower b)
    (s.selectVictims shortfall (s.admitCandidates b))

/-- A BUDGET reclaim starts (R118). -/
def State.startBudget (s : State) : State :=
  let shortfall := s.ae.committed - s.ae.effective
  s.startReclaim .budget none shortfall 0 (s.selectVictims shortfall s.budgetCandidates)

/-- The BUDGET trigger (R118). -/
def State.budgetTrigger (s : State) : State :=
  if s.ae.excess && !s.ae.reclaim.active && !s.ae.resyncActive && !s.budgetCandidates.isEmpty then s.startBudget
  else s

/-! ### Outcomes (R126) -/

/-- The outcome after a notice carrying holding `h` for a victim whose claim was `c`, and the power added to the yield
taken (R126). A DECLINED with holding 0 is a victim that left by its mapping's cut (R57). Notices that the table of R126
has no row for are judged as notes/assumptions/25.md says: a DECLINED with holding 0 to an offer makes a DONE victim
GONE too, and an ACCEPTED or DECLINED with a nonzero holding leaves the outcome and adds nothing. -/
def Victim.judge (v : Victim) (n : Notice) (c : Nat) : VictimOutcome × Nat :=
  if v.outcome = .cut ∨ v.outcome = .gone then (v.outcome, 0)
  else
    match n with
    | .noted => (if v.outcome = .pending then .noted else v.outcome, 0)
    | .reduced h =>
      if h = c then (v.outcome, 0)
      else if v.outcome = .done then (if h < c then (.done, c - h) else (.done, 0))
      else if h ≤ v.targetPower then (.done, c - h)
      else (v.outcome, c - h)
    | .faulted cause =>
      if c = 0 then (v.outcome, 0)
      else (if cause = .reduceTimeout ∨ cause = .linkLost then .cut else .gone, c)
    | .released | .removed => if c = 0 then (v.outcome, 0) else (.gone, c)
    | .declined _ h => if h = 0 ∧ c ≠ 0 then (.gone, c) else (v.outcome, 0)
    | .demand .. | .accepted .. | .powered .. | .answer .. => (v.outcome, 0)

/-- The entries after a notice for slot `i`. -/
def judgeVictims (i : SlotId) (n : Notice) (c : Nat) (l : List Victim) : List Victim :=
  l.map fun v => if v.slot = i then { v with outcome := (v.judge n c).1 } else v

/-- The yield a notice for slot `i` adds. -/
def judgeYield (i : SlotId) (n : Notice) (c : Nat) (l : List Victim) : Nat :=
  ((l.filter fun v => v.slot == i).map fun v => (v.judge n c).2).sum

/-- The reclaim record after a notice (R126), which changes an active record only. -/
def Reclaim.judge (r : Reclaim) (i : SlotId) (n : Notice) (c : Nat) : Reclaim :=
  if r.active then
    { r with victims := judgeVictims i n c r.victims, yieldTaken := r.yieldTaken + judgeYield i n c r.victims }
  else r

def State.judgeNotice (s : State) (i : SlotId) (n : Notice) (c : Nat) : State :=
  { s with ae := { s.ae with reclaim := s.ae.reclaim.judge i n c } }

/-- The earmark following the beneficiary's replacement list (R114). -/
def State.followFloor (s : State) (i : SlotId) : State :=
  if s.isBeneficiary i && (s.slot i).state = .waiting then
    { s with ae := { s.ae with reclaim := { s.ae.reclaim with earmark := s.floorPower i } } }
  else s

/-! ### Ends and conversion (R129 to R134) -/

/-- Ending a reclaim (R132): active and the earmark clear, the rest frozen, and RECLAIM_END. -/
def State.endReclaim (s : State) (code : Nat) : State :=
  let r := s.ae.reclaim
  ({ s with ae := { s.ae with reclaim := { r with active := false, earmark := 0 } } } : State).event .reclaimEnd
    r.beneficiary code r.yieldTaken

/-- Whether every victim has concluded (R129, R133). -/
def Reclaim.concluded (r : Reclaim) : Bool := r.victims.all fun v => v.outcome.concluded

/-- The yield still expected of entries not concluded (R134). -/
def Reclaim.expectedYield (r : Reclaim) : Nat :=
  ((r.victims.filter fun v => !v.outcome.concluded).map Victim.expected).sum

/-- Converting an active ADMIT reclaim under excess (R134). -/
def State.convert (s : State) : State :=
  let r := s.ae.reclaim
  let shortfall := s.ae.committed - s.ae.effective - r.expectedYield
  let added := if shortfall = 0 then [] else s.selectVictims shortfall s.conversionCandidates
  let s := { s with ae := { s.ae with reclaim :=
    { r with kind := .budget, beneficiary := none, earmark := 0, shortfall := shortfall,
             victims := r.victims ++ added } } }
  (s.requestReductions added).event .reclaimConverted r.beneficiary added.length shortfall

/-- The end tests of an ADMIT reclaim, (c), (a), (b) in this order (R129 to R131), else conversion (R134). -/
def State.admitRules (s : State) (b : SlotId) : State :=
  if (s.slot b).state ≠ .waiting then s.endReclaim 0x13
  else
    match s.fitting b with
    | some p => (s.endReclaim 0x11).offer b p
    | none =>
      if s.ae.reclaim.concluded then s.endReclaim 0x12
      else if s.ae.excess then s.convert
      else s

/-- The end tests of a BUDGET reclaim (R133). -/
def State.budgetRules (s : State) : State :=
  if !s.ae.excess then s.endReclaim 0x21
  else if s.ae.reclaim.concluded then s.endReclaim 0x22
  else s

/-- The end tests and the conversion (step 1 of R91). -/
def State.endTests (s : State) : State :=
  let r := s.ae.reclaim
  if r.active then
    match r.kind, r.beneficiary with
    | .admission, some b => s.admitRules b
    | .budget, _ => s.budgetRules
    | _, _ => s
  else s

end Sys2Proof.Machine
end

