-- ==== Sys2Proof/Machine/Allocation.lean ====
section
/-! DEFINITION. The allocation pass and the raise pass (chapter 5), and a whole happening at the Allocation Engine
(R10, R90, R91). -/

namespace Sys2Proof.Machine

/-! ### The allocation pass -/

/-- Whether an exchange mark is outstanding at any slot (R94, test 3). -/
def Ae.markOutstanding (a : Ae) : Bool := a.slots.toList.any fun e => e.mark != .none

/-- The shortfall of a head that has no fitting point (R94). -/
def State.shortfall (s : State) (h : SlotId) : Nat := s.floorPower h - s.available h

/-- The eligible yield for a head (R94, test 4). -/
def State.eligibleYield (s : State) (h : SlotId) : Nat :=
  ((s.admitCandidates h).map fun i => (s.entry i).claim).sum

/-- The reason code of the first test of R94 that fails, if any. -/
def State.blockReason (s : State) (h : SlotId) : Option Nat :=
  if s.ae.reclaim.active then some 1
  else if s.ae.excess then some 2
  else if s.ae.markOutstanding then some 3
  else if s.eligibleYield h < s.shortfall h then some 4
  else none

/-- Finding a head blocked (R96): DEMAND_BLOCKED once for each period. -/
def State.block (s : State) (h : SlotId) (reason : Nat) : State :=
  if (s.entry h).blocked then s
  else (s.modEntry h fun e => { e with blocked := true }).event .demandBlocked (some h) reason (s.shortfall h)

/-- Settling a head that has no fitting point (R94 to R96): an ADMIT reclaim, or blocked. -/
def State.settleHead (s : State) (h : SlotId) : State :=
  match s.blockReason h with
  | some reason => s.block h reason
  | none => s.startAdmit h (s.shortfall h)

/-- The walk of BACKFILL over the entries behind the head (R98). -/
def State.backfill (s : State) (rest : List SlotId) : State :=
  if s.cu.settings.backfill then
    rest.foldl (fun s i =>
      if s.isBeneficiary i then s
      else match s.fitting i with
        | some p => s.offer i p
        | none => s) s
  else s

/-- The allocation pass (R93 to R98). The first argument bounds the number of offers; the queue holds at most eight. -/
def State.passFrom : Nat → State → State
  | 0, s => s
  | n + 1, s =>
    match s.queue with
    | [] => s
    | h :: rest =>
      if s.isBeneficiary h then s.backfill rest
      else
        match s.fitting h with
        | some p => State.passFrom n (s.offer h p)
        | none => (s.settleHead h).backfill rest

def State.allocationPass (s : State) : State := State.passFrom 9 s

/-! ### The raise pass -/

/-- Raise candidates (R104). -/
def State.raiseCandidate (s : State) (i : SlotId) : Bool :=
  let r := s.slot i
  let e := s.entry i
  r.state == .powered && e.mark == .none && !e.restating && !r.raiseDeclined &&
    match r.current.bind DemandList.preferred with
    | some (k, _) => decide (k < r.granted)
    | none => false

/-- A raise decision (R106): the claim is set to the raise point's power (R6). That it falls where a REDUCED still on
its way had left it above that point is the model's choice (notes/assumptions/40.md). -/
def State.raise (s : State) (i : SlotId) (p : Nat × Point) : State :=
  (s.claimFor i p.2.power .raise).takeRaise i { index := p.1, power := p.2.power, tag := p.2.tag }

/-- One visit of the raise pass (R105). -/
def State.raiseVisit (s : State) (i : SlotId) : State :=
  if s.raiseCandidate i then
    match s.raisePoint i with
    | some p => s.raise i p
    | none => s
  else s

/-- When a raise pass follows the allocation pass (R103). -/
def State.raisesAllowed (s : State) : Bool :=
  s.ae.entryOrder.isEmpty && !s.ae.reclaim.active && s.cu.settings.autoRaise && !s.ae.hold && !s.ae.resyncActive

/-- The raise pass (R105), where R103 allows one. -/
def State.raisePass (s : State) : State :=
  if s.raisesAllowed then s.raiseOrder.foldl State.raiseVisit s else s

/-! ### A happening at the AE -/

/-- Whether an input that took the account from `s` to `t` could let a queued slot be served (R90): a slot entered
WAITING, a claim fell, EB rose, the reserve fell, HOLD or an exchange mark was cleared, or the RESYNC period ended. -/
def passCause (s t : State) : Bool :=
  allSlots.any (fun i =>
    ((s.slot i).state != .waiting && (t.slot i).state == .waiting) ||
    decide ((t.entry i).claim < (s.entry i).claim) ||
    ((s.entry i).mark != .none && (t.entry i).mark == .none)) ||
  decide (s.ae.effective < t.ae.effective) || decide (t.ae.reserve < s.ae.reserve) ||
  (s.ae.hold && !t.ae.hold) || (s.ae.resyncActive && !t.ae.resyncActive)

/-- Whether the end tests and the conversion ended a reclaim (R90) or converted one (R135). -/
def reclaimCause (s t : State) : Bool :=
  s.ae.reclaim.active && (!t.ae.reclaim.active || s.ae.reclaim.kind != t.ae.reclaim.kind)

/-- The decision rules of one happening at the AE (R91), once the account stands as `s`; `due` says whether the input
causes a pass. A pass that HOLD or the RESYNC period holds back is not remembered. -/
def State.aeRules (s : State) (due : Bool) : State :=
  let t := s.endTests
  let u := t.budgetTrigger
  if (due || reclaimCause s t) && !u.ae.hold && !u.ae.resyncActive then u.allocationPass.raisePass else u

end Sys2Proof.Machine
end

