-- ==== Sys2Proof/Machine/Notices.lean ====
section
/-! DEFINITION. What the Allocation Engine does with the account on taking each notice of an SS (R5, R10), before its
decision rules run. -/

namespace Sys2Proof.Machine

/-! ### The RESYNC period (R199) -/

/-- A notice with a holding from a slot that was in RESYNC concludes it at the AE; after the last one the period ends
(R199), with RESYNC_DONE (R164). -/
def State.resyncConcludes (s : State) (i : SlotId) (n : Notice) : State :=
  if (s.entry i).resync && n.holding.isSome then
    let s := s.modEntry i fun e => { e with resync := false }
    if s.ae.resyncActive && !(s.ae.slots.toList.any AeSlot.resync) then
      ({ s with ae := { s.ae with resyncActive := false } } : State).event .resyncDone none s.ae.resyncPowered
        s.ae.committed
    else s
  else s

/-! ### Each kind -/

/-- Whether a notice reports a list (R26). -/
def Notice.isDemand : Notice → Bool
  | .demand false _ => true
  | _ => false

/-- A DEMAND from an unpowered slot (R26, R88, R114): the slot that holds an arriving list takes it as current and
enters WAITING or PARKED, unless a later DEMAND of it is on its way; a WAITING slot has been re-placed by its class. -/
def State.takeDemand (s : State) (i : SlotId) : State :=
  match (s.slot i).arriving with
  | some l =>
    if ((s.slot i).state = .identify ∨ (s.slot i).state = .standby) ∧ !(s.slot i).outbox.any Notice.isDemand ∧
        s.freed i then
      (s.makeCurrent i l).admitDemand i
    else s
  | none => (s.admitKept i).followFloor i

/-- Whether a notice begins a restatement (R53). -/
def Notice.isRestatement : Notice → Bool
  | .demand true _ => true
  | _ => false

/-- A DEMAND that begins a restatement (R54): a RESTATE-MAP request for the highest available point of the pending list
within the confirmed claim, or naming no point; nothing when its list has been dropped. So it has been, too, where the
list held by then is a newer one, whose own notice is still on its way: by that notice every REDUCED sent before it has
been taken, and no mapping exceeds the claim (R5). That the older notice maps nothing is DEDUCED
(notes/assumptions/46.md). -/
def State.mapRestatement (s : State) (i : SlotId) : State :=
  if (s.slot i).outbox.any Notice.isRestatement then s
  else
    match (s.slot i).restated with
    | none => s
    | some l =>
      match l.highestWithin (s.entry i).confirmed with
      | some (k, x) =>
        (s.modEntry i fun e => { e with restating := true }).modSlot i fun r =>
          { r with mapRequests := r.mapRequests ++ [some { index := k, power := x.power, tag := x.tag }] }
      | none => s.modSlot i fun r => { r with mapRequests := r.mapRequests ++ [none] }

/-- POWERED (R99), or the conclusion of RESYNC in POWERED (R15, R197). -/
def State.takePowered (s : State) (i : SlotId) (h : Nat) : State :=
  let resync := (s.entry i).resync
  let s := s.takeHolding i h
  if resync then
    let s := s.joinBySlot i
    { s with ae := { s.ae with resyncPowered := s.ae.resyncPowered + 1 } }
  else s

/-- The account brought up to date for a notice (R5, R14, R54, R85), its queue entry if it makes one (R26). -/
def State.takeNotice (s : State) (i : SlotId) : Notice → State
  | .demand true _ => s.mapRestatement i
  | .demand false none => s.takeDemand i
  | .demand false (some h) => (s.takeHolding i h).admitKept i
  | .accepted .offer h => (s.takeAnswer i h).joinTail i
  | .accepted .raise h => (s.takeAnswer i h).joinTail i
  | .accepted .mapping h => (s.takeHolding i h).modEntry i fun e => { e with restating := false }
  | .declined .mapping h => s.takeHolding i h
  | .declined _ h => s.takeAnswer i h
  | .noted => s
  | .reduced h =>
    let s := (s.takeHolding i h).modEntry i fun e => { e with restating := false }
    if h = 0 then s.admitKept i else s
  | .released => (s.takeHolding i 0).admitKept i
  | .faulted _ | .removed => s.takeHolding i 0
  | .powered h => s.takePowered i h
  | .answer .. => s

/-- The account and the reclaim record after a notice (R5, R126), and the RESYNC period's end (R199). -/
def State.account (s : State) (i : SlotId) (n : Notice) : State :=
  ((s.takeNotice i n).judgeNotice i n (s.entry i).claim).resyncConcludes i n

/-- Whether a notice causes a pass besides what `passCause` sees (R90): a DEMAND of a WAITING slot. -/
def State.demandCause (s : State) (i : SlotId) (n : Notice) : Bool :=
  n.isDemand && (s.slot i).state == .waiting

/-- The slot's oldest notice leaving its outbox. -/
def State.popNotice (s : State) (i : SlotId) : State :=
  s.modSlot i fun r => { r with outbox := r.outbox.tail }

/-- One notice taken whole by the AE: the account, then the decision rules (R10, R91). -/
def State.aeNotice (s : State) (i : SlotId) (n : Notice) : State :=
  let t := s.account i n
  t.aeRules (passCause s t || t.demandCause i n)

end Sys2Proof.Machine
end

