-- ==== Sys2Proof/Machine/Commands.lean ====
section
/-! DEFINITION. The Command Unit (chapter 7): submission, starting and concluding commands, the seven commands, retiring
and aborting; and a whole notice happening, which may conclude a command. -/

namespace Sys2Proof.Machine

/-! ### Command slots -/

/-- The command slot of a tag. -/
def State.cmd (s : State) (t : Fin 4) : CmdSlot := s.cu.cmds[t.val]

def State.modCmd (s : State) (t : Fin 4) (f : CmdSlot → CmdSlot) : State :=
  { s with cu := { s.cu with cmds := s.cu.cmds.set t.val (f s.cu.cmds[t.val]) } }

/-- The four tags in order. -/
def allTags : List (Fin 4) := [0, 1, 2, 3]

/-- The slot number a byte names, if it is 0 to 7. -/
def slotOf (b : Byte) : Option SlotId := if h : b.toNat < 8 then some ⟨b.toNat, h⟩ else none

/-- The tag a byte names, if it is 0 to 3. -/
def tagOf (b : Byte) : Option (Fin 4) := if h : b.toNat < 4 then some ⟨b.toNat, h⟩ else none

/-- Parameter byte `n` of a command, counted from 1 as in R147. -/
def CmdSlot.param (c : CmdSlot) (n : Nat) : Byte := c.params.getD (n - 1) 0

/-- The slot named by a command for CMD_DONE (R143): none for a slot parameter out of range, or a command without
one. -/
def CmdSlot.namedSlot (c : CmdSlot) : Option SlotId :=
  if 2 ≤ c.code.toNat ∧ c.code.toNat ≤ 5 then slotOf (c.param 1) else none

/-- Concluding a command (R143): result and detail recorded, then CMD_DONE. -/
def State.conclude (s : State) (t : Fin 4) (r : CmdResult) (detail : Byte) : State :=
  (s.modCmd t fun c => { c with state := r.concludes, result := r, detail := detail }).event .cmdDone
    (s.cmd t).namedSlot t.val r.code

/-- The tag of the RUNNING command, if any (R141). -/
def State.running (s : State) : Option (Fin 4) := allTags.find? fun t => (s.cmd t).state == .running

/-- How many submissions ago a command was submitted (R139, modulo 256). -/
def State.age (s : State) (t : Fin 4) : Nat := (s.cu.count - (s.cmd t).num).toNat

/-- The QUEUED command submitted first (R141). -/
def State.nextQueued (s : State) : Option (Fin 4) :=
  allTags.find? fun t =>
    (s.cmd t).state == .queued &&
      allTags.all fun u => (s.cmd u).state != .queued || decide (s.age u ≤ s.age t)

/-! ### Parameter checks: the detail of BAD_PARAM, if any (R143) -/

/-- The 16-bit parameter whose low byte is byte `n`. -/
def CmdSlot.half (c : CmdSlot) (n : Nat) : Nat := (Machine.half (c.param n) (c.param (n + 1))).toNat

/-- SET_BUDGET (R148). -/
def badBudget (c : CmdSlot) : Option Nat :=
  if Config.maxBudget < c.half 1 then some 1
  else if Config.maxBudget < c.half 3 then some 3
  else if Config.maxBudget < c.half 5 then some 5
  else none

/-- SET_SLOT_POLICY (R150). -/
def badPolicy (c : CmdSlot) : Option Nat :=
  if 7 < (c.param 1).toNat then some 1
  else if 3 < (c.param 2).toNat then some 2
  else if c.half 3 = 0 ∨ Config.maxPointPower < c.half 3 then some 3
  else if 1 < (c.param 5).toNat then some 5
  else none

/-- The commands with a slot alone (R154, R157, R158). -/
def badSlot (c : CmdSlot) : Option Nat := if 7 < (c.param 1).toNat then some 1 else none

/-- HOLD (R159). -/
def badHold (c : CmdSlot) : Option Nat := if 1 < (c.param 1).toNat then some 1 else none

/-- SET_TIMING (R160). -/
def badTiming (c : CmdSlot) : Option Nat :=
  if c.param 1 = 0 then some 1
  else if c.param 2 = 0 then some 2
  else if 7 < (c.param 3).toNat then some 3
  else if (c.param 4).toNat < 10 ∨ 250 < (c.param 4).toNat then some 4
  else if 3 < (c.param 6).toNat then some 6
  else none

/-! ### SET_BUDGET, HOLD, SET_TIMING: requests the AE answers at once (R142) -/

/-- The AE taking an installation of budgets (R1): the three values, and excess evaluated once. -/
def State.installBudgets (s : State) (budget reserve derated : Nat) : State :=
  ({ s with ae := { s.ae with budget := budget, reserve := reserve, derated := derated } } : State).evalExcess

/-- SET_BUDGET (R148): installed, the decision rules, and the answer: concluded without excess, RUNNING with it. -/
def State.runBudget (s : State) (t : Fin 4) (c : CmdSlot) : State :=
  let i := s.installBudgets (c.half 1) (c.half 3) (c.half 5)
  let i := i.aeRules (passCause s i)
  if i.ae.excess then i else i.conclude t .ok 0

/-- The HOLD flag written (R101). -/
def State.setHold (s : State) (set : Bool) : State := { s with ae := { s.ae with hold := set } }

/-- HOLD (R159, R101): a clearing request causes a pass in either case. A setting one stops passes from the next input
on: a pass due within its own happening, to a reclaim that ends there, still runs unless HOLD was set before. That this
moment of R159 stands over R91's is DEDUCED (notes/assumptions/44.md). -/
def State.runHold (s : State) (t : Fin 4) (c : CmdSlot) : State :=
  let ruled := if c.param 1 == 1 then (s.aeRules false).setHold true else (s.setHold false).aeRules true
  ruled.conclude t .ok (boolByte s.ae.hold)

/-- The settings a SET_TIMING installs (R160). -/
def Settings.timed (f : Settings) (c : CmdSlot) : Settings :=
  { f with
    reduceSteps := (c.param 1).toNat, graceSteps := (c.param 2).toNat, retryLimit := (c.param 3).toNat
    rampMs := (c.param 4).toNat, holdoffSteps := (c.param 5).toNat
    backfill := (c.param 6).getLsbD 0, autoRaise := (c.param 6).getLsbD 1 }

/-- SET_TIMING (R160, R102): turning an option on causes a pass. -/
def State.runTiming (s : State) (t : Fin 4) (c : CmdSlot) : State :=
  let old := s.cu.settings
  let new := old.timed c
  (({ s with cu := { s.cu with settings := new } } : State).aeRules
    ((!old.backfill && new.backfill) || (!old.autoRaise && new.autoRaise))).conclude t .ok 0

/-! ### SET_SLOT_POLICY -/

/-- The available flags of both lists recomputed (R51, R52). -/
def SlotRec.reTrim (r : SlotRec) (maxPower : Nat) : SlotRec :=
  { r with current := r.current.map (·.trim maxPower), restated := r.restated.map (·.trim maxPower) }

/-- DEMAND_TRIMMED where the current list's available set changes (R51, R52). -/
def State.reTrim (s : State) (i : SlotId) : State :=
  let maxPower := (s.policy i).maxPower
  let old := ((s.slot i).current.map DemandList.mask).getD 0
  let s := s.modSlot i fun r => r.reTrim maxPower
  let new := ((s.slot i).current.map DemandList.mask).getD 0
  if old = new then s else s.event .demandTrimmed (some i) new maxPower

/-- Whether a new max power leaves a point of the current list available. -/
def State.leavesPoint (s : State) (i : SlotId) : Bool :=
  ((s.slot i).current.map fun l => (l.trim (s.policy i).maxPower).anyAvail).getD true

/-- A list with no point left (R51, R52): DEMAND_BAD and BAD_DEMAND. -/
def State.overMax (s : State) (i : SlotId) : State :=
  ((s.modSlot i fun r => r.reTrim (s.policy i).maxPower).demandBad i .overMax).fault i .badDemand

/-- The return of an offered slot to WAITING (R52): the SS's part; the AE takes RELEASED in the same shared step. -/
def State.undoOffer (s : State) (i : SlotId) : State :=
  (((s.linkWithdraw i).linkAsk i .cut).modSlot i fun r => { r with state := .standby, offered := none }).notify i
    .released

/-- The return of a slot in POWERING to WAITING (R52): the SS's part. -/
def State.undoPowering (s : State) (i : SlotId) : State := ((s.cut i).enter i .standby).notify i .released

/-- Re-evaluating availability against the new max power, by slot state (R51, R52). -/
def State.reEvaluate (s : State) (i : SlotId) : State :=
  let maxPower := (s.policy i).maxPower
  match (s.slot i).state with
  | .waiting | .parked => if s.leavesPoint i then s.reTrim i else s.overMax i
  | .offering =>
    if s.leavesPoint i then
      let s := s.reTrim i
      if maxPower < s.standingPower i then s.undoOffer i else s
    else ((s.linkWithdraw i).linkAsk i .cut).overMax i
  | .powering =>
    if s.leavesPoint i then
      let s := s.reTrim i
      if maxPower < s.standingPower i then s.undoPowering i else s
    else s.overMax i
  | .powered | .raising | .restating | .reducing => s.reTrim i
  | .empty | .settling | .identify | .standby | .faulted | .lockedOut | .resync => s

/-- The effective class recomputed (R50). -/
def State.reClass (s : State) (i : SlotId) : State :=
  s.modSlot i fun r =>
    { r with effClass := (r.current.map (s.classOf i)).getD (s.policy i).classLimit }

/-- The admit enable applied (R151). -/
def State.applyAdmit (s : State) (i : SlotId) : State :=
  if (s.slot i).state = .waiting ∧ !(s.policy i).admits then (s.leaveQueue i).enter i .parked
  else if (s.slot i).state = .parked ∧ (s.policy i).admits then s.joinQueue i
  else s

/-- The AE's part of the shared step (R150, step 2): the claim of a RESYNC slot (R7), and the notices of the SS's
part. -/
def State.takePolicy (s : State) (i : SlotId) : State :=
  let notices := (s.slot i).outbox
  let s := s.modSlot i fun r => { r with outbox := [] }
  let s :=
    if (s.slot i).state = .resync then
      (s.modEntry i fun e => { e with claim := (s.policy i).maxPower }).evalExcess
    else s
  notices.foldl (fun s n => s.account i n) s

/-- Whether a command still runs: the tag's slot is RUNNING with this number (R142). -/
def State.runs (s : State) (t : Fin 4) (num : Byte) : Bool :=
  (s.cmd t).state == .running && (s.cmd t).num == num

/-- The shared step of SET_SLOT_POLICY (R150). An aborted command leaves no watch (R145). Two choices are the model's:
the step goes by the policy then in force, which a later request may have installed since (notes/assumptions/43.md), and
the watch is checked after step 3, before the AE's decisions of step 4 (notes/assumptions/45.md). -/
def State.policyStep (s : State) (q : PolicyReq) : State :=
  let i := q.slot
  let found := (s.slot i).state.code
  let s := ((s.reEvaluate i).reClass i).applyAdmit i
  let s := (s.takePolicy i).policyReduce i
  let s :=
    if s.runs q.tag q.num then
      (s.setWatch i { tag := q.tag, num := q.num, limit := (s.policy i).maxPower, found := found }).watchCheck i
    else s
  s.aeRules true

/-- The policy values installed at the CU (R150). -/
def State.installPolicy (s : State) (i : SlotId) (p : Policy) : State :=
  { s with cu := { s.cu with settings :=
    { s.cu.settings with policy := updateAt s.cu.settings.policy i fun _ => p } } }

/-- The policy a command carries (R147). -/
def CmdSlot.policy (c : CmdSlot) : Policy :=
  { classLimit := (c.param 2).toNat, maxPower := c.half 3, admits := c.param 5 == 1 }

/-- SET_SLOT_POLICY (R150): installed, then the shared step, which waits while a notice of the slot is on its way. -/
def State.runPolicy (s : State) (t : Fin 4) (c : CmdSlot) : State :=
  match slotOf (c.param 1) with
  | none => s
  | some i =>
    let s := s.installPolicy i c.policy
    let q : PolicyReq := { slot := i, tag := t, num := c.num }
    if (s.slot i).outbox.isEmpty then s.policyStep q
    else { s with cu := { s.cu with policyWait := s.cu.policyWait ++ [q] } }

/-! ### Running the queue (R141) -/

/-- What a command does once it has passed the code check (R141), `bad` being its parameter check. -/
def State.checked (s : State) (t : Fin 4) (bad : Option Nat) (run : State → State) : State :=
  match bad with
  | some n => s.conclude t .badParam (byteOf n)
  | none => run s

/-- A request to one slot's SS. -/
def State.toSlot (s : State) (c : CmdSlot) (f : SlotId → State → State) : State :=
  match slotOf (c.param 1) with
  | some i => f i s
  | none => s

/-- REVOKE_SLOT: the slot's SS takes the request (R142, R154), and the AE takes the revoke as an input that changes no
claim and causes no pass, so that its decision rules apply (R10, R90). That the SS acts first, in one happening, is
DEDUCED (notes/assumptions/39.md). -/
def State.runRevoke (s : State) (t : Fin 4) (c : CmdSlot) : State :=
  (s.toSlot c fun i s => s.takeRevoke i t c.num).aeRules false

/-- The first actions of a command that has been set RUNNING, by its code (R141, R142). -/
def State.runCommand (s : State) (t : Fin 4) : State :=
  let c := s.cmd t
  match c.code.toNat with
  | 1 => s.checked t (badBudget c) fun s => s.runBudget t c
  | 2 => s.checked t (badPolicy c) fun s => s.runPolicy t c
  | 3 => s.checked t (badSlot c) fun s => s.runRevoke t c
  | 4 => s.checked t (badSlot c) fun s => s.toSlot c fun i s => s.takeReset i t c.num
  | 5 => s.checked t (badSlot c) fun s => s.toSlot c fun i s => s.takeRequery i t c.num
  | 6 => s.checked t (badHold c) fun s => s.runHold t c
  | 7 => s.checked t (badTiming c) fun s => s.runTiming t c
  | _ => s.conclude t .badCode 0

/-- Starting a command (R141). -/
def State.startCommand (s : State) (t : Fin 4) : State :=
  (s.modCmd t fun c => { c with state := .running }).runCommand t

/-- Starting QUEUED commands, one after another, while none is RUNNING (R141). The first argument bounds the number
started; there are four command slots. -/
def State.cuRun : Nat → State → State
  | 0, s => s
  | n + 1, s =>
    match s.running with
    | some _ => s
    | none =>
      match s.nextQueued with
      | none => s
      | some t => State.cuRun n (s.startCommand t)

/-- The CU starting what may start. -/
def State.startNext (s : State) : State := State.cuRun 4 s

/-! ### Submitting, retiring, aborting -/

/-- The lowest FREE slot (R140). -/
def State.freeTag (s : State) : Option (Fin 4) := allTags.find? fun t => (s.cmd t).state == .free

/-- The command slot filled by a submission (R140). -/
def State.queueCommand (s : State) (t : Fin 4) (code : Byte) : State :=
  let s := s.modCmd t fun _ =>
    { code := code, state := .queued, result := .ok, detail := 0, params := s.cu.param, num := s.cu.count }
  { s with cu := { s.cu with count := s.cu.count + 1, submitResult := byteOf t.val } }

/-- A byte delivered to CMD_CODE (R140, R141). -/
def State.submit (s : State) (code : Byte) : State :=
  match s.freeTag with
  | none => { s with cu := { s.cu with submitResult := 0xFF } }
  | some t => (s.queueCommand t code).startNext

/-- A refused byte (R186). -/
def State.badValue (s : State) : State := { s with hp := s.hp.flag .badValue }

/-- A byte delivered to CMD_RETIRE (R144). -/
def State.retire (s : State) (b : Byte) : State :=
  match tagOf b with
  | none => s.badValue
  | some t =>
    if (s.cmd t).state = .done ∨ (s.cmd t).state = .failed then s.modCmd t fun _ => CmdSlot.free else s.badValue

/-- Withdrawing the watch of an aborted command (R145). -/
def SlotRec.unwatch (r : SlotRec) (t : Fin 4) (num : Byte) : SlotRec :=
  { r with watch := if r.watch.any (fun w => w.tag == t && w.num == num) then none else r.watch }

def State.unwatch (s : State) (t : Fin 4) : State :=
  match (s.cmd t).namedSlot with
  | some i => s.modSlot i fun r => r.unwatch t (s.cmd t).num
  | none => s

/-- A byte delivered to CMD_ABORT (R145). -/
def State.abort (s : State) (b : Byte) : State :=
  match tagOf b with
  | none => s.badValue
  | some t =>
    if (s.cmd t).state = .running then ((s.unwatch t).conclude t .aborted 0).startNext else s.badValue

/-! ### Happenings at the AE that reach the CU -/

/-- An ANSWER relayed to the CU (R142): it concludes the RUNNING command it matches, and the next one starts (R141). -/
def State.relay (s : State) : Notice → State
  | .answer t num r detail => if s.runs t num then (s.conclude t r detail).startNext else s
  | _ => s

/-- An exit from excess handed to the CU (R149): `before` is the excess condition before the happening. -/
def State.excessExit (s : State) (before : Bool) : State :=
  match s.running with
  | some t =>
    if before && !s.ae.excess && (s.cmd t).code == 1 then (s.conclude t .ok 1).startNext else s
  | none => s

/-- A SET_SLOT_POLICY request that waited, run as a happening of its own once the notices of its slot have all been
taken (R150). -/
def State.policyRun (i : SlotId) (s : State) (q : PolicyReq) : State :=
  if q.slot == i && (s.slot i).outbox.isEmpty then
    (({ s with cu := { s.cu with policyWait := s.cu.policyWait.erase q } } : State).policyStep q).excessExit
      s.ae.excess
  else s

/-- The requests of a slot that wait, oldest first (R150). -/
def State.policyDue (s : State) (i : SlotId) : State := s.cu.policyWait.foldl (State.policyRun i) s

/-- The AE taking a slot's oldest notice (R10), where it is of the kind asked for: the account and the decision rules,
an exit from excess and an ANSWER handed to the CU, then a policy step that waited for it. That the CU starts its next
command, where this notice concludes the one that runs, before the policy step is the model's choice
(notes/assumptions/48.md). -/
def State.noticeOf (kind : Notice → Bool) (i : SlotId) (s : State) : State :=
  match (s.slot i).outbox with
  | [] => s
  | n :: _ =>
    if kind n then ((((s.popNotice i).aeNotice i n).excessExit s.ae.excess).relay n).policyDue i else s

end Sys2Proof.Machine
end

