-- ==== Sys2Proof/Machine/Window.lean ====
section
/-! DEFINITION. The Window Unit (chapter 9): the walk, the four record layouts, the capture, and reading the buffer. -/

namespace Sys2Proof.Machine

/-! ### Selection (R174, R175) -/

/-- The slots from `first` up by one, from 7 to 0, `n` of them. -/
def slotsFrom : Nat → SlotId → List SlotId
  | 0, _ => []
  | n + 1, i => i :: slotsFrom n (i + 1)

/-- The slot of a selection register, 0 to 7 (R173). -/
def selected (b : Byte) : SlotId := ⟨b.toNat % 8, Nat.mod_lt _ (by decide)⟩

/-- The ascending walk (R175): from the first slot up until it has included the last. -/
def ascending (first last : SlotId) : List SlotId := slotsFrom ((last - first).val + 1) first

/-- The walk of a capture (R175). -/
def Wu.walk (w : Wu) : List SlotId :=
  let up := ascending (selected w.first) (selected w.last)
  if groupDescending w.group then up.reverse else up

/-! ### Records (R180 to R182) -/

/-- Whether a slot is a victim still stepping down (R113). -/
def Ae.victimFlag (a : Ae) (i : SlotId) : Bool :=
  a.reclaim.active && a.reclaim.victims.any fun v => v.slot == i && !v.outcome.concluded

/-- The flags byte of a SUMMARY record (R180). -/
def summaryFlags (blocked raiseDeclined linkHold victim : Bool) : Byte :=
  boolByte blocked ||| (boolByte raiseDeclined <<< 1) ||| (boolByte linkHold <<< 2) ||| (boolByte victim <<< 3)

/-- A SUMMARY record (R180): 16 bytes. -/
def State.summary (s : State) (i : SlotId) : List Byte :=
  let r := s.slot i
  let p := s.policy i
  [byteOf i.val, byteOf r.state.code, byteOf (causeCode r.cause), byteOf r.strikes, byteOf r.effClass,
    byteOf p.classLimit, boolByte p.admits, byteOf r.granted] ++
  le16 (s.entry i).claim ++ le16 p.maxPower ++
  [byteOf (positionIn i s.queue), byteOf (positionIn i s.ae.grantOrder),
    summaryFlags (s.entry i).blocked r.raiseDeclined r.linkHold (s.ae.victimFlag i), byteOf r.outstandingIndex]

/-- The bytes of a point in a DEMAND record (R181). -/
def Point.bytes (p : Point) : List Byte := le16 p.power ++ [p.tag.setWidth 8]

/-- A list of bytes filled with zeros to a length. -/
def zeroFill (n : Nat) (l : List Byte) : List Byte := l ++ List.replicate (n - l.length) 0

/-- A DEMAND record (R181): 22 bytes, all 00h with no current list. -/
def State.demandRecord (s : State) (i : SlotId) : List Byte :=
  match (s.slot i).current with
  | none => List.replicate 22 0
  | some l =>
    zeroFill 22 ([byteOf l.cardClass, byteOf l.count, l.currentIndex, byteOf l.mask] ++ l.points.flatMap Point.bytes)

/-- A LINK record (R181): 8 bytes. -/
def LinkRec.record (l : LinkRec) : List Byte :=
  [byteOf l.link.code, l.near, l.far, byteOf ((l.lastReply.map CardKind.code).getD 0), byteOf l.retriesUsed,
    byteOf ((l.pendingReq.map Frame.code).getD 0), boolByte l.attention, boolByte l.seq]

/-- A victim entry of a RECLAIM record (R182). -/
def Victim.bytes (v : Victim) : List Byte :=
  [byteOf v.slot.val, byteOf ((if v.revoke then 0x80 else 0) + v.targetIndex), byteOf v.outcome.code]

/-- A RECLAIM record (R182): 32 bytes, places beyond the victim count 0Fh, 00h, 00h. -/
def Reclaim.record (r : Reclaim) : List Byte :=
  [boolByte r.active, byteOf r.kind.code, slotField r.beneficiary] ++ le16 r.shortfall ++ le16 r.earmark ++
  [byteOf r.victims.length] ++ r.victims.flatMap Victim.bytes ++
  (List.replicate (8 - r.victims.length) [0x0F, 0x00, 0x00]).flatten

/-! ### Capture (R176, R178, R179) -/

/-- The bytes a capture copies (R176). -/
def State.captured (s : State) : List Byte :=
  if groupField s.wu.group = 0 then s.wu.walk.flatMap s.summary
  else if groupField s.wu.group = 1 then s.wu.walk.flatMap s.demandRecord
  else if groupField s.wu.group = 2 then s.wu.walk.flatMap fun i => (s.link i).record
  else s.ae.reclaim.record

/-- The clear handed to the captured slots' LEs (R80, R179). -/
def State.clearCaptured (s : State) : State :=
  if groupField s.wu.group = 2 ∧ groupClears s.wu.group then
    s.wu.walk.foldl (fun s i => s.modLink i LinkRec.clearFlags) s
  else s

/-- The WU's side of a capture (R176): steps 1 to 4. That the direction bit of WIN_GROUP is recorded for the RECLAIM
group too, on which it has no effect (R174), is the model's choice (notes/assumptions/42.md). -/
def Wu.capture (w : Wu) (bytes : List Byte) : Wu :=
  { w with buffer := bytes, cursor := 0, wrap := false, bufGroup := groupField w.group,
           bufDesc := groupDescending w.group }

/-- A byte delivered to WIN_CAPTURE (R176). -/
def State.capture (s : State) : State :=
  { s.clearCaptured with wu := s.wu.capture s.captured }

/-! ### Reading (R177) -/

/-- The byte at the cursor, 00h while the buffer is empty (R177). -/
def Wu.dataByte (w : Wu) : Byte := w.buffer.getD w.cursor 0

/-- The cursor after a byte has been read (R177). -/
def Wu.advance (w : Wu) : Wu :=
  if w.buffer.isEmpty then w
  else if w.cursor + 1 = w.buffer.length then { w with cursor := 0, wrap := true }
  else { w with cursor := w.cursor + 1 }

end Sys2Proof.Machine
end

