-- ==== Sys2Proof/Machine/Restart.lean ====
section
/-! DEFINITION. The restarts (chapter 11): pin reset and full restart from the inputs' first samples, and the keep-power
restart. -/

namespace Sys2Proof.Machine

/-! ### Pin reset and full restart (R193, R194) -/

/-- Every slot whose PRES_N the first sample shows low settles (R22): in ascending number, an order the manual leaves
open (R43; notes/assumptions/17.md). -/
def State.settlePresent (s : State) : State :=
  allSlots.foldl (fun s i => if (s.slot i).presN then s else s.settle i) s

/-- The slot records with their levels from the first samples (R20). -/
def firstSlots (first : Inputs) : Slots SlotRec :=
  Vector.ofFn fun i : Fin 8 => SlotRec.reset first.presN[i.val] first.pg[i.val] first.fltN[i.val] 0

/-- The defaults of every block, before the first samples have effect; `a` is field a of RESTART (R172). What waits in
the queue of commands, and the model's counter, are not the part's. -/
def State.defaults (s : State) (first : Inputs) (a : Byte) : State :=
  { pending := s.pending, resetLow := false, inputs := first, slots := firstSlots first
    links := .replicate 8 .reset, ae := .reset first.derateN, cu := .restarted .reset, eu := .restarted a 0 0
    wu := .restarted 0 7 0, hp := .restarted (Config.baseAddress + first.straps.setWidth 7)
    freeIndex := s.freeIndex }

/-- DERATE_ON for a low first sample (R2). -/
def State.firstDerate (s : State) : State :=
  if s.ae.derateN then s else s.event .derateOn none 0 s.ae.effective

/-- The start of every block from its defaults, and the events of the first samples (R193). That DERATE_ON stands before
the PRESENTs is the model's choice (R165 leaves appends of different blocks in either order;
notes/assumptions/17.md). -/
def State.coldStart (s : State) (first : Inputs) (a : Byte) : State :=
  (s.defaults first a).firstDerate.settlePresent

/-! ### Keep-power restart (R195, R196) -/

/-- A slot's state after a keep-power restart (R195). -/
def SlotState.kept (st : SlotState) (presN : Bool) : SlotState :=
  match st with
  | .powering | .powered | .raising | .restating | .reducing | .resync => .resync
  | .faulted => .faulted
  | .lockedOut => .lockedOut
  | .empty => .empty
  | .settling | .identify | .standby | .waiting | .parked | .offering => if presN then .empty else .settling

/-- A slot record across a keep-power restart (R18, R38, R195), its PRESENT and QUERY aside. -/
def SlotRec.keptPower (r : SlotRec) (classLimit : Nat) (holdoff : Option Nat) : SlotRec :=
  let st := r.state.kept r.presN
  { SlotRec.reset r.presN r.pg r.fltN classLimit with
    state := st, cause := r.cause, strikes := r.strikes, en := st.enabled
    timers := { Timers.stopped with
      settle := if st = .settling then some Config.settleMs else none
      holdoff := if st = .faulted then holdoff else none } }

/-- A link record's keep-power values (R63, R195): UP with no exchange in FAULTED and LOCKED_OUT, DOWN in a slot that is
not resynchronised, and the sequence bit kept. A RESYNC slot's LE leaves DOWN for UP with its QUERY (R196). -/
def LinkRec.keptPower (l : LinkRec) (st : SlotState) : LinkRec :=
  { LinkRec.reset with
    seq := l.seq
    link := if st = .faulted ∨ st = .lockedOut then .up else .down }

/-- The AE's entries for a slot after a keep-power restart (R6, R54, R195). -/
def AeSlot.keptPower (st : SlotState) (maxPower : Nat) : AeSlot :=
  let c := if st = .resync then maxPower else 0
  { AeSlot.reset with claim := c, confirmed := c, resync := st == .resync }

/-- The record of every block after a keep-power restart (R195), before its events, QUERYs and held levels. -/
def State.keptPower (s : State) : State :=
  let st := fun i : SlotId => (s.slot i).state.kept (s.slot i).presN
  { s with
    slots := Vector.ofFn fun i : Fin 8 => (s.slot i).keptPower (s.policy i).classLimit s.holdoffTimer
    links := Vector.ofFn fun i : Fin 8 => (s.link i).keptPower (st i)
    ae := { s.ae with
      slots := Vector.ofFn fun i : Fin 8 => AeSlot.keptPower (st i) (s.policy i).maxPower
      hold := false, excess := false, entryOrder := [], grantOrder := [], reclaim := .reset
      resyncActive := allSlots.any fun i => st i == .resync
      resyncPowered := 0 }
    cu := .restarted s.cu.settings
    eu := .restarted 2 s.eu.timeMs s.eu.intEnable
    wu := .restarted s.wu.first s.wu.last s.wu.group
    hp := .restarted s.hp.address }

/-- PRESENT for each slot sent to SETTLING (R22, R195). -/
def State.keptPresent (s t : State) : State :=
  allSlots.foldl (fun u i =>
    if (t.slot i).state = .settling then u.event .present (some i) 0 0 else u) s

/-- Entering RESYNC (R196): QUERY asked for, then the levels already held. -/
def State.enterResync (s : State) (i : SlotId) : State :=
  if (s.slot i).state = .resync then (s.linkQuery i).resyncLevels i else s

/-- The keep-power restart (R195, R196). The events after RESTART stand in the order BUDGET_EXCESS, PRESENT by slot,
then those of cuts at entry, which the manual leaves open (notes/assumptions/17.md). -/
def State.warmStart (s : State) : State :=
  let t := s.keptPower
  allSlots.foldl State.enterResync (t.evalExcess.keptPresent t)

/-! ### Acting on a requested restart (R192) -/

def State.restartAs (s : State) : RestartKind → State
  | .full => s.coldStart s.inputs 1
  | .keepPower => s.warmStart

end Sys2Proof.Machine
end

