-- ==== Sys2Proof/Machine/HostPort.lean ====
section
/-! DEFINITION. The Host Port (chapter 10): the register map, reading with snapshots, writing with staging, the bus
conditions, and a host's whole write to one register. -/

namespace Sys2Proof.Machine

/-! ### The register map (R190, R191) -/

/-- ALLOC_STATUS (R191). -/
def State.allocStatus (s : State) : Byte :=
  boolByte s.ae.hold ||| (boolByte s.ae.reclaim.active <<< 1) |||
    (byteOf (if s.ae.reclaim.active then s.ae.reclaim.kind.code else 0) <<< 2) |||
    (boolByte s.ae.derateN <<< 4) ||| (boolByte s.ae.resyncActive <<< 5) ||| (boolByte s.ae.excess <<< 6)

/-- An event record as EVT_HEAD shows it (R162). -/
def Event.bytes (e : Event) : List Byte :=
  [e.seq, byteOf e.kind.code, slotField e.slot, e.a, lowByte e.b, highByte e.b, lowByte e.time, highByte e.time]

/-- EVT_HEAD (R162): 00h in all eight bytes while the queue is empty. -/
def Eu.head (e : Eu) : List Byte :=
  match e.queue with
  | [] => List.replicate 8 0
  | r :: _ => r.bytes

/-- CMD_SLOTn (R139). -/
def CmdSlot.bytes (c : CmdSlot) : List Byte := [c.code, byteOf c.state.code, byteOf c.result.code, c.detail]

/-- The two bytes of a 16-bit register. -/
def halfBytes (h : Half) : List Byte := [lowByte h, highByte h]

/-- OPTIONS (R190). -/
def Settings.options (f : Settings) : Byte := boolByte f.backfill ||| (boolByte f.autoRaise <<< 1)

/-- The lowest offset of the register at an offset, and the bytes it reads (R187, R190); none where there is no
register. WIN_DATA is not among them: its reads move the cursor (R177). -/
def State.register (s : State) (off : Nat) : Option (Nat × List Byte) :=
  let f := s.cu.settings
  if off < 0x02 then some (0x00, Config.idBytes)
  else if off = 0x02 then some (0x02, [s.hp.status])
  else if off = 0x03 then some (0x03, [0])
  else if off < 0x06 then some (0x04, halfBytes s.eu.intStatus)
  else if off < 0x08 then some (0x06, halfBytes s.eu.intEnable)
  else if off = 0x08 then some (0x08, [byteOf s.eu.queue.length])
  else if off = 0x09 then some (0x09, [0])
  else if off < 0x12 then some (0x0A, s.eu.head)
  else if off = 0x12 then some (0x12, [0])
  else if off < 0x19 then some (0x13, s.cu.param)
  else if off = 0x19 then some (0x19, [s.cu.submitResult])
  else if off < 0x1C then some (off, [0])
  else if off < 0x20 then some (0x1C, (s.cmd 0).bytes)
  else if off < 0x24 then some (0x20, (s.cmd 1).bytes)
  else if off < 0x28 then some (0x24, (s.cmd 2).bytes)
  else if off < 0x2C then some (0x28, (s.cmd 3).bytes)
  else if off < 0x2E then some (0x2C, le16 s.ae.budget)
  else if off < 0x30 then some (0x2E, le16 s.ae.reserve)
  else if off < 0x32 then some (0x30, le16 s.ae.derated)
  else if off < 0x34 then some (0x32, le16 s.ae.effective)
  else if off < 0x36 then some (0x34, le16 s.ae.committed)
  else if off < 0x38 then some (0x36, le16 s.ae.reclaim.earmark)
  else if off = 0x38 then some (0x38, [s.allocStatus])
  else if off = 0x39 then some (0x39, [byteOf s.ae.entryOrder.length])
  else if off < 0x42 then some (off, [byteOf (s.slot (selected (byteOf (off - 0x3A)))).state.code])
  else if off = 0x42 then some (0x42, [s.wu.first])
  else if off = 0x43 then some (0x43, [s.wu.last])
  else if off = 0x44 then some (0x44, [s.wu.group])
  else if off = 0x45 then some (0x45, [0])
  else if off = 0x46 then some (0x46, [byteOf s.wu.buffer.length])
  else if off = 0x47 then some (0x47, [s.wu.flags])
  else if off = 0x4A then some (0x4A, [byteOf f.reduceSteps])
  else if off = 0x4B then some (0x4B, [byteOf f.graceSteps])
  else if off = 0x4C then some (0x4C, [byteOf f.retryLimit])
  else if off = 0x4D then some (0x4D, [byteOf f.rampMs])
  else if off = 0x4E then some (0x4E, [byteOf f.holdoffSteps])
  else if off = 0x4F then some (0x4F, [f.options])
  else none

/-- The port registers, at which the offset holds (R185). -/
def portRegister (off : Nat) : Bool :=
  off == 0x09 || off == 0x12 || off == 0x1A || off == 0x1B || off == 0x45 || off == 0x48

/-- The offset after a byte written or read (R185): one more, from FFh to 00h, but held at a port register. -/
def nextOffset (off : Byte) : Byte := if portRegister off.toNat then off else off + 1

/-- The window selection and register writes that install a value (R174). -/
def State.setWindow (s : State) (off : Nat) (b : Byte) : State :=
  if off = 0x44 then
    if b.toNat < 16 then { s with wu := { s.wu with group := b } } else s.badValue
  else if 7 < b.toNat then s.badValue
  else if off = 0x42 then { s with wu := { s.wu with first := b } }
  else { s with wu := { s.wu with last := b } }

/-! ### Reading (R185, R187) -/

/-- The byte sent, and the snapshot then held, for a register that starts at `base` and reads as `bytes` when copied:
a byte of a copy already held comes from the copy, and the copy is discarded with the register's last byte (R187). -/
def Hp.fetch (h : Hp) (base : Nat) (bytes : List Byte) : Byte × Option Snapshot :=
  let copy : Snapshot :=
    match h.snapshot with
    | some c => if c.base.toNat = base then c else { base := byteOf base, bytes := bytes }
    | none => { base := byteOf base, bytes := bytes }
  let k := h.offset.toNat - base
  (copy.bytes.getD k 0, if k + 1 < copy.bytes.length then some copy else none)

/-- The HP after a byte has been sent: the offset moves on, and a byte without acknowledge is the transfer's last. -/
def Hp.sentByte (h : Hp) (b : Byte) (snapshot : Option Snapshot) (ack : Bool) : Hp :=
  { h with sent := some b, snapshot := snapshot, offset := nextOffset h.offset,
           phase := if ack then .reading else .readDone }

/-- One byte of a read transfer (R185, R187, R177). -/
def State.readByte (s : State) (ack : Bool) : State :=
  if s.hp.offset = 0x48 then
    { s with hp := s.hp.sentByte s.wu.dataByte none ack, wu := s.wu.advance }
  else
    match s.register s.hp.offset.toNat with
    | none => { s with hp := (s.hp.flag .badOffset).sentByte 0 none ack }
    | some (base, bytes) =>
      let f := s.hp.fetch base bytes
      { s with hp := s.hp.sentByte f.1 f.2 ack }

/-! ### Writing (R186, R188) -/

/-- The bounds of a writable multi-byte register (R188): its lowest and highest offset. -/
def stagedRegister (off : Nat) : Option (Nat × Nat) :=
  if 0x04 ≤ off ∧ off < 0x06 then some (0x04, 0x05)
  else if 0x06 ≤ off ∧ off < 0x08 then some (0x06, 0x07)
  else if 0x13 ≤ off ∧ off < 0x19 then some (0x13, 0x18)
  else none

/-- Delivering a whole staged value to its owner (R140, R170, R171). -/
def State.deliverStaged (s : State) (base : Nat) (bytes : List Byte) : State :=
  let v := half (bytes.getD 0 0) (bytes.getD 1 0)
  if base = 0x04 then { s with eu := { s.eu with intStatus := s.eu.intStatus &&& ~~~v } }
  else if base = 0x06 then { s with eu := { s.eu with intEnable := v &&& classBits } }
  else { s with cu := { s.cu with param := bytes } }

/-- The staging after a byte for the register that starts at `base` (R188): appended to what is staged within this
transfer, or begun at the current offset. -/
def Hp.staged (h : Hp) (b : Byte) : Staging :=
  match h.staging with
  | some g => { g with bytes := g.bytes ++ [b] }
  | none => { first := h.offset, bytes := [b] }

/-- A byte for a multi-byte register (R188): staged, and settled at the register's last byte. -/
def State.stageByte (s : State) (base last : Nat) (b : Byte) : State :=
  let g := s.hp.staged b
  if s.hp.offset.toNat = last then
    let t := { s with hp := { s.hp with staging := none } }
    if g.first.toNat = base then t.deliverStaged base g.bytes
    else { t with hp := t.hp.flag .writeIncomplete }
  else { s with hp := { s.hp with staging := some g } }

/-- A byte delivered to RESTART (R192). -/
def State.requestRestart (s : State) (b : Byte) : State :=
  if b = 0x01 then { s with hp := { s.hp with restart := some .full } }
  else if b = 0x02 then { s with hp := { s.hp with restart := some .keepPower } }
  else s.badValue

/-- A pop (R168). -/
def State.pop (s : State) : State := { s with eu := { s.eu with queue := s.eu.queue.tail } }

/-- A byte delivered to HOST_STATUS (R189): each flag written as 1 clears. -/
def State.clearStatus (s : State) (b : Byte) : State :=
  { s with hp := { s.hp with status := s.hp.status &&& ~~~b } }

/-- A byte delivered to a one-byte register, or to an offset that takes no byte (R185, R186). -/
def State.deliverByte (s : State) (off : Nat) (b : Byte) : State :=
  if off = 0x02 then s.clearStatus b
  else if off = 0x03 then s.requestRestart b
  else if off = 0x09 then s.pop
  else if off = 0x12 then s.submit b
  else if off = 0x1A then s.retire b
  else if off = 0x1B then s.abort b
  else if off = 0x42 ∨ off = 0x43 ∨ off = 0x44 then s.setWindow off b
  else if off = 0x45 then s.capture
  else if off = 0x48 then s.badValue
  else if (s.register off).isSome then { s with hp := s.hp.flag .readOnlyWrite }
  else { s with hp := s.hp.flag .badOffset }

/-- The acknowledge of a byte from the host (R184): every byte of a write transfer, ignored ones included, and no other.
That of an address byte is `Hp.answer`'s. -/
def Hp.acknowledge (h : Hp) : Hp := { h with acked := h.phase == .writing || h.phase == .writeOffset }

/-- A byte from the host, acknowledged where it belongs to a write transfer. -/
def State.heard (s : State) : State := { s with hp := s.hp.acknowledge }

/-- A byte of a write transfer after its offset byte, wherever the offset stands (R185, R186). Bytes after a RESTART
request are acknowledged and discarded (R192); that the offset does not move for them is the model's choice
(notes/assumptions/11.md). -/
def State.writeByte (s : State) (b : Byte) : State :=
  let s := s.heard
  if s.hp.restart.isSome then s
  else
    let off := s.hp.offset
    let s :=
      match stagedRegister off.toNat with
      | some (base, last) => s.stageByte base last b
      | none => s.deliverByte off.toNat b
    { s with hp := { s.hp with offset := nextOffset off } }

/-! ### Bus conditions (R184, R188, R192) -/

/-- The end of a transfer: staged bytes discarded with WRITE_INCOMPLETE, the copy discarded, and a requested restart
acted on, which drops staged bytes without a flag. -/
def State.endTransfer (s : State) : State :=
  match s.hp.restart with
  | some k => ({ s with hp := { s.hp with phase := .idle, staging := none } } : State).restartAs k
  | none =>
    let h := if s.hp.staging.isSome then s.hp.flag .writeIncomplete else s.hp
    { s with hp := { h with phase := .idle, staging := none, snapshot := none } }

/-- A STOP (R184). -/
def State.stopBus (s : State) : State := if s.hp.phase = .idle then s else s.endTransfer

/-- The HP answering an address byte (R184): it acknowledges its own address in either direction, and no other. -/
def Hp.answer (h : Hp) (address : Byte) : Hp :=
  { h with
    phase :=
      if address.extractLsb' 1 7 = h.address then (if address.getLsbD 0 then .reading else .writeOffset)
      else .idle
    acked := address.extractLsb' 1 7 == h.address }

/-- A START or repeated START with its address byte (R184). One that ends a transfer which requested a restart is not
answered: the HP acknowledges again from the first START after the restart (R192). -/
def State.startBus (s : State) (address : Byte) : State :=
  if s.hp.restart.isSome then s.stopBus
  else { s.stopBus with hp := s.stopBus.hp.answer address }

/-- The offset byte of a write transfer (R185). -/
def State.setOffset (s : State) (b : Byte) : State :=
  let s := s.heard
  if s.hp.phase = .writeOffset then { s with hp := { s.hp with offset := b, phase := .writing } } else s

/-- The HP's own address byte, for a write or a read transfer. -/
def Hp.addressByte (h : Hp) (read : Bool) : Byte := (h.address.setWidth 8 <<< 1) ||| boolByte read

/-- A write transfer's opening at an offset, after a STOP of whatever was in progress. -/
def State.openWrite (s : State) (off : Byte) : State :=
  let s := s.stopBus
  (s.startBus (s.hp.addressByte false)).setOffset off

/-- The host writing bytes from an offset on: within the write transfer in progress where it stands at that offset,
else as a transfer of its own (notes/assumptions/9.md). -/
def State.hostWrite (s : State) (off : Byte) (bytes : List Byte) : State :=
  if s.hp.phase = .writing ∧ s.hp.offset = off ∧ s.hp.restart.isNone then bytes.foldl State.writeByte s
  else (bytes.foldl State.writeByte (s.openWrite off)).stopBus

/-- The host reading one byte at WIN_DATA: within the read transfer in progress where it stands there, else as a
transfer of its own. -/
def State.hostReadData (s : State) (ack : Bool) : State :=
  if s.hp.phase = .reading ∧ s.hp.offset = 0x48 then s.readByte ack
  else
    let s := s.openWrite 0x48
    ((s.startBus (s.hp.addressByte true)).readByte ack).stopBus

/-- The host submitting a command (section 7.10): CMD_PARAM, then the code to CMD_CODE. -/
def State.hostCommand (s : State) (code : Byte) (params : List Byte) : State :=
  (s.hostWrite 0x13 params).hostWrite 0x12 [code]

/-- The host requesting a restart (R192): the byte written to RESTART, and the end of its transfer. -/
def State.hostRestart (s : State) (b : Byte) : State := (s.hostWrite 0x03 [b]).stopBus

end Sys2Proof.Machine
end

