-- ==== Sys2Proof/Machine/Pins.lean ====
section
/-! DEFINITION. Commands of the pins and the slot timers: resets and restarts, DERATE_N, presence and switch inputs,
and timer expiries; and the levels at the part's own outputs. -/

namespace Sys2Proof.Machine

/-! ### Outputs -/

/-- The level of EN (R17, R19, R193): driven low while RESET_N is low. -/
def State.enHigh (s : State) (i : SlotId) : Bool := !s.resetLow && (s.slot i).en

/-- What the part drives on SL (R62, R73, R193): the frame being transmitted; released while RESET_N is low. -/
def State.slDriven (s : State) (i : SlotId) : Option (List Byte) :=
  if s.resetLow then none else (s.link i).driven

/-! ### Resets and restarts -/

/-- PIN_RESET (R193). -/
def execPinReset (first : Inputs) (s : State) : Host.Outcome State Fault Refusal := .next (s.coldStart first 0)

/-- Every block held at rest while RESET_N is low (R193, R184): EN low, and the bus transfer lost without a
flag, nothing acknowledged. -/
def State.rest (s : State) : State :=
  { s with
    resetLow := true
    slots := s.slots.map fun r => { r with en := false }
    hp := { s.hp with phase := .idle, staging := none, snapshot := none, restart := none, acked := false } }

/-- RESET_N_LOW (R193). -/
def execResetNLow (s : State) : Host.Outcome State Fault Refusal := .next s.rest

/-- FULL_RESTART (R194): the byte written, unless the transfer in progress has written it; then the transfer's end,
with these levels at the first samples. -/
def execFullRestart (first : Inputs) (s : State) : Host.Outcome State Fault Refusal :=
  happening (fun s =>
    let s := { s with inputs := first }
    if s.hp.restart = some .full then s.stopBus else s.hostRestart 0x01) s

/-- KEEP_POWER_RESTART (R195), likewise. -/
def execKeepPowerRestart (s : State) : Host.Outcome State Fault Refusal :=
  happening (fun s => if s.hp.restart = some .keepPower then s.stopBus else s.hostRestart 0x02) s

/-! ### Levels -/

/-- The AE taking a new DERATE_N level (R2, R3): DERATE_ON or DERATE_OFF, excess, then the decision rules. A level
already in use is no new level. -/
def State.takeDerate (s : State) (high : Bool) : State :=
  if s.ae.derateN = high then s
  else
    let t := { s with ae := { s.ae with derateN := high } }
    let t := (t.event (if high then .derateOff else .derateOn) none 0 t.ae.effective).evalExcess
    (t.aeRules (passCause s t)).excessExit s.ae.excess

/-- DERATE_N_LEVEL (R2). -/
def execDerateNLevel (high : Bool) (s : State) : Host.Outcome State Fault Refusal :=
  happening (fun s => ({ s with inputs := { s.inputs with derateN := high } } : State).takeDerate high) s

/-- The levels at the pins of slot `i` after one sample has brought it these, if any (R20). -/
def sampledAt (v : Inputs) (i : SlotId) (presN pg fltN : Option Bool) : Inputs :=
  { v with
    presN := updateAt v.presN i presN.getD
    pg := updateAt v.pg i pg.getD
    fltN := updateAt v.fltN i fltN.getD }

/-- One happening of the levels that one sample brings to slot `i` (R20): at the pins, and at the SS. -/
def State.levels (i : SlotId) (presN pg fltN : Option Bool) (s : State) : State :=
  atSlot i (fun s => s.sample i presN pg fltN) { s with inputs := sampledAt s.inputs i presN pg fltN }

/-- PRESENCE_LOW (R22). -/
def execPresenceLow (v : PresenceSample) (s : State) : Host.Outcome State Fault Refusal :=
  happening (State.levels v.slot (some false) v.pg v.fltN) s

/-- REMOVAL (R35). -/
def execRemoval (i : SlotId) (pg fltN : Option Bool) (s : State) : Host.Outcome State Fault Refusal :=
  happening (State.levels i (some true) pg fltN) s

/-- FLT_N_LOW (R32). -/
def execFltNLow (i : SlotId) (pg : Option Bool) (s : State) : Host.Outcome State Fault Refusal :=
  happening (State.levels i none pg (some false)) s

/-- PG_HIGH (R29). -/
def execPgHigh (i : SlotId) (s : State) : Host.Outcome State Fault Refusal :=
  happening (State.levels i none (some true) none) s

/-- PG_LOW (R33). -/
def execPgLow (i : SlotId) (s : State) : Host.Outcome State Fault Refusal :=
  happening (State.levels i none (some false) none) s

/-- FLT_N_HIGH (R20). -/
def execFltNHigh (v : FaultSample) (s : State) : Host.Outcome State Fault Refusal :=
  happening (State.levels v.slot none v.pg (some true)) s

/-! ### Timers (R42): an expiry takes effect while its timer runs -/

/-- SETTLE_EXPIRY (R23). -/
def execSettleExpiry (i : SlotId) (s : State) : Host.Outcome State Fault Refusal :=
  happening (atSlot i fun s => s.settleExpires i) s

/-- RAMP_EXPIRY (R30). -/
def execRampExpiry (i : SlotId) (s : State) : Host.Outcome State Fault Refusal :=
  happening (atSlot i fun s => s.rampExpires i) s

/-- REDUCE_DEADLINE_EXPIRY (R36). -/
def execReduceDeadlineExpiry (i : SlotId) (s : State) : Host.Outcome State Fault Refusal :=
  happening (atSlot i fun s => s.reduceExpires i) s

/-- GRACE_EXPIRY (R34). -/
def execGraceExpiry (i : SlotId) (s : State) : Host.Outcome State Fault Refusal :=
  happening (atSlot i fun s => s.graceExpires i) s

/-- HOLDOFF_EXPIRY (R38). -/
def execHoldoffExpiry (i : SlotId) (s : State) : Host.Outcome State Fault Refusal :=
  happening (atSlot i fun s => s.holdoffExpires i) s

/-- CLEAN_TIME_EXPIRY (R41). -/
def execCleanTimeExpiry (i : SlotId) (s : State) : Host.Outcome State Fault Refusal :=
  happening (atSlot i fun s => s.cleanExpires i) s

end Sys2Proof.Machine
end

