-- ==== Sys2Proof/Machine/SlotLink.lean ====
section
/-! DEFINITION. Commands of the slot links (chapter 4): the line, the phases of an exchange, and the card's replies; and
the SS taking a RESTATE-MAP request (R55). -/

namespace Sys2Proof.Machine

/-! ### The line -/

/-- ATTENTION (R76). -/
def execAttention (i : SlotId) (us : Nat) (s : State) : Host.Outcome State Fault Refusal :=
  happening (fun s => s.modLink i fun l => l.attend us (Config.attentionHeard s.freeIndex)) s

/-- SERVE_WORK (R75). -/
def execServeWork (i : SlotId) (s : State) : Host.Outcome State Fault Refusal :=
  happening (fun s => s.modLink i fun l => l.serve s.retryLimit) s

/-- LINE_WAIT_TIMEOUT (R60). -/
def execLineWaitTimeout (w : LineWait) (s : State) : Host.Outcome State Fault Refusal :=
  happening (atSlot w.slot fun s => s.lineTimeout w.slot w.attempt) s

/-- FRAME_SENT (R64, R73). -/
def execFrameSent (i : SlotId) (s : State) : Host.Outcome State Fault Refusal :=
  happening (fun s => s.modLink i fun l => l.sent s.retryLimit) s

/-- REPLY_WINDOW_CLOSED (R64). -/
def execReplyWindowClosed (i : SlotId) (s : State) : Host.Outcome State Fault Refusal :=
  happening (atSlot i fun s => s.windowClosed i) s

/-- LINK_RETRY (R65). -/
def execLinkRetry (i : SlotId) (lineFree : Bool) (s : State) : Host.Outcome State Fault Refusal :=
  happening (fun s => s.modLink i fun l => l.retry lineFree) s

/-- RESEND (R82). -/
def execResend (i : SlotId) (lineFree : Bool) (s : State) : Host.Outcome State Fault Refusal :=
  happening (fun s => s.modLink i fun l => l.resend lineFree) s

/-- FOLLOW_UP_POLL (R77). -/
def execFollowUpPoll (i : SlotId) (s : State) : Host.Outcome State Fault Refusal :=
  happening (fun s => s.modLink i LinkRec.followUpEnds) s

/-! ### Replies: a whole reply, its CRC right and its echo that of the frame sent, ends in the window -/

/-- DEMAND_REPLY (R48). -/
def execDemandReply (i : SlotId) (status : Byte) (payload : List Byte) (s : State) :
    Host.Outcome State Fault Refusal :=
  happening (atSlot i fun s => s.receive i { kind := .demand, status := status, payload := payload }) s

/-- ACCEPT (R27, R56, R107). -/
def execAccept (i : SlotId) (status : Byte) (s : State) : Host.Outcome State Fault Refusal :=
  happening (atSlot i fun s => s.receive i { kind := .accept, status := status, payload := [] }) s

/-- DECLINE (R27, R56, R108). -/
def execDecline (i : SlotId) (status : Byte) (s : State) : Host.Outcome State Fault Refusal :=
  happening (atSlot i fun s => s.receive i { kind := .decline, status := status, payload := [] }) s

/-- NOTED_REPLY (R120). -/
def execNotedReply (i : SlotId) (status : Byte) (s : State) : Host.Outcome State Fault Refusal :=
  happening (atSlot i fun s => s.receive i { kind := .noted, status := status, payload := [] }) s

/-- REDUCED_REPLY (R120). -/
def execReducedReply (i : SlotId) (status index : Byte) (s : State) : Host.Outcome State Fault Refusal :=
  happening (atSlot i fun s => s.receive i { kind := .reduced, status := status, payload := [index] }) s

/-- RELEASE (R26, R27, R31). -/
def execRelease (i : SlotId) (status : Byte) (s : State) : Host.Outcome State Fault Refusal :=
  happening (atSlot i fun s => s.receive i { kind := .release, status := status, payload := [] }) s

/-- IDLE (R24, R26, R31, R197). -/
def execIdle (i : SlotId) (status : Byte) (s : State) : Host.Outcome State Fault Refusal :=
  happening (atSlot i fun s => s.receive i { kind := .idle, status := status, payload := [] }) s

/-- REPLY_END (R64): the bytes received, judged. -/
def execReplyEnd (i : SlotId) (bytes : List Byte) (s : State) : Host.Outcome State Fault Refusal :=
  happening (atSlot i fun s => s.receiveBytes i bytes) s

/-! ### RESTATE-MAP -/

/-- RESTATE_MAP (R55). -/
def execRestateMap (i : SlotId) (s : State) : Host.Outcome State Fault Refusal :=
  happening (atSlot i fun s => s.nextMap i) s

end Sys2Proof.Machine
end

