-- ==== Sys2Proof/Machine/AeNotices.lean ====
section
/-! DEFINITION. Commands in which the Allocation Engine takes the oldest notice of a slot (R5, R10). A notice is taken
where the slot's oldest is of the kind the command names. -/

namespace Sys2Proof.Machine

/-- DEMAND_NOTICE (R26, R54, R88). -/
def execDemandNotice (i : SlotId) (s : State) : Host.Outcome State Fault Refusal :=
  happening (State.noticeOf (fun n => match n with | .demand .. => true | _ => false) i) s

/-- ACCEPTED_NOTICE (R99, R107, R56). -/
def execAcceptedNotice (i : SlotId) (s : State) : Host.Outcome State Fault Refusal :=
  happening (State.noticeOf (fun n => match n with | .accepted .. => true | _ => false) i) s

/-- DECLINED_NOTICE (R100, R108). -/
def execDeclinedNotice (i : SlotId) (s : State) : Host.Outcome State Fault Refusal :=
  happening (State.noticeOf (fun n => match n with | .declined .. => true | _ => false) i) s

/-- NOTED_NOTICE (R126). -/
def execNotedNotice (i : SlotId) (s : State) : Host.Outcome State Fault Refusal :=
  happening (State.noticeOf (fun n => match n with | .noted => true | _ => false) i) s

/-- REDUCED_NOTICE (R126, R127). -/
def execReducedNotice (i : SlotId) (s : State) : Host.Outcome State Fault Refusal :=
  happening (State.noticeOf (fun n => match n with | .reduced _ => true | _ => false) i) s

/-- RELEASED_NOTICE (R100). -/
def execReleasedNotice (i : SlotId) (s : State) : Host.Outcome State Fault Refusal :=
  happening (State.noticeOf (fun n => match n with | .released => true | _ => false) i) s

/-- FAULTED_NOTICE (R99, R100, R126). -/
def execFaultedNotice (i : SlotId) (s : State) : Host.Outcome State Fault Refusal :=
  happening (State.noticeOf (fun n => match n with | .faulted _ => true | _ => false) i) s

/-- REMOVED_NOTICE (R5, R126). -/
def execRemovedNotice (i : SlotId) (s : State) : Host.Outcome State Fault Refusal :=
  happening (State.noticeOf (fun n => match n with | .removed => true | _ => false) i) s

/-- POWERED_NOTICE (R99, R15, R197). -/
def execPoweredNotice (i : SlotId) (s : State) : Host.Outcome State Fault Refusal :=
  happening (State.noticeOf (fun n => match n with | .powered _ => true | _ => false) i) s

/-- ANSWER_NOTICE (R142). -/
def execAnswerNotice (i : SlotId) (s : State) : Host.Outcome State Fault Refusal :=
  happening (State.noticeOf (fun n => match n with | .answer .. => true | _ => false) i) s

end Sys2Proof.Machine
end

