-- ==== Sys2Proof/Machine/HostCommands.lean ====
section
/-! DEFINITION. The host's commands (chapter 7), each submitted through the Host Port: the six bytes of CMD_PARAM, then
the code byte to CMD_CODE. Bytes that a command does not read are written as 00h. -/

namespace Sys2Proof.Machine

/-- SET_BUDGET (R148). -/
def execSetBudget (budget reserve derated : Half) (s : State) : Host.Outcome State Fault Refusal :=
  happening (fun s => s.hostCommand 1 (halfBytes budget ++ halfBytes reserve ++ halfBytes derated)) s

/-- SET_SLOT_POLICY (R150). -/
def execSetSlotPolicy (slot classLimit : Byte) (maxPower : Half) (admits : Byte) (s : State) :
    Host.Outcome State Fault Refusal :=
  happening (fun s => s.hostCommand 2 ([slot, classLimit] ++ halfBytes maxPower ++ [admits, 0])) s

/-- REVOKE_SLOT (R154). -/
def execRevokeSlot (slot : Byte) (s : State) : Host.Outcome State Fault Refusal :=
  happening (fun s => s.hostCommand 3 [slot, 0, 0, 0, 0, 0]) s

/-- RESET_SLOT (R157). -/
def execResetSlot (slot : Byte) (s : State) : Host.Outcome State Fault Refusal :=
  happening (fun s => s.hostCommand 4 [slot, 0, 0, 0, 0, 0]) s

/-- REQUERY_SLOT (R158). -/
def execRequerySlot (slot : Byte) (s : State) : Host.Outcome State Fault Refusal :=
  happening (fun s => s.hostCommand 5 [slot, 0, 0, 0, 0, 0]) s

/-- HOLD (R159). -/
def execHold (value : Byte) (s : State) : Host.Outcome State Fault Refusal :=
  happening (fun s => s.hostCommand 6 [value, 0, 0, 0, 0, 0]) s

/-- SET_TIMING (R160). -/
def execSetTiming (reduceSteps graceSteps retryLimit rampMs holdoffSteps options : Byte) (s : State) :
    Host.Outcome State Fault Refusal :=
  happening (fun s => s.hostCommand 7 [reduceSteps, graceSteps, retryLimit, rampMs, holdoffSteps, options]) s

/-- BAD_CODE (R141): the code submitted with the parameters CMD_PARAM holds. -/
def execBadCode (code : Byte) (s : State) : Host.Outcome State Fault Refusal :=
  happening (fun s => s.hostWrite 0x12 [code]) s

/-- CMD_RETIRE (R144). -/
def execCmdRetire (tag : Byte) (s : State) : Host.Outcome State Fault Refusal :=
  happening (fun s => s.hostWrite 0x1A [tag]) s

/-- CMD_ABORT (R145). -/
def execCmdAbort (tag : Byte) (s : State) : Host.Outcome State Fault Refusal :=
  happening (fun s => s.hostWrite 0x1B [tag]) s

end Sys2Proof.Machine
end

