-- ==== Sys2Proof/Machine/HostAccess.lean ====
section
/-! DEFINITION. The host's register accesses with a row of their own (chapters 8 to 10), and the bytes and conditions of
the bus. -/

namespace Sys2Proof.Machine

/-- EVT_POP (R168). -/
def execEvtPop (value : Byte) (s : State) : Host.Outcome State Fault Refusal :=
  happening (fun s => s.hostWrite 0x09 [value]) s

/-- INT_STATUS_CLEAR (R170): both bytes within one transfer. -/
def execIntStatusClear (value : Half) (s : State) : Host.Outcome State Fault Refusal :=
  happening (fun s => s.hostWrite 0x04 (halfBytes value)) s

/-- INT_ENABLE (R171): both bytes within one transfer. -/
def execIntEnable (value : Half) (s : State) : Host.Outcome State Fault Refusal :=
  happening (fun s => s.hostWrite 0x06 (halfBytes value)) s

/-- HOST_STATUS_CLEAR (R189). -/
def execHostStatusClear (value : Byte) (s : State) : Host.Outcome State Fault Refusal :=
  happening (fun s => s.hostWrite 0x02 [value]) s

/-- WIN_CAPTURE (R176). -/
def execWinCapture (value : Byte) (s : State) : Host.Outcome State Fault Refusal :=
  happening (fun s => s.hostWrite 0x45 [value]) s

/-- WIN_DATA (R177). -/
def execWinData (ack : Bool) (s : State) : Host.Outcome State Fault Refusal :=
  happening (fun s => s.hostReadData ack) s

/-- REGISTER_WRITE (R186): a byte of the write transfer in progress, past its offset byte; with none in progress it is
not acknowledged (R184). -/
def execRegisterWrite (value : Byte) (s : State) : Host.Outcome State Fault Refusal :=
  happening (fun s => if s.hp.phase = .writing then s.writeByte value else s.heard) s

/-- START (R184). -/
def execStart (address : Byte) (s : State) : Host.Outcome State Fault Refusal :=
  happening (fun s => s.startBus address) s

/-- STOP (R184). -/
def execStop (s : State) : Host.Outcome State Fault Refusal := happening State.stopBus s

/-- OFFSET_SET (R185). -/
def execOffsetSet (value : Byte) (s : State) : Host.Outcome State Fault Refusal :=
  happening (fun s => s.setOffset value) s

/-- REGISTER_READ (R185, R187): a byte of the read transfer in progress. -/
def execRegisterRead (ack : Bool) (s : State) : Host.Outcome State Fault Refusal :=
  happening (fun s => if s.hp.phase = .reading then s.readByte ack else s) s

end Sys2Proof.Machine
end

