-- ==== Sys2Proof/Machine/Dispatch.lean ====
section
/-! DEFINITION. The meaning of each command: one arm per constructor of Instr, one call of its meaning. -/

namespace Sys2Proof.Machine

def exec (i : Instr) (s : State) : Host.Outcome State Fault Refusal :=
  match i with
  | .pinReset first => Sys2Proof.Machine.execPinReset first s
  | .resetNLow => Sys2Proof.Machine.execResetNLow s
  | .fullRestart first => Sys2Proof.Machine.execFullRestart first s
  | .keepPowerRestart => Sys2Proof.Machine.execKeepPowerRestart s
  | .derateNLevel high => Sys2Proof.Machine.execDerateNLevel high s
  | .presenceLow sample => Sys2Proof.Machine.execPresenceLow sample s
  | .removal slot pg fltN => Sys2Proof.Machine.execRemoval slot pg fltN s
  | .fltNLow slot pg => Sys2Proof.Machine.execFltNLow slot pg s
  | .pgHigh slot => Sys2Proof.Machine.execPgHigh slot s
  | .pgLow slot => Sys2Proof.Machine.execPgLow slot s
  | .settleExpiry slot => Sys2Proof.Machine.execSettleExpiry slot s
  | .rampExpiry slot => Sys2Proof.Machine.execRampExpiry slot s
  | .reduceDeadlineExpiry slot => Sys2Proof.Machine.execReduceDeadlineExpiry slot s
  | .graceExpiry slot => Sys2Proof.Machine.execGraceExpiry slot s
  | .holdoffExpiry slot => Sys2Proof.Machine.execHoldoffExpiry slot s
  | .cleanTimeExpiry slot => Sys2Proof.Machine.execCleanTimeExpiry slot s
  | .attention slot us => Sys2Proof.Machine.execAttention slot us s
  | .serveWork slot => Sys2Proof.Machine.execServeWork slot s
  | .lineWaitTimeout wait => Sys2Proof.Machine.execLineWaitTimeout wait s
  | .frameSent slot => Sys2Proof.Machine.execFrameSent slot s
  | .replyWindowClosed slot => Sys2Proof.Machine.execReplyWindowClosed slot s
  | .linkRetry slot lineFree => Sys2Proof.Machine.execLinkRetry slot lineFree s
  | .resend slot lineFree => Sys2Proof.Machine.execResend slot lineFree s
  | .followUpPoll slot => Sys2Proof.Machine.execFollowUpPoll slot s
  | .demandReply slot status payload => Sys2Proof.Machine.execDemandReply slot status payload s
  | .accept slot status => Sys2Proof.Machine.execAccept slot status s
  | .decline slot status => Sys2Proof.Machine.execDecline slot status s
  | .notedReply slot status => Sys2Proof.Machine.execNotedReply slot status s
  | .reducedReply slot status index => Sys2Proof.Machine.execReducedReply slot status index s
  | .release slot status => Sys2Proof.Machine.execRelease slot status s
  | .idle slot status => Sys2Proof.Machine.execIdle slot status s
  | .restateMap slot => Sys2Proof.Machine.execRestateMap slot s
  | .demandNotice slot => Sys2Proof.Machine.execDemandNotice slot s
  | .acceptedNotice slot => Sys2Proof.Machine.execAcceptedNotice slot s
  | .declinedNotice slot => Sys2Proof.Machine.execDeclinedNotice slot s
  | .notedNotice slot => Sys2Proof.Machine.execNotedNotice slot s
  | .reducedNotice slot => Sys2Proof.Machine.execReducedNotice slot s
  | .releasedNotice slot => Sys2Proof.Machine.execReleasedNotice slot s
  | .faultedNotice slot => Sys2Proof.Machine.execFaultedNotice slot s
  | .removedNotice slot => Sys2Proof.Machine.execRemovedNotice slot s
  | .poweredNotice slot => Sys2Proof.Machine.execPoweredNotice slot s
  | .answerNotice slot => Sys2Proof.Machine.execAnswerNotice slot s
  | .setBudget budget reserve derated => Sys2Proof.Machine.execSetBudget budget reserve derated s
  | .setSlotPolicy slot classLimit maxPower admits => Sys2Proof.Machine.execSetSlotPolicy slot classLimit maxPower admits s
  | .revokeSlot slot => Sys2Proof.Machine.execRevokeSlot slot s
  | .resetSlot slot => Sys2Proof.Machine.execResetSlot slot s
  | .requerySlot slot => Sys2Proof.Machine.execRequerySlot slot s
  | .hold value => Sys2Proof.Machine.execHold value s
  | .setTiming reduceSteps graceSteps retryLimit rampMs holdoffSteps options => Sys2Proof.Machine.execSetTiming reduceSteps graceSteps retryLimit rampMs holdoffSteps options s
  | .badCode code => Sys2Proof.Machine.execBadCode code s
  | .cmdRetire tag => Sys2Proof.Machine.execCmdRetire tag s
  | .cmdAbort tag => Sys2Proof.Machine.execCmdAbort tag s
  | .evtPop value => Sys2Proof.Machine.execEvtPop value s
  | .intStatusClear value => Sys2Proof.Machine.execIntStatusClear value s
  | .intEnable value => Sys2Proof.Machine.execIntEnable value s
  | .hostStatusClear value => Sys2Proof.Machine.execHostStatusClear value s
  | .winCapture value => Sys2Proof.Machine.execWinCapture value s
  | .winData ack => Sys2Proof.Machine.execWinData ack s
  | .registerWrite value => Sys2Proof.Machine.execRegisterWrite value s
  | .start address => Sys2Proof.Machine.execStart address s
  | .stop => Sys2Proof.Machine.execStop s
  | .offsetSet value => Sys2Proof.Machine.execOffsetSet value s
  | .fltNHigh sample => Sys2Proof.Machine.execFltNHigh sample s
  | .replyEnd slot bytes => Sys2Proof.Machine.execReplyEnd slot bytes s
  | .registerRead ack => Sys2Proof.Machine.execRegisterRead ack s

end Sys2Proof.Machine
end

