-- ==== Sys2Proof/Safety.lean ====
section
/-! DEFINITION. What counts as a safe state of the FPB-8: the properties the manual promises of every state between two
happenings. -/

namespace Sys2Proof.Machine

/-- The event queue holds at most 32 records, and a queue of 32 ends in OVERFLOW (R166). -/
def State.eventsBounded (s : State) : Prop :=
  s.eu.queue.length ≤ 32 ∧
    (s.eu.queue.length = 32 → (s.eu.queue.getLast?.map Event.kind) = some .overflow)

/-- EN is asserted exactly in the powered family and RESYNC (R17, R19), and nowhere while RESET_N is low (R193). -/
def State.enablesRight (s : State) : Prop :=
  ∀ i, s.enHigh i = (!s.resetLow && (s.slot i).state.enabled)

/-- A slot is LOCKED_OUT exactly when its strikes equal 3, and strikes never exceed 3 (R39). -/
def State.strikesRight (s : State) : Prop :=
  ∀ i, (s.slot i).strikes ≤ 3 ∧ ((s.slot i).state = .lockedOut ↔ (s.slot i).strikes = 3)

/-- The admission queue holds a slot exactly when it is WAITING, and at most once (R86). -/
def State.queueRight (s : State) : Prop :=
  s.ae.entryOrder.Nodup ∧ ∀ i, i ∈ s.ae.entryOrder ↔ (s.slot i).state = .waiting

/-- The grant order list holds no slot twice (R14), and every member has a nonzero claim. -/
def State.grantsRight (s : State) : Prop :=
  s.ae.grantOrder.Nodup ∧ ∀ i ∈ s.ae.grantOrder, (s.entry i).claim ≠ 0

/-- An asserted enable stands on a nonzero claim (R8). -/
def State.enablesClaimed (s : State) : Prop :=
  ∀ i, s.enHigh i = true → (s.entry i).claim ≠ 0

/-- At most one command slot is RUNNING (R141). -/
def State.oneRunning (s : State) : Prop :=
  ∀ t u, (s.cmd t).state = .running → (s.cmd u).state = .running → t = u

/-- The cursor of a nonempty window buffer is inside it, and is 0 in an empty one (R177). -/
def State.cursorRight (s : State) : Prop :=
  if s.wu.buffer.isEmpty then s.wu.cursor = 0 ∧ s.wu.wrap = false else s.wu.cursor < s.wu.buffer.length

/-- The excess condition kept is committed > EB (R13). -/
def State.excessRight (s : State) : Prop := s.ae.excess = decide (s.ae.effective < s.ae.committed)

/-- The earmark is 0 except while an ADMIT reclaim is active (R114). -/
def State.earmarkRight (s : State) : Prop :=
  s.ae.reclaim.earmark ≠ 0 → s.ae.reclaim.active = true ∧ s.ae.reclaim.kind = .admission

/-- Every max power in force is at least 1 (R147, R150). -/
def State.policiesRight (s : State) : Prop := ∀ i, (s.policy i).maxPower ≠ 0

/-- Every point of every demand record that a slot holds has a power of at least 1 (R46). -/
def State.listsRight (s : State) : Prop :=
  ∀ i l, (s.slot i).current = some l ∨ (s.slot i).arriving = some l ∨ (s.slot i).restated = some l →
    ∀ p ∈ l.points, p.power ≠ 0

/-- The point an exchange concerns is a point of the list it is taken from, with that point's power. -/
def Offered.of (o : Offered) (l : DemandList) : Prop := o.power = l.powerAt o.index ∧ o.power ≠ 0

/-- A slot that stands at a power, or may be given one, stands well (R4, R8, R25 to R27): its claim is not 0 while EN is
asserted or an offer is out; no notice that frees its claim is on its way from WAITING on; the granted index names a
point of the current list, and what is offered, mapped or to be mapped is a point of the list it concerns. -/
def SlotRec.powerRight (r : SlotRec) (claim : Nat) : Prop :=
  (r.state.enabled = true ∨ r.state = .offering → claim ≠ 0) ∧
  (r.state.enabled = true ∨ r.state = .offering ∨ r.state = .waiting → r.outbox.any Notice.frees = false) ∧
  (r.state.poweredFamily = true → r.grantedPower ≠ 0) ∧
  (r.state = .offering ∨ r.state = .raising → ∃ o l, r.offered = some o ∧ r.current = some l ∧ o.of l) ∧
  (r.state = .restating → ∃ o l, r.offered = some o ∧ r.restated = some l ∧ o.of l) ∧
  (∀ l, r.restated = some l → ∀ o, some o ∈ r.mapRequests → o.of l)

def State.powerRight (s : State) : Prop := ∀ i, (s.slot i).powerRight (s.entry i).claim

/-- An active reclaim lists no slot twice, at most eight, and never its beneficiary (R113). -/
def State.victimsRight (s : State) : Prop :=
  (s.ae.reclaim.victims.map Victim.slot).Nodup ∧ s.ae.reclaim.victims.length ≤ 8 ∧
    ∀ v ∈ s.ae.reclaim.victims, some v.slot ≠ s.ae.reclaim.beneficiary

/-! ### Records as the rules first write them -/

/-- A new exchange (R64, R65, R68): its first attempt, with the retry limit in force and the bit chosen for it. -/
def Exchange.fresh (f : Frame) (p : Phase) (limit : Nat) (bit : Bool) : Exchange :=
  { frame := f, phase := p, attempts := 1, limit := limit, resent := false, bit := bit }

/-- The reduction record on the entry to REDUCING (R119): the entry power is the target power. -/
def Reduction.entered (index power : Nat) (origin : Origin) : Reduction :=
  { targetIndex := index, targetPower := power, entryPower := power, origin := origin }

/-- A slot record in which restore has been taken (R34): link-hold clear, the grace timer stopped. -/
def SlotRec.restored (r : SlotRec) : SlotRec :=
  { r with linkHold := false, timers := { r.timers with grace := none } }

/-- A slot record from which everything that goes with power is gone (R21): EN, the granted index, the pending list,
what an exchange or a reduction concerned, the flags and the powered timers. -/
def SlotRec.powerless (r : SlotRec) : SlotRec :=
  { r with
    en := false, granted := 0, restated := none, offered := none, reduction := none, owed := none
    raiseDeclined := false, linkHold := false
    timers := { r.timers with ramp := none, reduce := none, grace := none, clean := none } }

/-- A slot record in STANDBY with no list (R25). -/
def SlotRec.listless (r : SlotRec) (classLimit : Nat) : SlotRec :=
  { r with
    state := .standby, current := none, arriving := none, restated := none, offered := none
    effClass := classLimit }

/-- A slot record in FAULTED, or LOCKED_OUT at the third strike, with no list (R37, R39). -/
def SlotRec.struck (r : SlotRec) (cause : FaultCause) (classLimit : Nat) (holdoff : Option Nat) : SlotRec :=
  { r with
    state := if r.strikes < 2 then .faulted else .lockedOut
    cause := some cause, strikes := min (r.strikes + 1) 3
    current := none, arriving := none, restated := none, offered := none, effClass := classLimit
    timers := { r.timers with holdoff := if r.strikes < 2 then holdoff else none } }

/-- The events of a fault (R37, R39): FAULT with the strikes reached, and LOCKOUT at the third. -/
def Eu.faulted (e : Eu) (i : SlotId) (cause : FaultCause) (strikes : Nat) : Eu :=
  if strikes < 2 then e.append .fault (some i) (byteOf cause.code) (BitVec.ofNat 16 (strikes + 1))
  else (e.append .fault (some i) (byteOf cause.code) 3).append .lockout (some i) (byteOf cause.code) 3

/-- A slot record that has sent one more notice. -/
def SlotRec.sending (r : SlotRec) (n : Notice) : SlotRec := { r with outbox := r.outbox ++ [n] }

/-- A slot record that enters REDUCING (R119, R36): toward this target, with this deadline. -/
def SlotRec.reducingTo (r : SlotRec) (index power : Nat) (origin : Origin) (deadline : Nat) : SlotRec :=
  { r with
    state := .reducing, reduction := some (.entered index power origin)
    timers := { r.timers with reduce := some deadline } }

/-- A slot record under a new max power and class limit (R50, R51): every point of its lists marked anew. -/
def SlotRec.retrimmed (r : SlotRec) (maxPower classLimit : Nat) : SlotRec :=
  { r with
    current := r.current.map (·.trim maxPower), restated := r.restated.map (·.trim maxPower)
    effClass := (r.current.map fun l => max l.cardClass classLimit).getD classLimit }

/-- Whether a max power leaves a point of the slot's current list available (R51); so, too, where there is no list. -/
def State.leftAt (s : State) (i : SlotId) (maxPower : Nat) : Bool :=
  ((s.slot i).current.map fun l => l.points.any fun p => decide (p.power ≤ maxPower)).getD true

/-- The events of a current list marked anew (R51): DEMAND_TRIMMED where its mask changes. -/
def State.retrimEu (s : State) (i : SlotId) (maxPower : Nat) : Eu :=
  let mask := fun l : DemandList => l.mask
  let new := ((s.slot i).current.map fun l => mask (l.trim maxPower)).getD 0
  if ((s.slot i).current.map mask).getD 0 = new then s.elapse.eu
  else (s.elapse.event .demandTrimmed (some i) new maxPower).eu

/-- An UP or LOST link record whose LE takes a request (R69): the new exchange at once, for which the bit of the last
turn frame begun is toggled (R68), in the place of a pending one, or the pending request (both as
notes/assumptions/47.md has it). -/
def LinkRec.asked (l : LinkRec) (f : Frame) (limit : Nat) : LinkRec :=
  if l.busy then { l with pendingReq := some f }
  else { l with exchange := some (.fresh f .waitLine limit (!l.seq)), pendingReq := none }

/-- A slot record with a list in force (R50, R110). -/
def SlotRec.listed (r : SlotRec) (l : DemandList) (classLimit : Nat) : SlotRec :=
  { r with
    current := some l, arriving := none, restated := none, effClass := max l.cardClass classLimit
    raiseDeclined := false }

/-- A link record after the cut (R21, R77), its LE holding no exchange. -/
def LinkRec.quieted (l : LinkRec) : LinkRec :=
  { l with pendingReq := none, queryDue := false, followUp := false, pollDue := false, waiting := some .cut }

/-! ### What a command brings -/

/-- The command that stands for one sample's levels at slot `i`, but for a removal (R20). -/
def carries (i : SlotId) (presN pg fltN : Option Bool) (c : Instr) : Prop :=
  (c = .presenceLow ⟨i, pg, fltN⟩ ∧ presN = some false) ∨ (c = .fltNLow i pg ∧ presN = none ∧ fltN = some false) ∨
    (c = .fltNHigh ⟨i, pg⟩ ∧ presN = none ∧ fltN = some true) ∨
    (c = .pgHigh i ∧ presN = none ∧ pg = some true ∧ fltN = none) ∨
    (c = .pgLow i ∧ presN = none ∧ pg = some false ∧ fltN = none)

/-! ### What a command leaves as it was -/

/-- RESET_N is high, and slot `i`'s reply window is open for the exchange `x` (R64). -/
def awaits (i : SlotId) (x : Exchange) (s : State) : Prop :=
  s.resetLow = false ∧ (s.link i).exchange = some x ∧ x.phase = .reply


/-- The blocks the host reaches, the queue of commands and RESET_N stand as before. -/
def sameHost (s t : State) : Prop :=
  t.pending = s.pending ∧ t.resetLow = s.resetLow ∧ t.cu = s.cu ∧ t.wu = s.wu ∧ t.hp = s.hp

/-- Every other slot's record and link record stand as before. -/
def othersSame (i : SlotId) (s t : State) : Prop :=
  ∀ j, j ≠ i → t.slot j = s.slot j ∧ t.link j = s.link j

/-- Slot `i`, its LE, the AE and the events aside, all stands as before. -/
def aroundSlot (i : SlotId) (s t : State) : Prop := sameHost s t ∧ othersSame i s t ∧ t.inputs = s.inputs

/-- The AE, the events and slot `i`'s record aside, all stands as before. -/
def aroundNotice (i : SlotId) (s t : State) : Prop :=
  sameHost s t ∧ (∀ j, j ≠ i → t.slot j = s.slot j) ∧ t.links = s.links ∧ t.inputs = s.inputs

/-- A happening at slot `i` alone: the AE, the host's blocks and the other slots stand as before. -/
def onlySlot (i : SlotId) (s t : State) : Prop := sameHost s t ∧ othersSame i s t ∧ t.ae = s.ae

/-- A happening at slot `i` alone, in which the slot leaves the admission queue if it stands there (R26). -/
def onlySlotQueue (i : SlotId) (s t : State) : Prop :=
  sameHost s t ∧ othersSame i s t ∧ t.ae = (s.leaveQueue i).ae

/-- A happening at slot `i`'s LE alone: time passes, and no event is appended. -/
def onlyLink (i : SlotId) (s t : State) : Prop :=
  sameHost s t ∧ (∀ j, t.slot j = s.slot j) ∧ (∀ j, j ≠ i → t.link j = s.link j) ∧ t.ae = s.ae ∧
    t.eu = s.elapse.eu ∧ t.inputs = s.inputs

/-- Everything but the HP stands as before, time aside. -/
def onlyPort (s t : State) : Prop :=
  t.pending = s.pending ∧ t.resetLow = s.resetLow ∧ t.inputs = s.inputs ∧ t.slots = s.slots ∧ t.links = s.links ∧
    t.ae = s.ae ∧ t.cu = s.cu ∧ t.eu = s.elapse.eu ∧ t.wu = s.wu

/-- A slot record `r'` that is `r` at the end of the happening (R142): where the standing power of `r` is at most the
limit of its command watch, the watch is cleared and an ANSWER stands behind the other notices; else it is `r`. -/
def afterWatch (maxPower : Nat) (r r' : SlotRec) : Prop :=
  r' =
    match r.watch with
    | some w =>
      if r.standing maxPower ≤ w.limit then
        { r with watch := none, outbox := r.outbox ++ [.answer w.tag w.num .ok (byteOf w.found)] }
      else r
    | none => r

/-- The AE makes no decision on its next inputs: HOLD is set, no reclaim is active, committed is within EB, and neither
a command nor a policy step waits. -/
def aeStill (s : State) : Prop :=
  s.ae.hold = true ∧ s.ae.reclaim.active = false ∧ s.ae.excess = false ∧ s.ae.committed ≤ s.ae.effective ∧
    s.cu.policyWait = [] ∧ s.running = none

/-- The AE's decisions stand open (R90, R101): HOLD is clear, no reclaim is active and nothing is earmarked, committed
is within EB, the RESYNC period is over, and neither a command nor a policy step waits. -/
def aeOpen (s : State) : Prop :=
  s.ae.hold = false ∧ s.ae.reclaim.active = false ∧ s.ae.reclaim.earmark = 0 ∧ s.ae.excess = false ∧
    s.ae.committed ≤ s.ae.effective ∧ s.ae.resyncActive = false ∧ s.cu.policyWait = [] ∧ s.running = none

/-- The decision rules of R91 find nothing to do to the account as it stands: an active reclaim goes on (R129 to R133),
and where none is active no excess calls for one (R118). -/
def aeSettled (s : State) : Prop :=
  (s.ae.reclaim.active = false →
    s.ae.excess = false ∨ s.ae.resyncActive = true ∨ s.budgetCandidates = []) ∧
  (s.ae.reclaim.active = true →
    s.ae.reclaim.concluded = false ∧
      (s.ae.reclaim.kind = .budget ∧ s.ae.excess = true ∨
       s.ae.reclaim.kind = .admission ∧ s.ae.excess = false ∧
        ∃ b, s.ae.reclaim.beneficiary = some b ∧ (s.slot b).state = .waiting ∧ s.fitting b = none))

/-- The CU is idle and would take tag `k` for the next submission (R140, R141). -/
def cuIdle (s : State) (k : Fin 4) : Prop :=
  s.freeTag = some k ∧ ∀ u, (s.cmd u).state ≠ .running ∧ (s.cmd u).state ≠ .queued

/-- The Host Port holds neither a restart request nor staged bytes. -/
def portClear (s : State) : Prop := s.hp.restart = none ∧ s.hp.staging = none

/-- The port after bytes written from register `off` on (R184, R185), with HOST_STATUS as given: the transfer in
progress goes on where it stood there, and else a transfer of its own has ended (notes/assumptions/9.md); the last byte
is acknowledged. -/
def Hp.wrote (h : Hp) (off next status : Byte) : Hp :=
  if h.phase = .writing ∧ h.offset = off then
    { h with offset := next, status := status, staging := none, acked := true }
  else { h with phase := .idle, offset := next, status := status, staging := none, snapshot := none, acked := true }

/-- A host command written to an idle CU that takes tag `k`: the parameters stay in CMD_PARAM, the count and
SUBMIT_RESULT move on, and tag `k` holds the command as given (R139, R140). -/
def submitted (k : Fin 4) (code : Byte) (params : List Byte) (st : CmdState) (r : CmdResult) (d : Byte)
    (s t : State) : Prop :=
  t.cmd k = { code := code, state := st, result := r, detail := d, params := params, num := s.cu.count } ∧
    (∀ u, u ≠ k → t.cmd u = s.cmd u) ∧ t.cu.count = s.cu.count + 1 ∧ t.cu.submitResult = byteOf k.val ∧
    t.cu.param = params ∧
    t.hp = { s.hp with phase := .idle, offset := 0x12, staging := none, snapshot := none, acked := true }

/-- The slots, the links, the inputs, the WU and the queue of commands stand as before. -/
def aroundCu (s t : State) : Prop :=
  t.slots = s.slots ∧ t.links = s.links ∧ t.inputs = s.inputs ∧ t.wu = s.wu ∧ t.pending = s.pending ∧
    t.resetLow = s.resetLow

end Sys2Proof.Machine
end

