-- ==== Sys2Proof/Certificates/Slice0/Obligations.lean ====
section
/-! DEFINITION. The statements for the provers. -/

section Statements

open Sys2Proof Sys2Proof.Machine

/-! ### The machine as a whole -/

/-- The state after reset holds the pin-reset values the manual gives (R18, R63, R112, R139, R140, R146, R172, R174) in
a chassis with no card. That no card is present and DERATE_N is high, by which every slot is EMPTY and RESTART stands
alone, is the model's choice (notes/assumptions/1.md), and so is the empty queue of commands (notes/assumptions/31.md).
-/
def Obligations.ResetHoldsPinResetValues : Prop :=
  (∀ i : SlotId,
    (State.reset.slot i).state = .empty ∧ (State.reset.slot i).strikes = 0 ∧ (State.reset.slot i).cause = none ∧
    (State.reset.slot i).en = false ∧ (State.reset.slot i).current = none ∧ (State.reset.slot i).granted = 0 ∧
    (State.reset.link i).link = .down ∧ (State.reset.link i).seq = false ∧ (State.reset.link i).exchange = none ∧
    (State.reset.entry i).claim = 0 ∧ (State.reset.entry i).mark = .none ∧
    State.reset.policy i = { classLimit := 0, maxPower := 400, admits := true }) ∧
  State.reset.ae.budget = 0 ∧ State.reset.ae.reserve = 0 ∧ State.reset.ae.derated = 0 ∧
  State.reset.ae.hold = false ∧ State.reset.ae.excess = false ∧ State.reset.ae.entryOrder = [] ∧
  State.reset.ae.grantOrder = [] ∧ State.reset.ae.reclaim.active = false ∧ State.reset.ae.reclaim.earmark = 0 ∧
  (∀ t : Fin 4, (State.reset.cmd t).state = .free) ∧ State.reset.cu.submitResult = 0xFE ∧
  State.reset.cu.param = [0, 0, 0, 0, 0, 0] ∧ State.reset.cu.settings.reduceSteps = 20 ∧
  State.reset.cu.settings.graceSteps = 10 ∧ State.reset.cu.settings.retryLimit = 3 ∧
  State.reset.cu.settings.rampMs = 50 ∧ State.reset.cu.settings.holdoffSteps = 20 ∧
  State.reset.cu.settings.backfill = false ∧ State.reset.cu.settings.autoRaise = true ∧
  State.reset.eu.queue =
    [{ seq := 0, kind := .restart, slot := none, a := 0, b := 0, time := 0 }] ∧
  State.reset.eu.intStatus = 0x0100 ∧ State.reset.eu.intEnable = 0 ∧ State.reset.wu.first = 0 ∧
  State.reset.wu.last = 7 ∧ State.reset.wu.group = 0 ∧ State.reset.wu.buffer = [] ∧ State.reset.hp.offset = 0 ∧
  State.reset.hp.status = 0 ∧ State.reset.pending = []

/-- The state after reset meets every invariant stated below. -/
def Obligations.ResetMeetsInvariants : Prop :=
  State.reset.eventsBounded ∧ (State.reset.queueRight ∧ State.reset.enablesRight ∧ State.reset.strikesRight) ∧
    (State.reset.excessRight ∧ State.reset.earmarkRight) ∧ State.reset.oneRunning ∧ State.reset.cursorRight ∧
    (State.reset.grantsRight ∧ State.reset.victimsRight ∧ State.reset.policiesRight ∧ State.reset.listsRight) ∧
    State.reset.powerRight ∧ State.reset.enablesClaimed

/-- A step runs the command at the front of the queue on the state with the queue's rest. -/
def Obligations.StepRunsFrontCommand : Prop :=
  ∀ (s : State) (c : Instr) (rest : List Instr),
    step { s with pending := c :: rest } = exec c { s with pending := rest }

/-- Every command answers a next state, and none touches the queue of commands. -/
def Obligations.CommandsKeepQueue : Prop :=
  ∀ (s : State) (c : Instr), ∃ t, exec c s = .next t ∧ t.pending = s.pending

/-- While RESET_N is low, no command but the two of RESET_N itself has any effect (R193). -/
def Obligations.LowResetHoldsEveryBlock : Prop :=
  ∀ (s : State) (c : Instr), s.resetLow = true → (∀ first, c ≠ .pinReset first) → c ≠ .resetNLow →
    exec c s = .next s

/-- Every step keeps the event queue at 32 records at most, a queue of 32 ending in OVERFLOW (R166). -/
def Obligations.StepKeepsEventQueueBounded : Prop :=
  ∀ (s t : State), s.eventsBounded → step s = .next t → t.eventsBounded

/-- Every step keeps these three together: the admission queue holds exactly the WAITING slots, each once (R86); EN is
asserted exactly in the powered family and RESYNC (R17, R19, R193); a slot is LOCKED_OUT exactly at three strikes
(R39). With the lists and policies sound and every slot standing well, every step also keeps an asserted enable on a
nonzero claim (R8). -/
def Obligations.StepKeepsSlotsSound : Prop :=
  ∀ (s t : State), step s = .next t →
    (s.queueRight ∧ s.enablesRight ∧ s.strikesRight → t.queueRight ∧ t.enablesRight ∧ t.strikesRight) ∧
    (s.queueRight ∧ s.enablesRight ∧ s.policiesRight ∧ s.listsRight ∧ s.powerRight →
      t.powerRight ∧ t.enablesClaimed)

/-- Every step keeps the excess condition equal to committed > EB (R13), and the earmark 0 outside an active ADMIT
reclaim (R114). With every policy and list sound it keeps the grant order list free of repeats and of slots without a
claim (R14), and the victim list free of repeats and of its beneficiary (R113). -/
def Obligations.StepKeepsAccountSound : Prop :=
  ∀ (s t : State), step s = .next t →
    (s.excessRight ∧ s.earmarkRight → t.excessRight ∧ t.earmarkRight) ∧
    (s.grantsRight ∧ s.victimsRight ∧ s.policiesRight ∧ s.listsRight →
      t.grantsRight ∧ t.victimsRight ∧ t.policiesRight ∧ t.listsRight)

/-- Every step keeps at most one command RUNNING (R141), and the window cursor inside a nonempty buffer, at 0 without
WRAP in an empty one (R177). -/
def Obligations.StepKeepsHostSideSound : Prop :=
  ∀ (s t : State), s.oneRunning ∧ s.cursorRight → step s = .next t → t.oneRunning ∧ t.cursorRight

/-! ### Resets and restarts -/

/-- A pin reset starts every block from its defaults and takes the inputs from their first samples (R193): nothing is
claimed or enabled, each present slot settles, and RESTART heads the queue. That DERATE_ON then stands before the
PRESENTs, and these by slot number, is the model's choice (notes/assumptions/17.md), and that nothing is left in flight
is DEDUCED (notes/assumptions/13.md). -/
def Obligations.PinResetStartsFromFirstSamples : Prop :=
  ∀ (s : State) (first : Inputs), ∃ t, exec (.pinReset first) s = .next t ∧
    (∀ i : SlotId, t.link i = .reset ∧ t.entry i = .reset ∧ t.enHigh i = false ∧
      t.slot i =
        if first.presN[i.val] then .reset true first.pg[i.val] first.fltN[i.val] 0
        else { SlotRec.reset false first.pg[i.val] first.fltN[i.val] 0 with
               state := .settling, timers := { Timers.stopped with settle := some 50 } }) ∧
    t.ae = .reset first.derateN ∧ t.cu = .restarted .reset ∧ t.wu = .restarted 0 7 0 ∧
    t.hp = .restarted (0x3A + first.straps.setWidth 7) ∧ t.inputs = first ∧ t.resetLow = false ∧
    t.pending = s.pending ∧ t.eu.timeMs = 0 ∧ t.eu.intEnable = 0 ∧
    t.eu.queue.map (fun e => (e.kind, e.slot)) =
      (.restart, none) :: ((if first.derateN then [] else [(.derateOn, none)]) ++
        (allSlots.filter fun i => !first.presN[i.val]).map fun i => (.present, some i))

/-- RESET_N taken low drives every EN low, releases SL and INT_N, and loses the transfer on the bus without a flag,
acknowledging nothing (R193, R184). That every other record keeps its contents until the pin reset is the model's choice
(notes/assumptions/24.md). -/
def Obligations.LowResetDrivesOutputsOff : Prop :=
  ∀ (s : State), ∃ t, exec .resetNLow s = .next t ∧
    t.resetLow = true ∧ t.intNLow = false ∧
    (∀ i : SlotId, t.enHigh i = false ∧ t.slDriven i = none ∧ t.slot i = { s.slot i with en := false }) ∧
    t.links = s.links ∧ t.ae = s.ae ∧ t.cu = s.cu ∧ t.eu = s.eu ∧ t.wu = s.wu ∧ t.pending = s.pending ∧
    t.inputs = s.inputs ∧
    t.hp = { s.hp with phase := .idle, staging := none, snapshot := none, restart := none, acked := false }

/-- A full restart, its 01h written and its transfer ended, starts the part as a pin reset does, but for field a of
RESTART (R194). -/
def Obligations.FullRestartStartsLikePinReset : Prop :=
  ∀ (s : State) (first : Inputs), s.resetLow = false → s.hp.restart = none →
    ∃ t, exec (.fullRestart first) s = .next t ∧
      t = ({ s with freeIndex := s.freeIndex + 1 } : State).coldStart first 1 ∧
      ∃ u, exec (.pinReset first) s = .next u ∧
        t.slots = u.slots ∧ t.links = u.links ∧ t.ae = u.ae ∧ t.cu = u.cu ∧ t.wu = u.wu ∧ t.hp = u.hp ∧
        t.eu.queue.tail = u.eu.queue.tail ∧ (t.eu.queue.head?.map Event.a) = some 1 ∧
        (u.eu.queue.head?.map Event.a) = some 0 ∧ t.pending = s.pending

/-- A keep-power restart (R195, R196): a slot in the powered family or RESYNC, its levels good, enters RESYNC with EN
kept, its claim at max power and a QUERY started; one whose FLT_N or PG is low is cut at entry; every other slot goes
where the table says with claim 0; the bookkeeping is empty, the configuration and the levels are kept. That messages in
flight are gone, so that a slot cut at entry has its FAULTED notice alone on its way and no policy request waits, is
DEDUCED (notes/assumptions/13.md). -/
def Obligations.KeepPowerRestartResynchronises : Prop :=
  ∀ (s : State), s.resetLow = false → s.hp.restart = none →
    ∃ t, exec .keepPowerRestart s = .next t ∧
      (∀ i : SlotId,
        ((s.slot i).state.kept (s.slot i).presN = .resync →
          (t.entry i).claim = (s.policy i).maxPower ∧ (t.entry i).confirmed = (s.policy i).maxPower ∧
          (t.entry i).resync = true ∧
          ((s.slot i).fltN = true → (s.slot i).pg = true →
            (t.slot i).state = .resync ∧ t.enHigh i = true ∧ (t.slot i).granted = 0 ∧
            (t.slot i).current = none ∧ (t.slot i).restated = none ∧ (t.slot i).reduction = none ∧
            (t.slot i).watch = none ∧ (t.slot i).owed = none ∧ (t.slot i).timers = .stopped ∧
            (t.slot i).strikes = (s.slot i).strikes ∧ (t.slot i).cause = (s.slot i).cause ∧
            (t.link i).link = .up ∧ (t.link i).seq = (s.link i).seq ∧
            (t.link i).exchange = some (.fresh .query .waitLine s.cu.settings.retryLimit (!(s.link i).seq))) ∧
          ((s.slot i).fltN = false → (t.slot i).cause = some .switchFault ∧ t.enHigh i = false ∧
            (t.slot i).outbox = [.faulted .switchFault]) ∧
          ((s.slot i).fltN = true → (s.slot i).pg = false →
            (t.slot i).cause = some .powerLost ∧ t.enHigh i = false ∧ (t.slot i).outbox = [.faulted .powerLost])) ∧
        ((s.slot i).state.kept (s.slot i).presN ≠ .resync →
          (t.slot i).state = (s.slot i).state.kept (s.slot i).presN ∧ t.enHigh i = false ∧
          t.entry i = .reset ∧ (t.slot i).strikes = (s.slot i).strikes ∧ (t.slot i).current = none ∧
          (t.link i).seq = (s.link i).seq ∧ (t.link i).exchange = none ∧
          (t.slot i).timers = { Timers.stopped with
            settle := if (t.slot i).state = .settling then some 50 else none
            holdoff := if (t.slot i).state = .faulted then s.holdoffTimer else none } ∧
          ((t.link i).link = .up ↔ (t.slot i).state = .faulted ∨ (t.slot i).state = .lockedOut))) ∧
      t.ae.hold = false ∧ t.ae.entryOrder = [] ∧ t.ae.grantOrder = [] ∧ t.ae.reclaim = .reset ∧
      t.ae.budget = s.ae.budget ∧ t.ae.reserve = s.ae.reserve ∧ t.ae.derated = s.ae.derated ∧
      t.ae.derateN = s.ae.derateN ∧ t.excessRight ∧
      t.ae.resyncActive = (allSlots.any fun i => (s.slot i).state.kept (s.slot i).presN == .resync) ∧
      t.cu = .restarted s.cu.settings ∧ t.wu = .restarted s.wu.first s.wu.last s.wu.group ∧
      t.hp = .restarted s.hp.address ∧ t.eu.intEnable = s.eu.intEnable ∧
      t.eu.queue.head? = some { seq := 0, kind := .restart, slot := none, a := 2, b := 0, time := t.eu.timeMs } ∧
      t.pending = s.pending ∧ t.inputs = s.inputs

/-! ### Pins and slot timers -/

/-- A new DERATE_N level (R2, R3, R13): the level is taken and excess is evaluated anew; with no decision for the AE to
make, the derating event and then the excess event are all that happens beside it. A RUNNING SET_BUDGET concludes, with
detail 01h, when the level ends the excess (R149). -/
def Obligations.DerateLevelRecomputesBudget : Prop :=
  ∀ (s : State) (high : Bool), s.resetLow = false → s.ae.derateN ≠ high → s.excessRight →
    ∃ t, exec (.derateNLevel high) s = .next t ∧
      t.ae.derateN = high ∧ t.inputs = { s.inputs with derateN := high } ∧
      ((∀ u, (s.cmd u).state ≠ .queued) →
        t.ae.budget = s.ae.budget ∧ t.ae.derated = s.ae.derated ∧
        t.ae.effective = (if high then s.ae.budget else min s.ae.budget s.ae.derated)) ∧
      (s.running = none →
        t.excessRight ∧ sameHost s t ∧ t.ae.budget = s.ae.budget ∧ t.ae.derated = s.ae.derated ∧
        (s.ae.hold = true → s.ae.reclaim.active = false → s.budgetCandidates = [] →
          t.slots = s.slots ∧ t.links = s.links ∧
          t.ae = { s.ae with derateN := high, excess := decide (t.ae.effective < s.ae.committed) } ∧
          t.eu =
            (if t.ae.excess && !s.ae.excess then
              (s.elapse.eu.append (if high then .derateOff else .derateOn) none 0
                (BitVec.ofNat 16 t.ae.effective)).append
                  .budgetExcess none 0 (BitVec.ofNat 16 (s.ae.committed - t.ae.effective))
            else if s.ae.excess && !t.ae.excess then
              (s.elapse.eu.append (if high then .derateOff else .derateOn) none 0
                (BitVec.ofNat 16 t.ae.effective)).append
                  .budgetOk none 0 (BitVec.ofNat 16 (t.ae.effective - s.ae.committed))
            else
              s.elapse.eu.append (if high then .derateOff else .derateOn) none 0
                (BitVec.ofNat 16 t.ae.effective)))) ∧
      (∀ k, s.running = some k → (s.cmd k).code = 1 → (∀ u, (s.cmd u).state ≠ .queued) → s.ae.hold = true →
        s.ae.reclaim.active = false → s.ae.excess = true → s.ae.committed ≤ t.ae.effective →
        t.cmd k = { s.cmd k with state := .done, result := .ok, detail := 1 } ∧
        (∀ u, u ≠ k → t.cmd u = s.cmd u) ∧ t.slots = s.slots ∧ t.links = s.links ∧
        t.ae = { s.ae with derateN := high, excess := false } ∧
        t.eu = (((s.elapse.event (if high then .derateOff else .derateOn) none 0 t.ae.effective).event .budgetOk none 0
          (t.ae.effective - s.ae.committed)).event .cmdDone none k.val 0).eu)

/-- The BUDGET trigger (R118): a derate that brings committed above EB, with no reclaim active, the RESYNC period over
and a POWERED slot in the grant order list, starts a BUDGET reclaim: no beneficiary, no earmark, the shortfall
committed minus EB, every victim's outcome PENDING, and each victim's SS in REDUCING with EN and claim as they were. An
ADMIT reclaim whose beneficiary still waits is converted instead (R134): kind BUDGET, the beneficiary and the earmark
gone, the shortfall what its unfinished victims will not bring, and further victims listed behind them for it. -/
def Obligations.DerateStartsBudgetReclaim : Prop :=
  ∀ (s : State), s.resetLow = false → s.ae.derateN = true → s.running = none → s.ae.grantOrder.Nodup →
    min s.ae.budget s.ae.derated < s.ae.committed →
    ∃ t, exec (.derateNLevel false) s = .next t ∧
      (s.ae.reclaim.active = false → s.ae.resyncActive = false → s.budgetCandidates ≠ [] →
        t.ae.reclaim.active = true ∧ t.ae.reclaim.kind = .budget ∧ t.ae.reclaim.beneficiary = none ∧
        t.ae.reclaim.earmark = 0 ∧ t.ae.reclaim.yieldTaken = 0 ∧
        t.ae.reclaim.shortfall = s.ae.committed - min s.ae.budget s.ae.derated ∧ t.ae.slots = s.ae.slots ∧
        (∀ v ∈ t.ae.reclaim.victims, v.outcome = .pending ∧ (s.slot v.slot).state = .powered ∧
          (t.slot v.slot).state = .reducing ∧ (t.slot v.slot).en = (s.slot v.slot).en ∧
          (t.slot v.slot).reduction = some (.entered v.targetIndex v.targetPower .reclaim) ∧
          (t.slot v.slot).timers.reduce = some (s.cu.settings.reduceSteps * 10)) ∧
        (∀ i, (∀ v ∈ t.ae.reclaim.victims, v.slot ≠ i) → t.slot i = s.slot i ∧ t.link i = s.link i) ∧
        sameHost s t) ∧
      (∀ b, s.ae.reclaim.beneficiary = some b → s.ae.reclaim.active = true → s.ae.reclaim.kind = .admission →
        s.ae.reclaim.concluded = false → (s.slot b).state = .waiting → s.listsRight →
        let need := s.ae.committed - min s.ae.budget s.ae.derated - s.ae.reclaim.expectedYield
        let added := if need = 0 then [] else s.selectVictims need s.conversionCandidates
        t.ae.reclaim = { s.ae.reclaim with
          kind := .budget, beneficiary := none, earmark := 0, shortfall := need
          victims := s.ae.reclaim.victims ++ added } ∧
        (∀ v ∈ added, v.outcome = .pending ∧ (s.slot v.slot).state = .powered ∧ (t.slot v.slot).state = .reducing ∧
          (t.slot v.slot).reduction = some (.entered v.targetIndex v.targetPower .reclaim)) ∧
        (s.ae.hold = true → s.ae.excess = false → (∀ j, (s.slot j).restated = none) →
          t.eu = (((s.elapse.event .derateOn none 0 (min s.ae.budget s.ae.derated)).event .budgetExcess none 0
            (s.ae.committed - min s.ae.budget s.ae.derated)).event .reclaimConverted (some b) added.length need).eu))

/-- PRES_N taken low in EMPTY (R22): SETTLING, PRESENT and the 50 ms settle timer, with the levels that the same sample
brings recorded (R20); in any other state the level alone is recorded. -/
def Obligations.PresenceStartsSettling : Prop :=
  ∀ (s : State) (i : SlotId) (pg fltN : Option Bool), s.resetLow = false →
    ∃ t, exec (.presenceLow ⟨i, pg, fltN⟩) s = .next t ∧ t.inputs = sampledAt s.inputs i (some false) pg fltN ∧
      ((s.slot i).state = .empty →
        onlySlot i s t ∧ t.link i = s.link i ∧
        afterWatch (s.policy i).maxPower
          { s.slot i with presN := false, pg := pg.getD (s.slot i).pg, fltN := fltN.getD (s.slot i).fltN
                          state := .settling, timers := { (s.slot i).timers with settle := some 50 } } (t.slot i) ∧
        t.eu = s.elapse.eu.append .present (some i) 0 0) ∧
      ((s.slot i).state ≠ .empty → pg = none → fltN = none →
        onlySlot i s t ∧ t.link i = s.link i ∧
        afterWatch (s.policy i).maxPower { s.slot i with presN := false } (t.slot i) ∧ t.eu = s.elapse.eu)

/-- Removal in any state but EMPTY (R35): the slot and link records take their removal values, the slot leaves the
queue, REMOVED carries the state left and the granted power, and the AE is told; in EMPTY the levels are recorded. -/
def Obligations.RemovalResetsSlot : Prop :=
  ∀ (s : State) (i : SlotId) (pg fltN : Option Bool), s.resetLow = false →
    ∃ t, exec (.removal i pg fltN) s = .next t ∧
      ((s.slot i).state ≠ .empty →
        afterWatch (s.policy i).maxPower
          { SlotRec.reset true (pg.getD (s.slot i).pg) (fltN.getD (s.slot i).fltN) (s.policy i).classLimit with
            watch := (s.slot i).watch, outbox := (s.slot i).outbox ++ [.removed]
            mapRequests := (s.slot i).mapRequests } (t.slot i) ∧
        t.link i = .reset ∧ onlySlotQueue i s t ∧
        t.eu = s.elapse.eu.append .removed (some i) (byteOf (s.slot i).state.code)
          (BitVec.ofNat 16 (s.slot i).grantedPower)) ∧
      ((s.slot i).state = .empty →
        afterWatch (s.policy i).maxPower
          { s.slot i with presN := true, pg := pg.getD (s.slot i).pg, fltN := fltN.getD (s.slot i).fltN } (t.slot i) ∧
        t.link i = s.link i ∧ onlySlot i s t ∧ t.eu = s.elapse.eu)

/-- The faults of a slot whose EN is asserted (R20, R30, R32, R33, R34, R36, R37, R39): FLT_N low, whatever else its
sample brings, PG low without it, ramp, reduce deadline and grace expiry each cut the slot with their own cause: EN and
every grant gone, a strike counted, FAULTED with the holdoff or LOCKED_OUT at the third, FAULT and LOCKOUT appended, the
LE's work withdrawn and a CUT frame asked for, and FAULTED sent behind the notices already under way. That FLT_N low
comes before a PG high of the same sample is DEDUCED (notes/assumptions/19.md). -/
def Obligations.FaultsCutThePoweredSlot : Prop :=
  ∀ (s : State) (i : SlotId) (presN pg fltN : Option Bool) (c : Instr) (cause : FaultCause), s.resetLow = false →
    (s.slot i).en = true →
    (carries i presN pg fltN c ∧ fltN = some false ∧ (s.slot i).state.enabled = true ∧ cause = .switchFault) ∨
    (carries i presN pg fltN c ∧ pg = some false ∧ fltN ≠ some false ∧ (s.slot i).state.enabled = true ∧
      (s.slot i).state ≠ .powering ∧ cause = .powerLost) ∨
    (c = .rampExpiry i ∧ (s.slot i).state = .powering ∧ (s.slot i).timers.ramp.isSome = true ∧
      cause = .rampTimeout) ∨
    (c = .reduceDeadlineExpiry i ∧ (s.slot i).state = .reducing ∧ (s.slot i).timers.reduce.isSome = true ∧
      cause = .reduceTimeout) ∨
    (c = .graceExpiry i ∧ (s.slot i).state.poweredFamily = true ∧ (s.slot i).timers.grace.isSome = true ∧
      cause = .linkLost) →
    ∃ t, exec c s = .next t ∧
      (t.slot i).en = false ∧ (t.slot i).granted = 0 ∧ (t.slot i).cause = some cause ∧
      (t.slot i).strikes = min ((s.slot i).strikes + 1) 3 ∧
      (t.slot i).state = (if (t.slot i).strikes < 3 then .faulted else .lockedOut) ∧
      (t.slot i).current = none ∧ (t.slot i).restated = none ∧ (t.slot i).offered = none ∧
      (t.slot i).reduction = none ∧ (t.slot i).owed = none ∧ (t.slot i).linkHold = false ∧
      (t.slot i).raiseDeclined = false ∧ (t.slot i).effClass = (s.policy i).classLimit ∧
      (t.slot i).timers = { Timers.stopped with
        settle := (s.slot i).timers.settle
        holdoff := if (t.slot i).strikes < 3 then s.holdoffTimer else none } ∧
      (s.slot i).outbox ++ [.faulted cause] <+: (t.slot i).outbox ∧
      t.link i = (s.link i).cut ∧ (t.link i).exchange = none ∧ (t.link i).pendingReq = none ∧
      (∀ x, (s.link i).exchange = some x → x.phase = .send →
        (t.link i).stale = some (.send x.frame x.bit)) ∧
      ((s.link i).link ≠ .down → (t.link i).waiting = some .cut) ∧
      t.eu =
        (if (t.slot i).strikes < 3 then
          s.elapse.eu.append .fault (some i) (byteOf cause.code) (BitVec.ofNat 16 (t.slot i).strikes)
        else
          (s.elapse.eu.append .fault (some i) (byteOf cause.code) (BitVec.ofNat 16 (t.slot i).strikes)).append
            .lockout (some i) (byteOf cause.code) 3) ∧
      onlySlotQueue i s t

/-- PG taken high in POWERING, in a sample that does not bring FLT_N low (R20, R29): POWERED, the ramp timer stopped,
the clean-time timer started, GRANTED, and POWERED sent with the granted power. -/
def Obligations.PowerGoodEntersPowered : Prop :=
  ∀ (s : State) (i : SlotId) (presN fltN : Option Bool) (c : Instr), s.resetLow = false →
    (s.slot i).state = .powering → carries i presN (some true) fltN c → fltN ≠ some false →
    ∃ t, exec c s = .next t ∧ onlySlot i s t ∧ t.link i = s.link i ∧
      t.inputs = sampledAt s.inputs i presN (some true) fltN ∧
      afterWatch (s.policy i).maxPower { s.slot i with
          presN := presN.getD (s.slot i).presN, pg := true, fltN := fltN.getD (s.slot i).fltN, state := .powered
          timers := { (s.slot i).timers with ramp := none, clean := some 30000 }
          outbox := (s.slot i).outbox ++ [.powered (s.slot i).grantedPower] } (t.slot i) ∧
      t.eu = s.elapse.eu.append .granted (some i) (byteOf (s.slot i).granted)
        (BitVec.ofNat 16 (s.slot i).grantedPower)

/-- Levels that one sample brings in a state that no rule names them for are recorded and have no effect (R20): FLT_N
high always, PG high outside POWERING, PG low in POWERING or with EN deasserted, FLT_N low with EN deasserted, and
PRES_N low outside EMPTY. -/
def Obligations.OtherLevelsAreOnlyRecorded : Prop :=
  ∀ (s : State) (i : SlotId) (presN pg fltN : Option Bool) (c : Instr), s.resetLow = false →
    carries i presN pg fltN c → (presN = some false → (s.slot i).state ≠ .empty) →
    (fltN = some false → (s.slot i).state.enabled = false) →
    (pg = some true → (s.slot i).state ≠ .powering) →
    (pg = some false → (s.slot i).state.enabled = false ∨ (s.slot i).state = .powering) →
    ∃ t, exec c s = .next t ∧ onlySlot i s t ∧ t.link i = s.link i ∧ t.eu = s.elapse.eu ∧
      t.inputs = sampledAt s.inputs i presN pg fltN ∧
      afterWatch (s.policy i).maxPower { s.slot i with
        presN := presN.getD (s.slot i).presN, pg := pg.getD (s.slot i).pg, fltN := fltN.getD (s.slot i).fltN }
          (t.slot i)

/-- Settle expiry in SETTLING and holdoff expiry in FAULTED enter IDENTIFY, and the LE starts a QUERY for which
the bit of the last turn frame begun is toggled, leaving DOWN for UP (R23, R38, R63, R68, R71, R81), but for a withdrawn
frame still being sent, at whose end the QUERY is due; the retry appends RETRY and keeps the strikes. That the QUERY
waits in that way is DEDUCED (notes/assumptions/15.md). -/
def Obligations.ExpiryEntersIdentify : Prop :=
  ∀ (s : State) (i : SlotId) (c : Instr), s.resetLow = false →
    (c = .settleExpiry i ∧ (s.slot i).state = .settling ∧ (s.slot i).timers.settle.isSome = true) ∨
    (c = .holdoffExpiry i ∧ (s.slot i).state = .faulted ∧ (s.slot i).timers.holdoff.isSome = true) →
    ∃ t, exec c s = .next t ∧ onlySlot i s t ∧ t.inputs = s.inputs ∧
      afterWatch (s.policy i).maxPower { s.slot i with
        state := .identify, timers := { (s.slot i).timers with settle := none, holdoff := none } } (t.slot i) ∧
      ((s.link i).completing = false → (∀ x, (s.link i).exchange = some x → x.phase ≠ .send) →
        (t.link i).exchange = some (.fresh .query .waitLine s.cu.settings.retryLimit (!(s.link i).seq)) ∧
        (t.link i).seq = (s.link i).seq) ∧
      (∀ x, (s.link i).exchange = some x → x.phase = .send →
        (t.link i).exchange = none ∧ (t.link i).seq = (s.link i).seq ∧ (t.link i).queryDue = true ∧
        (t.link i).stale = some (.send x.frame x.bit)) ∧
      (t.link i).pendingReq = none ∧
      (t.link i).link = (if (s.link i).link = .down then .up else (s.link i).link) ∧
      t.eu =
        (if (s.slot i).state = .faulted then
          s.elapse.eu.append .retry (some i) (byteOf (causeCode (s.slot i).cause))
            (BitVec.ofNat 16 (s.slot i).strikes)
        else s.elapse.eu)

/-- Clean-time expiry in the powered family clears the strikes and appends no event (R41). -/
def Obligations.CleanTimeClearsStrikes : Prop :=
  ∀ (s : State) (i : SlotId), s.resetLow = false → (s.slot i).state.poweredFamily = true →
    (s.slot i).timers.clean.isSome = true →
    ∃ t, exec (.cleanTimeExpiry i) s = .next t ∧ onlySlot i s t ∧ t.link i = s.link i ∧ t.eu = s.elapse.eu ∧
      t.inputs = s.inputs ∧
      afterWatch (s.policy i).maxPower
        { s.slot i with strikes := 0, timers := { (s.slot i).timers with clean := none } } (t.slot i)

/-! ### The slot link -/

/-- Attention (R76): in UP and LOST, while the LE neither transmits nor holds a window, a low level of 200 microseconds
or more sets the latch and one below 100 does not; in DOWN, and while the LE is busy, nothing is heard. -/
def Obligations.AttentionSetsTheLatch : Prop :=
  ∀ (s : State) (i : SlotId) (us : Nat), s.resetLow = false →
    ∃ t, exec (.attention i us) s = .next t ∧ onlyLink i s t ∧
      ((s.link i).link ≠ .down → (s.link i).quiet = true → 200 ≤ us →
        t.link i = { s.link i with attention := true }) ∧
      (us < 100 ∨ (s.link i).link = .down ∨ (s.link i).quiet = false → t.link i = s.link i)

/-- What a quiet LE serves on a free line, in order (R60, R63, R68, R73, R75): a waiting frame without turn, sent with
the current bit; the attempt that waits, whose bit becomes the bit of the last turn frame begun; the pending request
and, after it, a POLL for attention or a due follow-up, each sent at once with the sequence bit toggled. -/
def Obligations.QuietLinkServesInOrder : Prop :=
  ∀ (s : State) (i : SlotId), s.resetLow = false →
    ∃ t, exec (.serveWork i) s = .next t ∧ onlyLink i s t ∧
      ((s.link i).link = .down ∨ (s.link i).quiet = false → t.link i = s.link i) ∧
      ((s.link i).link ≠ .down → (s.link i).quiet = true →
        (∀ k, (s.link i).waiting = some k →
          t.link i = { s.link i with sending := some (k, (s.link i).seq), waiting := none } ∧
          t.slDriven i = some (k.bytes (s.link i).seq)) ∧
        ((s.link i).waiting = none →
          (∀ x, (s.link i).exchange = some x →
            t.link i = { s.link i with
              exchange := some { x with phase := if x.phase = .waitLine then .send else x.phase }
              seq := if x.phase = .waitLine then x.bit else (s.link i).seq }) ∧
          ((s.link i).exchange = none →
            (∀ f, (s.link i).pendingReq = some f →
              (t.link i).exchange = some (.fresh f .send s.cu.settings.retryLimit (!(s.link i).seq)) ∧
              (t.link i).seq = !(s.link i).seq ∧ (t.link i).pendingReq = none) ∧
            ((s.link i).pendingReq = none → (s.link i).attention = true ∨ (s.link i).pollDue = true →
              t.link i = { s.link i with
                exchange := some (.fresh .poll .send s.cu.settings.retryLimit (!(s.link i).seq))
                seq := !(s.link i).seq, attention := false, pollDue := false }) ∧
            ((s.link i).pendingReq = none → (s.link i).attention = false → (s.link i).pollDue = false →
              t.link i = s.link i))))

/-- The last stop bit (R64, R70, R71, R73): a frame without turn leaves the LE free, and a turn frame opens its reply
window. A withdrawn turn frame has been completed on the line with its own bit; its window opens too, and a QUERY that
was due starts, for which that bit is toggled. What runs on of a withdrawn exchange is DEDUCED
(notes/assumptions/15.md). -/
def Obligations.SentFrameOpensWindow : Prop :=
  ∀ (s : State) (i : SlotId), s.resetLow = false →
    ∃ t, exec (.frameSent i) s = .next t ∧ onlyLink i s t ∧
      (∀ k, (s.link i).sending = some k →
        s.slDriven i = some (k.1.bytes k.2) ∧ t.link i = { s.link i with sending := none }) ∧
      ((s.link i).sending = none → (s.link i).completing = false →
        ∀ x, (s.link i).exchange = some x → x.phase = .send →
          t.link i = { s.link i with exchange := some { x with phase := .reply } }) ∧
      ((s.link i).sending = none → (s.link i).completing = true →
        (∀ f q, (s.link i).stale = some (.send f q) → s.slDriven i = some (f.bytes q)) ∧
        ((s.link i).queryDue = false → t.link i = { s.link i with stale := some .reply }) ∧
        ((s.link i).queryDue = true →
          t.link i = { s.link i with
            stale := some .reply, queryDue := false
            exchange := some (.fresh .query .waitLine s.cu.settings.retryLimit (!(s.link i).seq)) }))

/-- A bad reply (R64, R65, R82): the window closing on silence sets NO_REPLY, and bytes that fail a check set that
check's flag; while attempts remain the exchange waits its gap, and a re-sent one is held again; the slot's record and
the AE stand as before. -/
def Obligations.BadReplyIsRetried : Prop :=
  ∀ (s : State) (i : SlotId) (bytes : List Byte) (x : Exchange) (c : Instr) (f : NearFlag), s.resetLow = false →
    (s.link i).exchange = some x → x.phase = .reply → (x.resent = true ∨ x.attempts ≤ x.limit) →
    (c = .replyWindowClosed i ∧ f = .noReply) ∨
    (c = .replyEnd i bytes ∧ judgeBytes x.frame x.bit bytes = .bad f) →
    ∃ t, exec c s = .next t ∧ onlySlot i s t ∧ t.eu = s.elapse.eu ∧ t.inputs = s.inputs ∧
      afterWatch (s.policy i).maxPower (s.slot i) (t.slot i) ∧
      t.link i = { s.link i with
        near := (s.link i).near ||| f.mask
        exchange := some { x with phase := if x.resent then .held else .gap } }

/-- The last permitted attempt failing (R60, R64 to R66, R81), by slot state: the window closing on silence, bytes that
fail a check, or a line not free in time, for the attempt that waits and, at a retry limit of 0, for the request that a
free LE would take up. The link is LOST with the frame held; on an UP link LINK_LOST is appended and the re-send count
is 0, and on one already LOST neither happens. A powered slot stays where it is under link grace (R34); a slot that is
only identified or waiting faults with NO_LINK (R33); one in OFFERING does so too and withdraws the re-send (R27); one
in RESYNC is cut with RESYNC_FAIL (R197); in FAULTED and LOCKED_OUT no slot state changes (R40). DEDUCED are that an
OFFER still pending goes with the re-send in OFFERING (notes/assumptions/18.md), and which item the 2 ms of a line not
free concern (notes/assumptions/16.md). -/
def Obligations.LastFailureLosesTheLink : Prop :=
  ∀ (s : State) (i : SlotId) (x : Exchange) (bytes : List Byte) (c : Instr) (f : NearFlag), s.resetLow = false →
    x.resent = false → x.limit < x.attempts → (s.link i).link ≠ .down →
    ((s.link i).exchange = some x ∧ x.phase = .reply ∧ c = .replyWindowClosed i ∧ f = .noReply) ∨
    ((s.link i).exchange = some x ∧ x.phase = .reply ∧ c = .replyEnd i bytes ∧
      judgeBytes x.frame x.bit bytes = .bad f) ∨
    ((s.link i).exchange = some x ∧ x.phase = .waitLine ∧ c = .lineWaitTimeout ⟨i, true⟩ ∧ f = .noReply) ∨
    ((s.link i).busy = false ∧ (s.link i).pendingReq = some x.frame ∧ s.cu.settings.retryLimit = 0 ∧
      x = .fresh x.frame .waitLine 0 (!(s.link i).seq) ∧ c = .lineWaitTimeout ⟨i, true⟩ ∧ f = .noReply) →
    let lost : Eu :=
      if (s.link i).link = .up then
        s.elapse.eu.append .linkLost (some i) (byteOf x.frame.code) (BitVec.ofNat 16 x.attempts)
      else s.elapse.eu
    ∃ t, exec c s = .next t ∧ sameHost s t ∧ othersSame i s t ∧ t.inputs = s.inputs ∧
      (t.link i).link = .lost ∧ (t.link i).near = (s.link i).near ||| f.mask ∧ (t.link i).retriesUsed = x.limit ∧
      (t.link i).resends = (if (s.link i).link = .up then 0 else (s.link i).resends) ∧
      ((s.slot i).state.poweredFamily = true →
        (t.link i).exchange = some { x with phase := .held, resent := true } ∧
        afterWatch (s.policy i).maxPower { s.slot i with
          linkHold := true
          timers := { (s.slot i).timers with grace := some (s.cu.settings.graceSteps * 100) } } (t.slot i) ∧
        t.ae = s.ae ∧ t.eu = lost) ∧
      ((s.slot i).state = .identify ∨ (s.slot i).state = .standby ∨ (s.slot i).state = .waiting ∨
          (s.slot i).state = .parked →
        (t.slot i).cause = some .noLink ∧ (t.slot i).strikes = min ((s.slot i).strikes + 1) 3 ∧
        (t.slot i).state = (if (t.slot i).strikes < 3 then .faulted else .lockedOut) ∧
        (t.slot i).current = none ∧ t.ae = (s.leaveQueue i).ae ∧
        t.eu = lost.faulted i .noLink (s.slot i).strikes ∧
        ((s.slot i).en = false → (t.link i).exchange = some { x with phase := .held, resent := true })) ∧
      ((s.slot i).state = .offering → (s.slot i).en = false →
        (t.link i).exchange = none ∧ (t.link i).pendingReq = none ∧ (t.link i).waiting = (s.link i).waiting ∧
        t.ae = (s.leaveQueue i).ae ∧
        afterWatch (s.policy i).maxPower
          (((s.slot i).struck .noLink (s.policy i).classLimit s.holdoffTimer).sending (.faulted .noLink)) (t.slot i) ∧
        t.eu = lost.faulted i .noLink (s.slot i).strikes) ∧
      ((s.slot i).state = .resync → (s.slot i).en = true →
        (t.link i).exchange = none ∧ (t.link i).waiting = some .cut ∧ t.enHigh i = false ∧
        t.ae = (s.leaveQueue i).ae ∧
        afterWatch (s.policy i).maxPower
          (((s.slot i).powerless.struck .resyncFail (s.policy i).classLimit s.holdoffTimer).sending
            (.faulted .resyncFail)) (t.slot i) ∧
        t.eu = lost.faulted i .resyncFail (s.slot i).strikes) ∧
      ((s.slot i).state = .faulted ∨ (s.slot i).state = .lockedOut →
        (t.link i).exchange = some { x with phase := .held, resent := true } ∧
        afterWatch (s.policy i).maxPower (s.slot i) (t.slot i) ∧ t.ae = s.ae ∧ t.eu = lost)

/-- A retry and a re-send (R65, R82): the same frame and sequence bit, sent at once on a free line with no frame without
turn waiting; a retry is one more attempt, and a re-send is counted to 255. FOLLOW_UP_POLL makes a POLL due while
polling is on (R77). That a re-send counts as it is made ready is DEDUCED (notes/assumptions/35.md). -/
def Obligations.RetryAndResendRepeatTheFrame : Prop :=
  ∀ (s : State) (i : SlotId) (x : Exchange), s.resetLow = false →
    ((s.link i).exchange = some x → x.phase = .gap →
      (∃ t, exec (.linkRetry i false) s = .next t ∧ onlyLink i s t ∧
        t.link i = { s.link i with exchange := some { x with phase := .waitLine, attempts := x.attempts + 1 } }) ∧
      ((s.link i).waiting = none → (s.link i).sending = none → (s.link i).stale = none →
        ∃ t, exec (.linkRetry i true) s = .next t ∧ onlyLink i s t ∧
          t.link i = { s.link i with
            seq := x.bit, exchange := some { x with phase := .send, attempts := x.attempts + 1 } })) ∧
    ((s.link i).exchange = some x → x.phase = .held →
      (∃ t, exec (.resend i false) s = .next t ∧ onlyLink i s t ∧
        t.link i = { s.link i with
          resends := min ((s.link i).resends + 1) 255, exchange := some { x with phase := .waitLine } }) ∧
      ((s.link i).waiting = none → (s.link i).sending = none → (s.link i).stale = none →
        ∃ t, exec (.resend i true) s = .next t ∧ onlyLink i s t ∧
          t.link i = { s.link i with
            resends := min ((s.link i).resends + 1) 255, seq := x.bit
            exchange := some { x with phase := .send } })) ∧
    (∃ t, exec (.followUpPoll i) s = .next t ∧ onlyLink i s t ∧
      t.link i = { s.link i with pollDue := (s.link i).pollDue || (s.link i).followUp })

/-- The line not free within 2 ms (R60, R73): for a frame without turn, the one that waits is dropped, unless a frame or
a window keeps its moment away; for a turn attempt, the one that waits counts as NO_REPLY, whatever waits beside it, and
so does the first attempt of the work a free LE would take up. Which item the 2 ms concern is DEDUCED
(notes/assumptions/16.md). -/
def Obligations.BusyLineDropsOrCounts : Prop :=
  ∀ (s : State) (i : SlotId), s.resetLow = false → (s.link i).link ≠ .down →
    (∃ t, exec (.lineWaitTimeout ⟨i, false⟩) s = .next t ∧ onlySlot i s t ∧
      afterWatch (s.policy i).maxPower (s.slot i) (t.slot i) ∧ t.eu = s.elapse.eu ∧
      t.link i = (if (s.link i).frameReady then { s.link i with waiting := none } else s.link i)) ∧
    (∃ t, exec (.lineWaitTimeout ⟨i, true⟩) s = .next t ∧
      (∀ x, (s.link i).exchange = some x → x.phase = .waitLine → x.resent = false → x.attempts ≤ x.limit →
        t.link i = { s.link i with near := (s.link i).near ||| 0x10, exchange := some { x with phase := .gap } } ∧
        onlySlot i s t ∧ afterWatch (s.policy i).maxPower (s.slot i) (t.slot i) ∧ t.eu = s.elapse.eu) ∧
      (∀ f, (s.link i).pendingReq = some f → (s.link i).busy = false → f ≠ .poll → 1 ≤ s.cu.settings.retryLimit →
        t.link i = { s.link i with
          near := (s.link i).near ||| 0x10, pendingReq := none
          exchange := some (.fresh f .gap s.cu.settings.retryLimit (!(s.link i).seq)) } ∧
        onlySlot i s t ∧ afterWatch (s.policy i).maxPower (s.slot i) (t.slot i) ∧ t.eu = s.elapse.eu))

/-- The bytes of a reply, laid out by R61 and closed by the CRC of R62 with the echo of the frame sent, are read as that
reply: REPLY_END on them is the reply's own command. What the reply rows stand for, a whole reply with the right echo,
is DEDUCED (notes/assumptions/14.md). -/
def Obligations.ReplyBytesReadAsTheReply : Prop :=
  ∀ (s : State) (i : SlotId) (bit : Bool) (status index : Byte) (payload : List Byte), payload.length ≤ 21 →
    (∀ x, (s.link i).exchange = some x → x.phase = .reply → x.bit = bit) →
    exec (.replyEnd i (Reply.bytes { kind := .demand, status := status, payload := payload } bit)) s =
      exec (.demandReply i status payload) s ∧
    exec (.replyEnd i (Reply.bytes { kind := .accept, status := status, payload := [] } bit)) s =
      exec (.accept i status) s ∧
    exec (.replyEnd i (Reply.bytes { kind := .decline, status := status, payload := [] } bit)) s =
      exec (.decline i status) s ∧
    exec (.replyEnd i (Reply.bytes { kind := .noted, status := status, payload := [] } bit)) s =
      exec (.notedReply i status) s ∧
    exec (.replyEnd i (Reply.bytes { kind := .reduced, status := status, payload := [index] } bit)) s =
      exec (.reducedReply i status index) s ∧
    exec (.replyEnd i (Reply.bytes { kind := .release, status := status, payload := [] } bit)) s =
      exec (.release i status) s ∧
    exec (.replyEnd i (Reply.bytes { kind := .idle, status := status, payload := [] } bit)) s =
      exec (.idle i status) s

/-! ### Replies taken by the Slot Sequencer -/

/-- A valid DEMAND (R24 to R26, R48, R50): in WAITING and PARKED it replaces the current list; in IDENTIFY and STANDBY,
with admit disabled, the slot parks with it; with admit enabled it awaits the entry to WAITING (the model's choice,
notes/assumptions/5.md), or replaces the list that a STANDBY slot keeps while its own entry is under way (DEDUCED,
notes/assumptions/20.md). DEMAND and DEMAND_TRIMMED are appended, and the AE is told. The fields of the
DEMAND event are those of R59, not R88 (DEDUCED, notes/assumptions/37.md). -/
def Obligations.DemandAwaitsEntryOrReplaces : Prop :=
  ∀ (s : State) (i : SlotId) (status : Byte) (payload : List Byte) (x : Exchange) (l : DemandList),
    awaits i x s → x.frame.allows .demand = true → demandLengths.contains payload.length = true →
    readDemand payload (s.policy i).maxPower = .valid l →
    (s.slot i).state = .identify ∨ (s.slot i).state = .standby ∨ (s.slot i).state = .waiting ∨
      (s.slot i).state = .parked →
    ∃ t, exec (.demandReply i status payload) s = .next t ∧ aroundSlot i s t ∧ t.ae = s.ae ∧
      t.link i = (s.link i).goodReply x { kind := .demand, status := status, payload := payload } ∧
      t.eu = ((s.elapse.linkGood i x { kind := .demand, status := status, payload := payload }).demandEvents i l).eu ∧
      ((s.slot i).state = .waiting ∨ (s.slot i).state = .parked →
        afterWatch (s.policy i).maxPower
          (((s.slot i).restored.listed l (s.policy i).classLimit).sending (.demand false none)) (t.slot i)) ∧
      ((s.slot i).state = .identify ∨ (s.slot i).state = .standby ∧ (s.slot i).current = none →
        afterWatch (s.policy i).maxPower
          ((if (s.policy i).admits then { (s.slot i).restored with arriving := some l }
            else { (s.slot i).restored.listed l (s.policy i).classLimit with state := .parked }).sending
              (.demand false none)) (t.slot i)) ∧
      ((s.slot i).state = .standby → (s.slot i).current ≠ none →
        afterWatch (s.policy i).maxPower ({ (s.slot i).restored.listed l (s.policy i).classLimit with
          state := if (s.policy i).admits then .standby else .parked }.sending (.demand false none)) (t.slot i))

/-- A rejected DEMAND (R24 to R26, R48, R59, R197): DEMAND_BAD with the failing check or the max power; without power
the slot then faults with BAD_DEMAND and leaves the queue, and in RESYNC it is cut with RESYNC_FAIL. That in POWERED a
REFUSE is asked for without DEMAND_REFUSED, and nothing else changes, is DEDUCED (notes/assumptions/18.md). -/
def Obligations.BadDemandFaultsOrIsRefused : Prop :=
  ∀ (s : State) (i : SlotId) (status : Byte) (payload : List Byte) (x : Exchange) (a b : Nat),
    awaits i x s → x.frame.allows .demand = true → demandLengths.contains payload.length = true →
    (readDemand payload (s.policy i).maxPower = .malformed b ∧ a = 1) ∨
      (readDemand payload (s.policy i).maxPower = .overMax ∧ a = 2 ∧ b = (s.policy i).maxPower) →
    ((s.slot i).en = false →
      (s.slot i).state = .identify ∨ (s.slot i).state = .standby ∨ (s.slot i).state = .waiting ∨
        (s.slot i).state = .parked →
      ∃ t, exec (.demandReply i status payload) s = .next t ∧ aroundSlot i s t ∧ t.ae = (s.leaveQueue i).ae ∧
        t.link i = (s.link i).goodReply x { kind := .demand, status := status, payload := payload } ∧
        t.eu = ((s.elapse.linkGood i x { kind := .demand, status := status, payload := payload }).event .demandBad
          (some i) a b).eu.faulted i .badDemand (s.slot i).strikes ∧
        afterWatch (s.policy i).maxPower
          (((s.slot i).restored.struck .badDemand (s.policy i).classLimit s.holdoffTimer).sending
            (.faulted .badDemand)) (t.slot i)) ∧
    ((s.slot i).state = .powered → (s.slot i).restated = none →
      ∃ t, exec (.demandReply i status payload) s = .next t ∧ aroundSlot i s t ∧ t.ae = s.ae ∧
        t.link i = { (s.link i).goodReply x { kind := .demand, status := status, payload := payload } with
          waiting := some .refuse } ∧
        t.eu = ((s.elapse.linkGood i x { kind := .demand, status := status, payload := payload }).event .demandBad
          (some i) a b).eu ∧
        afterWatch (s.policy i).maxPower (s.slot i).restored (t.slot i)) ∧
    ((s.slot i).state = .resync →
      ∃ t, exec (.demandReply i status payload) s = .next t ∧ aroundSlot i s t ∧ t.ae = (s.leaveQueue i).ae ∧
        t.enHigh i = false ∧
        t.link i = ((s.link i).goodReply x { kind := .demand, status := status, payload := payload }).quieted ∧
        t.eu = ((s.elapse.linkGood i x { kind := .demand, status := status, payload := payload }).event .demandBad
          (some i) a b).eu.faulted i .resyncFail (s.slot i).strikes ∧
        afterWatch (s.policy i).maxPower (((s.slot i).restored.powerless.struck .resyncFail (s.policy i).classLimit
          s.holdoffTimer).sending (.faulted .resyncFail)) (t.slot i))

/-- A DEMAND to a slot with power or a fault (R40, R53, R58): valid in POWERED with no pending list it begins a
restatement, and the current list, the granted index, EN, the account and the timers stand; in OFFERING, POWERING,
RAISING, RESTATING, REDUCING, or in POWERED with a pending list it is refused whatever it holds, with REFUSE and
DEMAND_REFUSED, and nothing else changes; in FAULTED and LOCKED_OUT it is discarded. A valid one that answers the QUERY
of RESYNC concludes it (R155, R197): POWERED at the card's current index where that point is available, and on into
REDUCING where a revoke is owed; cut, with the list kept, at index 0; cut with RESYNC_FAIL at any other. That a
RESTATE-MAP request of an earlier list is discarded as a restatement begins is the model's choice
(notes/assumptions/21.md). -/
def Obligations.DemandRestatesOrIsRefused : Prop :=
  ∀ (s : State) (i : SlotId) (status : Byte) (payload : List Byte) (x : Exchange),
    awaits i x s → x.frame.allows .demand = true → demandLengths.contains payload.length = true →
    ∃ t, exec (.demandReply i status payload) s = .next t ∧
      (∀ l, readDemand payload (s.policy i).maxPower = .valid l → (s.slot i).state = .powered →
        (s.slot i).restated = none →
        aroundSlot i s t ∧ t.ae = s.ae ∧
        t.link i = (s.link i).goodReply x { kind := .demand, status := status, payload := payload } ∧
        afterWatch (s.policy i).maxPower
          ({ (s.slot i).restored with restated := some l, mapRequests := [] }.sending (.demand true none))
            (t.slot i) ∧
        t.eu =
          ((s.elapse.linkGood i x { kind := .demand, status := status, payload := payload }).demandEvents i l).eu) ∧
      ((s.slot i).state = .offering ∨ (s.slot i).state = .powering ∨ (s.slot i).state = .raising ∨
          (s.slot i).state = .restating ∨ (s.slot i).state = .reducing ∨
          (s.slot i).state = .powered ∧ (s.slot i).restated.isSome = true →
        aroundSlot i s t ∧ t.ae = s.ae ∧ afterWatch (s.policy i).maxPower (s.slot i).restored (t.slot i) ∧
        t.link i = { (s.link i).goodReply x { kind := .demand, status := status, payload := payload } with
          waiting := some .refuse } ∧
        t.eu = ((s.elapse.linkGood i x { kind := .demand, status := status, payload := payload }).event
          .demandRefused (some i) (s.slot i).state.code (s.slot i).grantedPower).eu) ∧
      ((s.slot i).state = .faulted ∨ (s.slot i).state = .lockedOut →
        aroundSlot i s t ∧ t.ae = s.ae ∧ afterWatch (s.policy i).maxPower (s.slot i).restored (t.slot i) ∧
        t.link i = (s.link i).goodReply x { kind := .demand, status := status, payload := payload } ∧
        t.eu = (s.elapse.linkGood i x { kind := .demand, status := status, payload := payload }).eu) ∧
      (∀ l, readDemand payload (s.policy i).maxPower = .valid l → (s.slot i).state = .resync →
        (∀ p, l.point l.currentIndex.toNat = some p → p.avail = true →
          aroundSlot i s t ∧ t.ae = s.ae ∧
          t.eu = (((s.elapse.linkGood i x { kind := .demand, status := status, payload := payload }).demandEvents i
            l).event .granted (some i) l.currentIndex.toNat p.power).eu ∧
          ((s.slot i).owed = none →
            t.link i = (s.link i).goodReply x { kind := .demand, status := status, payload := payload } ∧
            afterWatch (s.policy i).maxPower ({ (s.slot i).restored.listed l (s.policy i).classLimit with
              state := .powered, granted := l.currentIndex.toNat
              timers := { (s.slot i).restored.timers with clean := some 30000 } }.sending (.powered p.power))
                (t.slot i)) ∧
          (∀ w, (s.slot i).owed = some w → w.origin = .host →
            t.link i = ((s.link i).goodReply x { kind := .demand, status := status, payload := payload }).asked
              (.reduce 0 0) s.cu.settings.retryLimit ∧
            afterWatch (s.policy i).maxPower (({ (s.slot i).restored.listed l (s.policy i).classLimit with
              owed := none, granted := l.currentIndex.toNat
              timers := { (s.slot i).restored.timers with clean := some 30000 } }.sending
                (.powered p.power)).reducingTo 0 0 .host (s.cu.settings.reduceSteps * 10)) (t.slot i))) ∧
        (l.currentIndex = 0 →
          aroundSlot i s t ∧ t.ae = s.ae ∧ t.enHigh i = false ∧
          t.link i = ((s.link i).goodReply x { kind := .demand, status := status, payload := payload }).quieted ∧
          t.eu =
            ((s.elapse.linkGood i x { kind := .demand, status := status, payload := payload }).demandEvents i l).eu ∧
          afterWatch (s.policy i).maxPower ({ (s.slot i).restored.powerless.listed l (s.policy i).classLimit with
            state := if (s.policy i).admits then .standby else .parked }.sending (.demand false (some 0)))
              (t.slot i)) ∧
        (l.currentIndex ≠ 0 → (∀ p, l.point l.currentIndex.toNat = some p → p.avail = false) →
          aroundSlot i s t ∧ t.ae = (s.leaveQueue i).ae ∧ t.enHigh i = false ∧
          t.link i = ((s.link i).goodReply x { kind := .demand, status := status, payload := payload }).quieted ∧
          t.eu = ((s.elapse.linkGood i x { kind := .demand, status := status, payload := payload }).demandEvents i
            l).eu.faulted i .resyncFail (s.slot i).strikes ∧
          afterWatch (s.policy i).maxPower (((s.slot i).restored.powerless.struck .resyncFail
            (s.policy i).classLimit s.holdoffTimer).sending (.faulted .resyncFail)) (t.slot i)))

/-- ACCEPT (R27, R29, R32, R56, R107): to an offer it asserts EN in POWERING, or passes to POWERED or to a switch fault
by the levels already held (that a held FLT_N low comes before a held PG high is DEDUCED, notes/assumptions/19.md); to a
raise and to a mapping it moves the granted index in POWERED. A reduction owed during the raise is carried out in the
same happening (R152, R155), and one held during the mapping is re-expressed against the new list (R57). -/
def Obligations.AcceptActsByState : Prop :=
  ∀ (s : State) (i : SlotId) (status : Byte) (x : Exchange) (o : Offered),
    awaits i x s → x.frame.allows .accept = true → (s.slot i).offered = some o →
    ∃ t, exec (.accept i status) s = .next t ∧
      ((s.slot i).state = .offering → (s.slot i).fltN = true →
        aroundSlot i s t ∧ t.ae = s.ae ∧
        t.link i = (s.link i).goodReply x { kind := .accept, status := status, payload := [] } ∧
        ((s.slot i).pg = false →
          t.eu = (s.elapse.linkGood i x { kind := .accept, status := status, payload := [] }).eu ∧
          afterWatch (s.policy i).maxPower ({ (s.slot i).restored with
            state := .powering, granted := o.index, en := true, offered := none
            timers := { (s.slot i).restored.timers with ramp := some s.cu.settings.rampMs } }.sending
              (.accepted .offer o.power)) (t.slot i)) ∧
        ((s.slot i).pg = true →
          t.eu = ((s.elapse.linkGood i x { kind := .accept, status := status, payload := [] }).event .granted
            (some i) o.index (t.slot i).grantedPower).eu ∧
          afterWatch (s.policy i).maxPower (({ (s.slot i).restored with
            state := .powered, granted := o.index, en := true, offered := none
            timers := { (s.slot i).restored.timers with ramp := none, clean := some 30000 } }.sending
              (.accepted .offer o.power)).sending (.powered (t.slot i).grantedPower)) (t.slot i))) ∧
      ((s.slot i).state = .offering → (s.slot i).fltN = false →
        aroundSlot i s t ∧ t.enHigh i = false ∧ t.ae = (s.leaveQueue i).ae ∧
        t.link i = ((s.link i).goodReply x { kind := .accept, status := status, payload := [] }).quieted ∧
        t.eu = (s.elapse.linkGood i x { kind := .accept, status := status, payload := [] }).eu.faulted i .switchFault
          (s.slot i).strikes ∧
        afterWatch (s.policy i).maxPower (((((s.slot i).restored.powerless).struck .switchFault (s.policy i).classLimit
          s.holdoffTimer).sending (.accepted .offer o.power)).sending (.faulted .switchFault)) (t.slot i)) ∧
      ((s.slot i).state = .raising → (s.slot i).owed = none →
        aroundSlot i s t ∧ t.ae = s.ae ∧
        t.link i = (s.link i).goodReply x { kind := .accept, status := status, payload := [] } ∧
        t.eu = ((s.elapse.linkGood i x { kind := .accept, status := status, payload := [] }).event .raised
          (some i) o.index o.power).eu ∧
        afterWatch (s.policy i).maxPower ({ (s.slot i).restored with
          state := .powered, granted := o.index, offered := none }.sending (.accepted .raise o.power)) (t.slot i)) ∧
      (∀ w, (s.slot i).owed = some w → ∀ l, (s.slot i).current = some l → (s.slot i).restated = none →
        (s.slot i).state = .raising →
        aroundSlot i s t ∧ t.ae = s.ae ∧
        t.eu = ((s.elapse.linkGood i x { kind := .accept, status := status, payload := [] }).event .raised
          (some i) o.index o.power).eu ∧
        (w.origin = .host →
          t.link i = ((s.link i).goodReply x { kind := .accept, status := status, payload := [] }).asked
            (.reduce 0 0) s.cu.settings.retryLimit ∧
          afterWatch (s.policy i).maxPower (({ (s.slot i).restored with
            granted := o.index, offered := none, owed := none }.sending (.accepted .raise o.power)).reducingTo 0 0
              .host (s.cu.settings.reduceSteps * 10)) (t.slot i)) ∧
        (w.origin ≠ .host → (s.policy i).maxPower < l.powerAt o.index →
          t.link i = ((s.link i).goodReply x { kind := .accept, status := status, payload := [] }).asked
            (.reduce l.policyTarget.1 l.policyTarget.2) s.cu.settings.retryLimit ∧
          afterWatch (s.policy i).maxPower (({ (s.slot i).restored with
            granted := o.index, offered := none, owed := none }.sending (.accepted .raise o.power)).reducingTo
              l.policyTarget.1 l.policyTarget.2 .policy (s.cu.settings.reduceSteps * 10)) (t.slot i)) ∧
        (w.origin ≠ .host → l.powerAt o.index ≤ (s.policy i).maxPower →
          t.link i = (s.link i).goodReply x { kind := .accept, status := status, payload := [] } ∧
          afterWatch (s.policy i).maxPower ({ (s.slot i).restored with
            state := .powered, granted := o.index, offered := none, owed := none }.sending
              (.accepted .raise o.power)) (t.slot i))) ∧
      (∀ l, (s.slot i).restated = some l → (s.slot i).state = .restating → (s.slot i).owed = none →
        aroundSlot i s t ∧ t.ae = s.ae ∧
        t.link i = (s.link i).goodReply x { kind := .accept, status := status, payload := [] } ∧
        t.eu = ((s.elapse.linkGood i x { kind := .accept, status := status, payload := [] }).event .restated
          (some i) o.index o.power).eu ∧
        afterWatch (s.policy i).maxPower ({ (s.slot i).restored.listed l (s.policy i).classLimit with
          state := .powered, granted := o.index, offered := none }.sending (.accepted .mapping o.power)) (t.slot i)) ∧
      (∀ l, (s.slot i).restated = some l → ∀ w, (s.slot i).owed = some w → (s.slot i).state = .restating →
        aroundSlot i s t ∧ t.ae = s.ae ∧
        t.eu = ((s.elapse.linkGood i x { kind := .accept, status := status, payload := [] }).event .restated
          (some i) o.index o.power).eu ∧
        (w.targetPower ≠ 0 → o.power ≤ w.targetPower →
          t.link i = (s.link i).goodReply x { kind := .accept, status := status, payload := [] } ∧
          afterWatch (s.policy i).maxPower (({ (s.slot i).restored.listed l (s.policy i).classLimit with
            state := .powered, granted := o.index, offered := none, owed := none }.sending
              (.accepted .mapping o.power)).sending (.reduced o.power)) (t.slot i)) ∧
        (w.targetPower = 0 ∨ w.targetPower < o.power →
          let target := if w.targetPower = 0 then (0, 0)
            else ((l.highestPoint w.targetPower).map fun p => (p.1, p.2.power)).getD (0, 0)
          t.link i = ((s.link i).goodReply x { kind := .accept, status := status, payload := [] }).asked
            (.reduce target.1 target.2) s.cu.settings.retryLimit ∧
          afterWatch (s.policy i).maxPower (({ (s.slot i).restored.listed l (s.policy i).classLimit with
            granted := o.index, offered := none, owed := none }.sending (.accepted .mapping o.power)).reducingTo
              target.1 target.2 w.origin (s.cu.settings.reduceSteps * 10)) (t.slot i)))

/-- DECLINE (R27, R56, R108): an offer ends in STANDBY, a raise leaves the slot POWERED at its old point with the
raise-declined flag, and a mapping cuts the slot. A reduction owed during the raise is carried out in the same happening
(R152, R155). -/
def Obligations.DeclineActsByState : Prop :=
  ∀ (s : State) (i : SlotId) (status : Byte) (x : Exchange) (o : Offered),
    awaits i x s → x.frame.allows .decline = true → (s.slot i).offered = some o →
    ∃ t, exec (.decline i status) s = .next t ∧
      ((s.slot i).state = .offering →
        aroundSlot i s t ∧ t.ae = s.ae ∧
        t.link i = { (s.link i).goodReply x { kind := .decline, status := status, payload := [] } with
          pendingReq := none, queryDue := false } ∧
        t.eu = ((s.elapse.linkGood i x { kind := .decline, status := status, payload := [] }).event .offerDeclined
          (some i) o.index o.power).eu ∧
        afterWatch (s.policy i).maxPower
          (((s.slot i).restored.listless (s.policy i).classLimit).sending (.declined .offer 0)) (t.slot i)) ∧
      ((s.slot i).state = .raising → (s.slot i).owed = none →
        aroundSlot i s t ∧ t.ae = s.ae ∧
        t.link i = (s.link i).goodReply x { kind := .decline, status := status, payload := [] } ∧
        t.eu = ((s.elapse.linkGood i x { kind := .decline, status := status, payload := [] }).event .raiseDeclined
          (some i) o.index o.power).eu ∧
        afterWatch (s.policy i).maxPower ({ (s.slot i).restored with
          state := .powered, raiseDeclined := true, offered := none }.sending
            (.declined .raise (s.slot i).grantedPower)) (t.slot i)) ∧
      (∀ w, (s.slot i).owed = some w → ∀ l, (s.slot i).current = some l → (s.slot i).restated = none →
        (s.slot i).state = .raising →
        aroundSlot i s t ∧ t.ae = s.ae ∧
        t.eu = ((s.elapse.linkGood i x { kind := .decline, status := status, payload := [] }).event .raiseDeclined
          (some i) o.index o.power).eu ∧
        (w.origin = .host →
          t.link i = ((s.link i).goodReply x { kind := .decline, status := status, payload := [] }).asked
            (.reduce 0 0) s.cu.settings.retryLimit ∧
          afterWatch (s.policy i).maxPower (({ (s.slot i).restored with
            raiseDeclined := true, offered := none, owed := none }.sending
              (.declined .raise (s.slot i).grantedPower)).reducingTo 0 0 .host
                (s.cu.settings.reduceSteps * 10)) (t.slot i)) ∧
        (w.origin ≠ .host → (s.policy i).maxPower < (s.slot i).grantedPower →
          t.link i = ((s.link i).goodReply x { kind := .decline, status := status, payload := [] }).asked
            (.reduce l.policyTarget.1 l.policyTarget.2) s.cu.settings.retryLimit ∧
          afterWatch (s.policy i).maxPower (({ (s.slot i).restored with
            raiseDeclined := true, offered := none, owed := none }.sending
              (.declined .raise (s.slot i).grantedPower)).reducingTo l.policyTarget.1 l.policyTarget.2 .policy
                (s.cu.settings.reduceSteps * 10)) (t.slot i)) ∧
        (w.origin ≠ .host → (s.slot i).grantedPower ≤ (s.policy i).maxPower →
          t.link i = (s.link i).goodReply x { kind := .decline, status := status, payload := [] } ∧
          afterWatch (s.policy i).maxPower ({ (s.slot i).restored with
            state := .powered, raiseDeclined := true, offered := none, owed := none }.sending
              (.declined .raise (s.slot i).grantedPower)) (t.slot i))) ∧
      ((s.slot i).state = .restating →
        aroundSlot i s t ∧ t.ae = s.ae ∧ t.enHigh i = false ∧
        t.link i = ((s.link i).goodReply x { kind := .decline, status := status, payload := [] }).quieted ∧
        t.eu = ((s.elapse.linkGood i x { kind := .decline, status := status, payload := [] }).event .released
          (some i) (s.slot i).granted (s.slot i).grantedPower).eu ∧
        afterWatch (s.policy i).maxPower
          (((s.slot i).restored.powerless.listless (s.policy i).classLimit).sending (.declined .mapping 0))
            (t.slot i))

/-- NOTED in REDUCING, and a REDUCED that names the held point in answer to the REDUCE frame, turn follow-up polling on
and tell the AE, once; a REDUCED that names the held point to a POLL changes nothing (R120, R77). The AE takes the NOTED
notice without a change to the account (R5), and with no reclaim active without any other. -/
def Obligations.NotedKeepsReducing : Prop :=
  ∀ (s : State) (i : SlotId) (status index : Byte) (x : Exchange) (rest : List Notice),
    (awaits i x s → (s.slot i).state = .reducing →
      (x.frame.allows .noted = true →
        ∃ t, exec (.notedReply i status) s = .next t ∧ aroundSlot i s t ∧ t.ae = s.ae ∧
          t.eu = (s.elapse.linkGood i x { kind := .noted, status := status, payload := [] }).eu ∧
          ((s.link i).followUp = false →
            t.link i = { (s.link i).goodReply x { kind := .noted, status := status, payload := [] } with
              followUp := true } ∧
            afterWatch (s.policy i).maxPower ((s.slot i).restored.sending .noted) (t.slot i)) ∧
          ((s.link i).followUp = true →
            t.link i = (s.link i).goodReply x { kind := .noted, status := status, payload := [] } ∧
            afterWatch (s.policy i).maxPower (s.slot i).restored (t.slot i))) ∧
      (∀ a p, x.frame = .reduce a p → index.toNat = (s.slot i).granted → (s.slot i).reduction.isSome = true →
        (s.slot i).current.isSome = true →
        ∃ t, exec (.reducedReply i status index) s = .next t ∧ aroundSlot i s t ∧ t.ae = s.ae ∧
          t.eu = (s.elapse.linkGood i x { kind := .reduced, status := status, payload := [index] }).eu ∧
          ((s.link i).followUp = false →
            t.link i = { (s.link i).goodReply x { kind := .reduced, status := status, payload := [index] } with
              followUp := true } ∧
            afterWatch (s.policy i).maxPower ((s.slot i).restored.sending .noted) (t.slot i)) ∧
          ((s.link i).followUp = true →
            t.link i = (s.link i).goodReply x { kind := .reduced, status := status, payload := [index] } ∧
            afterWatch (s.policy i).maxPower (s.slot i).restored (t.slot i))) ∧
      (x.frame = .poll → index.toNat = (s.slot i).granted →
        ∃ t, exec (.reducedReply i status index) s = .next t ∧ aroundSlot i s t ∧ t.ae = s.ae ∧
          t.eu = (s.elapse.linkGood i x { kind := .reduced, status := status, payload := [index] }).eu ∧
          t.link i = (s.link i).goodReply x { kind := .reduced, status := status, payload := [index] } ∧
          afterWatch (s.policy i).maxPower (s.slot i).restored (t.slot i))) ∧
    (s.resetLow = false → aeStill s → (s.slot i).outbox = .noted :: rest →
      ∃ t, exec (.notedNotice i) s = .next t ∧ aroundNotice i s t ∧ t.ae = s.ae ∧ t.eu = s.elapse.eu ∧
        t.slot i = { s.slot i with outbox := rest })

/-- REDUCED in REDUCING at a point other than the held one (R120 to R123): at or below the target it completes in
POWERED at that point; between the target and the entry power, and below the held point, it is a partial reduction, and
REDUCING goes on from the lower point; index 0 cuts the slot, which keeps its list only when a reclaim revoked it and a
point is available; an index the list does not hold, and a point above these bounds, set KIND_BAD alone. -/
def Obligations.ReducedCompletesTheReduction : Prop :=
  ∀ (s : State) (i : SlotId) (status index : Byte) (x : Exchange) (d : Reduction) (l : DemandList),
    awaits i x s → x.frame.allows .reduced = true → (s.slot i).state = .reducing →
    (s.slot i).reduction = some d → (s.slot i).current = some l → index.toNat ≠ (s.slot i).granted →
    ∃ t, exec (.reducedReply i status index) s = .next t ∧ aroundSlot i s t ∧ t.ae = s.ae ∧
      (∀ p, l.point index.toNat = some p → p.power ≤ d.targetPower →
        t.link i = { (s.link i).goodReply x { kind := .reduced, status := status, payload := [index] } with
          followUp := false, pollDue := false, pendingReq := none } ∧
        t.eu = ((s.elapse.linkGood i x { kind := .reduced, status := status, payload := [index] }).event .reduced
          (some i) index.toNat p.power).eu ∧
        afterWatch (s.policy i).maxPower ({ (s.slot i).restored with
          state := .powered, granted := index.toNat, reduction := none
          timers := { (s.slot i).restored.timers with reduce := none } }.sending (.reduced p.power)) (t.slot i)) ∧
      (index = 0 →
        t.enHigh i = false ∧
        t.link i = ((s.link i).goodReply x { kind := .reduced, status := status, payload := [index] }).quieted ∧
        t.eu = ((s.elapse.linkGood i x { kind := .reduced, status := status, payload := [index] }).event .revoked
          (some i) (s.slot i).granted (s.slot i).grantedPower).eu ∧
        (d.origin ≠ .reclaim ∨ l.anyAvail = false →
          afterWatch (s.policy i).maxPower
            (((s.slot i).restored.powerless.listless (s.policy i).classLimit).sending (.reduced 0)) (t.slot i)) ∧
        (d.origin = .reclaim → l.anyAvail = true →
          afterWatch (s.policy i).maxPower ({ (s.slot i).restored.powerless with
            state := if (s.policy i).admits then .standby else .parked }.sending (.reduced 0)) (t.slot i))) ∧
      (∀ p, l.point index.toNat = some p → d.targetPower < p.power → p.power ≤ d.entryPower →
        p.power < (s.slot i).grantedPower →
        t.link i = (s.link i).goodReply x { kind := .reduced, status := status, payload := [index] } ∧
        t.eu = ((s.elapse.linkGood i x { kind := .reduced, status := status, payload := [index] }).event .reduced
          (some i) index.toNat p.power).eu ∧
        afterWatch (s.policy i).maxPower ({ (s.slot i).restored with granted := index.toNat }.sending
          (.reduced p.power)) (t.slot i)) ∧
      (l.count < index.toNat ∨
          (∃ p ∈ l.point index.toNat,
            d.targetPower < p.power ∧ (d.entryPower < p.power ∨ (s.slot i).grantedPower ≤ p.power)) →
        t.link i = { (s.link i).goodReply x { kind := .reduced, status := status, payload := [index] } with
          near := (s.link i).near ||| 0x04 } ∧
        t.eu = (s.elapse.linkGood i x { kind := .reduced, status := status, payload := [index] }).eu ∧
        afterWatch (s.policy i).maxPower (s.slot i).restored (t.slot i))

/-- RELEASE and IDLE (R24 to R27, R31, R197): in the powered family they cut the slot; in WAITING and PARKED they
withdraw the demand; IDLE in IDENTIFY leads to STANDBY without a notice; in STANDBY they change nothing; RELEASE to an
offer ends it as DECLINE does; IDLE in RESYNC cuts the slot, RELEASED carrying its max power. DEDUCED are the withdrawal
of an OFFER still pending when the RELEASE answers a POLL in OFFERING (notes/assumptions/18.md), and the discard of a
list that has arrived, in IDENTIFY and STANDBY (notes/assumptions/5.md), and of one kept in STANDBY
(notes/assumptions/20.md). -/
def Obligations.ReleaseAndIdleGiveUpPower : Prop :=
  ∀ (s : State) (i : SlotId) (status : Byte) (x : Exchange) (c : Instr) (k : CardKind),
    awaits i x s → x.frame.allows k = true →
    (c = .release i status ∧ k = .release) ∨ (c = .idle i status ∧ k = .idle) →
    ∃ t, exec c s = .next t ∧
      ((s.slot i).state.poweredFamily = true →
        aroundSlot i s t ∧ t.ae = s.ae ∧ t.enHigh i = false ∧
        t.link i = ((s.link i).goodReply x { kind := k, status := status, payload := [] }).quieted ∧
        t.eu = ((s.elapse.linkGood i x { kind := k, status := status, payload := [] }).event .released
          (some i) (s.slot i).granted (s.slot i).grantedPower).eu ∧
        afterWatch (s.policy i).maxPower
          (((s.slot i).restored.powerless.listless (s.policy i).classLimit).sending .released) (t.slot i)) ∧
      ((s.slot i).state = .waiting ∨ (s.slot i).state = .parked →
        aroundSlot i s t ∧ t.ae = (s.leaveQueue i).ae ∧
        t.link i = (s.link i).goodReply x { kind := k, status := status, payload := [] } ∧
        t.eu = (s.elapse.linkGood i x { kind := k, status := status, payload := [] }).eu ∧
        afterWatch (s.policy i).maxPower ({ (s.slot i).restored.listless (s.policy i).classLimit with
          offered := (s.slot i).offered }.sending .released) (t.slot i)) ∧
      (k = .idle → (s.slot i).state = .identify →
        aroundSlot i s t ∧ t.ae = s.ae ∧
        t.link i = (s.link i).goodReply x { kind := k, status := status, payload := [] } ∧
        t.eu = (s.elapse.linkGood i x { kind := k, status := status, payload := [] }).eu ∧
        afterWatch (s.policy i).maxPower { (s.slot i).restored.listless (s.policy i).classLimit with
          offered := (s.slot i).offered } (t.slot i)) ∧
      ((s.slot i).state = .standby →
        aroundSlot i s t ∧ t.ae = s.ae ∧
        t.link i = (s.link i).goodReply x { kind := k, status := status, payload := [] } ∧
        t.eu = (s.elapse.linkGood i x { kind := k, status := status, payload := [] }).eu ∧
        ((s.slot i).current = none → (s.slot i).arriving = none → (s.slot i).restated = none →
          (s.slot i).effClass = (s.policy i).classLimit →
          afterWatch (s.policy i).maxPower (s.slot i).restored (t.slot i)) ∧
        afterWatch (s.policy i).maxPower { (s.slot i).restored.listless (s.policy i).classLimit with
          offered := (s.slot i).offered } (t.slot i)) ∧
      (∀ o, (s.slot i).offered = some o → k = .release → (s.slot i).state = .offering →
        aroundSlot i s t ∧ t.ae = s.ae ∧
        t.link i = { (s.link i).goodReply x { kind := k, status := status, payload := [] } with
          pendingReq := none, queryDue := false } ∧
        t.eu = ((s.elapse.linkGood i x { kind := k, status := status, payload := [] }).event .offerDeclined
          (some i) o.index o.power).eu ∧
        afterWatch (s.policy i).maxPower
          (((s.slot i).restored.listless (s.policy i).classLimit).sending .released) (t.slot i)) ∧
      (k = .idle → (s.slot i).state = .resync →
        aroundSlot i s t ∧ t.ae = s.ae ∧ t.enHigh i = false ∧
        t.link i = ((s.link i).goodReply x { kind := k, status := status, payload := [] }).quieted ∧
        t.eu = ((s.elapse.linkGood i x { kind := k, status := status, payload := [] }).event .released
          (some i) 0 (s.policy i).maxPower).eu ∧
        afterWatch (s.policy i).maxPower (((s.slot i).restored.powerless.listless (s.policy i).classLimit).sending
          .released) (t.slot i))

/-- RESTATE-MAP (R55, R69): taken in POWERED with a pending list it enters RESTATING and asks for an OFFER with the
restate flag and the tag of that point in the pending list, at once or, on an LE that has an exchange or a frame to send
first, as the pending request; naming no point it drops the list with a REFUSE; in any other state the request is
discarded. The OFFER's bit is the toggle of the bit of the last turn frame begun (R63, R68). How a request meets an LE
that is free with a pending one, or is sending a frame without turn, is DEDUCED (notes/assumptions/47.md). -/
def Obligations.RestateMapOffersTheMappedPoint : Prop :=
  ∀ (s : State) (i : SlotId) (m : Option Offered) (rest : List (Option Offered)), s.resetLow = false →
    (s.slot i).mapRequests = m :: rest →
    ∃ t, exec (.restateMap i) s = .next t ∧ aroundSlot i s t ∧ t.ae = s.ae ∧
      (∀ l, (s.slot i).restated = some l → (s.slot i).state = .powered →
        (∀ o, m = some o →
          ∀ p, l.point o.index = some p →
          afterWatch (s.policy i).maxPower { s.slot i with
            mapRequests := rest, state := .restating
            offered := some { index := o.index, power := o.power, tag := p.tag } } (t.slot i) ∧
          t.eu = s.elapse.eu ∧
          ((s.link i).link ≠ .down → (s.link i).busy = false →
            t.link i = { s.link i with
              exchange := some (.fresh (.offer o.index o.power p.tag true) .waitLine s.cu.settings.retryLimit
                (!(s.link i).seq))
              pendingReq := none }) ∧
          ((s.link i).link ≠ .down → (s.link i).busy = true →
            t.link i = { s.link i with pendingReq := some (.offer o.index o.power p.tag true) })) ∧
        (m = none →
          afterWatch (s.policy i).maxPower { s.slot i with mapRequests := rest, restated := none } (t.slot i) ∧
          t.eu = (s.elapse.event .demandRefused (some i) 8 (s.slot i).grantedPower).eu ∧
          ((s.link i).link ≠ .down → t.link i = { s.link i with waiting := some .refuse }))) ∧
      ((s.slot i).state ≠ .powered ∨ (s.slot i).restated = none →
        afterWatch (s.policy i).maxPower { s.slot i with mapRequests := rest } (t.slot i) ∧ t.link i = s.link i ∧
          t.eu = s.elapse.eu)

/-! ### Notices taken by the Allocation Engine -/

/-- DEMAND taken by the AE (R26, R54, R86): the slot whose list has arrived takes it as current and enters WAITING at
the end of the entry order; a WAITING slot's replacement changes nothing; a restatement is mapped to the highest
available point within the confirmed claim, or to none; the notice of a dropped list maps nothing, a newer list held by
then included. The shared entry step at this notice is the model's choice (notes/assumptions/5.md), and so is its wait
for notices that free the claim (notes/assumptions/38.md). With the AE's decisions open and the queue empty, the slot
that enters is the head: its highest fitting point is offered (R92, R93); or it is blocked, with the reason and the
shortfall, while an exchange mark stands out or the eligible yield falls short (R94, R96); or an ADMIT reclaim starts
for it, with the victims that R115 to R117 choose (R95, R118). Behind a head that is blocked it is offered a point under
BACKFILL (R98). DEDUCED are that a newer list waits for its own notice (notes/assumptions/46.md), and how a request
meets an LE that is free with a pending one, or is sending a frame without turn (notes/assumptions/47.md). -/
def Obligations.DemandNoticeEntersWaiting : Prop :=
  ∀ (s : State) (i : SlotId) (restating : Bool) (rest : List Notice), s.resetLow = false →
    (s.slot i).outbox = .demand restating none :: rest → (s.entry i).resync = false →
    ∃ t, exec (.demandNotice i) s = .next t ∧
      (aeStill s →
        aroundNotice i s t ∧ t.eu = s.elapse.eu ∧
        (∀ l, (s.slot i).arriving = some l → restating = false → rest.any Notice.isDemand = false →
          rest.any Notice.frees = false → (s.slot i).state = .identify ∨ (s.slot i).state = .standby →
          t.slot i = { (s.slot i).listed l (s.policy i).classLimit with
            outbox := rest, state := if (s.policy i).admits then .waiting else .parked } ∧
          ((s.policy i).admits = true →
            t.ae = { (s.leaveQueue i).ae with entryOrder := s.ae.entryOrder.filter (· != i) ++ [i] }) ∧
          ((s.policy i).admits = false → t.ae = s.ae)) ∧
        (restating = false → (s.slot i).arriving = none → (s.slot i).state = .waiting →
          t.slot i = { s.slot i with outbox := rest } ∧ t.ae = s.ae) ∧
        (restating = true → (s.slot i).restated = none ∨ rest.any Notice.isRestatement = true →
          t.slot i = { s.slot i with outbox := rest } ∧ t.ae = s.ae) ∧
        (∀ l, (s.slot i).restated = some l → restating = true → rest.any Notice.isRestatement = false →
          t.slot i = { s.slot i with
            outbox := rest
            mapRequests := (s.slot i).mapRequests ++
              [(l.highestWithin (s.entry i).confirmed).map fun p =>
                { index := p.1, power := p.2.power, tag := p.2.tag }] } ∧
          t.entry i = { s.entry i with
            restating := (s.entry i).restating || (l.highestWithin (s.entry i).confirmed).isSome } ∧
          (∀ j, j ≠ i → t.entry j = s.entry j) ∧ t.ae = { s.ae with slots := t.ae.slots })) ∧
      (∀ l, (s.slot i).arriving = some l → aeOpen s → restating = false → rest.any Notice.isDemand = false →
        rest.any Notice.frees = false → (s.slot i).state = .identify ∨ (s.slot i).state = .standby →
        (s.policy i).admits = true → max l.cardClass (s.policy i).classLimit ≤ 3 →
        let cls := max l.cardClass (s.policy i).classLimit
        let avail := s.ae.effective - (s.ae.committed + if cls = 0 then 0 else s.ae.reserve)
        let need := l.floorPower - avail
        let pool := s.candidates fun j => decide (cls < (s.slot j).effClass) && (s.slot j).restated.isNone
        let yield := (pool.map fun j => (s.entry j).claim).sum
        let marked := s.ae.slots.toList.any fun e => e.mark != .none
        let waits := { (s.slot i).listed l (s.policy i).classLimit with outbox := rest, state := .waiting }
        (∀ p, l.highestWithin avail = some p → s.ae.entryOrder = [] → s.cu.settings.autoRaise = false →
          t.slot i = { waits with
            state := .offering, offered := some { index := p.1, power := p.2.power, tag := p.2.tag } } ∧
          t.entry i = { s.entry i with claim := p.2.power, mark := .offer, blocked := false } ∧
          t.ae = { s.ae with slots := t.ae.slots } ∧ othersSame i s t ∧ t.eu = s.elapse.eu ∧
          ((s.link i).link ≠ .down →
            t.link i = (s.link i).asked (.offer p.1 p.2.power p.2.tag false) s.cu.settings.retryLimit)) ∧
        (l.highestWithin avail = none → s.ae.entryOrder = [] → (marked = true ∨ yield < need) →
          t.slot i = waits ∧ t.entry i = { s.entry i with blocked := true } ∧
          t.ae = { s.ae with slots := t.ae.slots, entryOrder := [i] } ∧ othersSame i s t ∧
          t.eu = (s.elapse.event .demandBlocked (some i) (if marked then 3 else 4) need).eu) ∧
        (l.highestWithin avail = none → s.ae.entryOrder = [] → s.ae.grantOrder.Nodup → marked = false → need ≤ yield →
          t.slot i = waits ∧ t.entry i = { s.entry i with blocked := false } ∧
          t.ae = { s.ae with
            slots := t.ae.slots, entryOrder := [i]
            reclaim := { active := true, kind := .admission, beneficiary := some i, shortfall := need
                         earmark := l.floorPower, victims := s.selectVictims need pool, yieldTaken := 0 } } ∧
          (∀ j, j ≠ i → t.entry j = s.entry j) ∧
          (∀ v ∈ s.selectVictims need pool,
            (t.slot v.slot).state = .reducing ∧
            (t.slot v.slot).reduction = some (.entered v.targetIndex v.targetPower .reclaim)) ∧
          t.eu = (s.elapse.event .reclaimStart (some i) 1 need).eu) ∧
        (∀ h, s.ae.entryOrder = [h] → h ≠ i → ∀ lh, (s.slot h).current = some lh → (s.slot h).effClass ≤ cls →
          lh.highestWithin (s.ae.effective -
            (s.ae.committed + if (s.slot h).effClass = 0 then 0 else s.ae.reserve)) = none →
          (s.entry h).blocked = true → marked = true → s.cu.settings.backfill = true →
          ∀ p, l.highestWithin avail = some p →
          (t.slot i).state = .offering ∧
          (t.slot i).offered = some { index := p.1, power := p.2.power, tag := p.2.tag } ∧
          t.entry i = { s.entry i with claim := p.2.power, mark := .offer, blocked := false } ∧
          t.ae = { s.ae with slots := t.ae.slots } ∧ othersSame i s t ∧ t.eu = s.elapse.eu))

/-- A notice with a nonzero holding within the claim, taken while the AE makes no decision (R5, R14, R54, R99, R107,
R108): the claim becomes the holding, confirmed; an answer clears its mark, an ACCEPTED to an offer or a raise puts the
slot at the tail of the grant order list, an accepted mapping and a REDUCED end an outstanding restatement. That a
holding leaves the claim of a raise not yet answered is DEDUCED (notes/assumptions/6.md). -/
def Obligations.HoldingNoticesSetTheClaim : Prop :=
  ∀ (s : State) (i : SlotId) (n : Notice) (h : Nat) (rest : List Notice) (c : Instr), s.resetLow = false → aeStill s →
    (s.slot i).outbox = n :: rest → (s.entry i).resync = false → h ≠ 0 → h ≤ (s.entry i).claim →
    (n = .accepted .offer h ∧ c = .acceptedNotice i) ∨ (n = .accepted .raise h ∧ c = .acceptedNotice i) ∨
      (n = .accepted .mapping h ∧ c = .acceptedNotice i) ∨ (n = .declined .raise h ∧ c = .declinedNotice i) ∨
      (n = .reduced h ∧ c = .reducedNotice i) ∨ (n = .powered h ∧ c = .poweredNotice i) →
    ∃ t, exec c s = .next t ∧ aroundNotice i s t ∧ t.eu = s.elapse.eu ∧
      t.slot i = { s.slot i with outbox := rest } ∧ (∀ j, j ≠ i → t.entry j = s.entry j) ∧
      (t.entry i).confirmed = h ∧ (t.entry i).blocked = (s.entry i).blocked ∧ (t.entry i).resync = false ∧
      (n = .accepted .offer h ∨ n = .accepted .raise h ∨ n = .declined .raise h ∨ (s.entry i).mark ≠ .raise →
        (t.entry i).claim = h) ∧
      (n = .accepted .mapping h ∨ n = .reduced h ∨ n = .powered h → (s.entry i).mark = .raise →
        (t.entry i).claim = (s.entry i).claim) ∧
      (t.entry i).mark =
        (if n = .accepted .offer h ∨ n = .accepted .raise h ∨ n = .declined .raise h then .none
         else (s.entry i).mark) ∧
      (t.entry i).restating =
        (if n = .accepted .mapping h ∨ n = .reduced h then false else (s.entry i).restating) ∧
      t.ae = { s.ae with
        slots := t.ae.slots
        grantOrder :=
          if n = .accepted .offer h ∨ n = .accepted .raise h then s.ae.grantOrder.filter (· != i) ++ [i]
          else s.ae.grantOrder }

/-- A notice with holding 0 (R5, R14, R54, R85, R100): the claim and the confirmed claim become 0, the marks clear, and
the slot leaves the grant order list; a slot that stands in STANDBY with its list kept enters WAITING in the step, or
PARKED while admit is disabled (R25, R127), once no other notice that frees its claim is on its way (the model's choice,
notes/assumptions/38.md). With the AE's decisions open, the queue empty and AUTO_RAISE on, the freed power raises the
one candidate of the grant order list to its highest point that fits (R103 to R106); that its claim becomes that point's
power even where a REDUCED still on its way had left it above is DEDUCED (notes/assumptions/40.md), and so is how a
request meets an LE that is free with a pending one, or is sending a frame without turn (notes/assumptions/47.md). -/
def Obligations.ZeroHoldingsFreeTheClaim : Prop :=
  ∀ (s : State) (i : SlotId) (n : Notice) (cause : FaultCause) (rest : List Notice) (c : Instr), s.resetLow = false →
    (s.slot i).outbox = n :: rest → (s.entry i).resync = false →
    (n = .declined .offer 0 ∧ c = .declinedNotice i) ∨ (n = .declined .mapping 0 ∧ c = .declinedNotice i) ∨
      (n = .reduced 0 ∧ c = .reducedNotice i) ∨ (n = .released ∧ c = .releasedNotice i) ∨
      (n = .faulted cause ∧ c = .faultedNotice i) ∨ (n = .removed ∧ c = .removedNotice i) →
    ∃ t, exec c s = .next t ∧
      (aeStill s →
        aroundNotice i s t ∧ t.eu = s.elapse.eu ∧ (∀ j, j ≠ i → t.entry j = s.entry j) ∧
        (t.entry i).claim = 0 ∧ (t.entry i).confirmed = 0 ∧ (t.entry i).mark = .none ∧
        (t.entry i).restating = false ∧ (t.entry i).resync = false ∧
        ((s.slot i).state ≠ .standby ∨ (s.slot i).current = none →
          t.slot i = { s.slot i with outbox := rest } ∧ (t.entry i).blocked = (s.entry i).blocked ∧
          t.ae = { s.ae with slots := t.ae.slots, grantOrder := s.ae.grantOrder.filter (· != i) }) ∧
        (n = .reduced 0 ∨ n = .released → (s.slot i).state = .standby → (s.slot i).current ≠ none →
          rest.any Notice.frees = false →
          t.slot i = { s.slot i with
            outbox := rest, state := if (s.policy i).admits then .waiting else .parked } ∧
          t.ae = { s.ae with
            slots := t.ae.slots, grantOrder := s.ae.grantOrder.filter (· != i)
            entryOrder :=
              if (s.policy i).admits then s.ae.entryOrder.filter (· != i) ++ [i] else s.ae.entryOrder })) ∧
      (∀ j, aeOpen s → (s.slot i).state ≠ .standby ∨ (s.slot i).current = none → (s.entry i).claim ≠ 0 →
        s.ae.entryOrder = [] → s.cu.settings.autoRaise = true → s.ae.grantOrder.filter (· != i) = [j] →
        (s.slot j).state = .powered → (s.entry j).mark = .none → (s.entry j).restating = false →
        (s.slot j).raiseDeclined = false → (s.slot j).restated = none → (s.slot j).effClass ≤ 3 →
        ∀ l, (s.slot j).current = some l → ∀ m, l.preferred = some m → m.1 < (s.slot j).granted →
        ∀ g, l.highestBetween (s.slot j).grantedPower (s.ae.effective -
          (s.ae.committed - (s.entry i).claim + if (s.slot j).effClass = 0 then 0 else s.ae.reserve) +
            (s.entry j).claim) = some g →
        t.slot i = { s.slot i with outbox := rest } ∧
        t.slot j = { s.slot j with
          state := .raising, offered := some { index := g.1, power := g.2.power, tag := g.2.tag } } ∧
        t.entry j = { s.entry j with claim := g.2.power, mark := .raise } ∧ (t.entry i).claim = 0 ∧
        t.ae = { s.ae with slots := t.ae.slots, grantOrder := [j] } ∧
        (∀ q, q ≠ i → q ≠ j → t.slot q = s.slot q ∧ t.link q = s.link q ∧ t.entry q = s.entry q) ∧
        ((s.link j).link ≠ .down →
          t.link j = (s.link j).asked (.offer g.1 g.2.power g.2.tag false) s.cu.settings.retryLimit) ∧
        t.eu = s.elapse.eu)

/-- Notices of a victim of an active reclaim, under HOLD (R126): NOTED turns a PENDING entry NOTED; a REDUCED to the
target makes the entry DONE and adds the fall of the claim to the yield taken. A BUDGET reclaim goes on while excess
holds and another victim has not concluded, ends with 21h behind BUDGET_OK once excess clears, and ends with 22h when
its last victim concludes under excess (R133), upon which, with a POWERED slot in the grant order list, the next one
starts at once for what is still short (R118). An ADMIT reclaim ends with 13h where the beneficiary no longer waits,
with 11h and an offer to it where a point fits, and with 12h where every victim has concluded and none fits; else it
goes on (R129 to R131). -/
def Obligations.VictimNoticesAreJudged : Prop :=
  ∀ (s : State) (i : SlotId) (h : Nat) (v : Victim) (rest : List Notice), s.resetLow = false → s.ae.hold = true →
    s.ae.reclaim.active = true →
    s.cu.policyWait = [] → s.running = none → (s.entry i).resync = false → v ∈ s.ae.reclaim.victims → v.slot = i →
    (s.ae.reclaim.victims.map Victim.slot).Nodup →
    ((s.slot i).outbox = .noted :: rest → v.outcome = .pending → s.ae.reclaim.kind = .budget → s.ae.excess = true →
      ∃ t, exec (.notedNotice i) s = .next t ∧ aroundNotice i s t ∧ t.eu = s.elapse.eu ∧
        t.slot i = { s.slot i with outbox := rest } ∧
        t.ae = { s.ae with reclaim := { s.ae.reclaim with
          victims := s.ae.reclaim.victims.map fun w => if w.slot = i then { w with outcome := .noted } else w } }) ∧
    ((s.slot i).outbox = .reduced h :: rest → v.outcome = .pending ∨ v.outcome = .noted → h ≠ 0 →
      h < (s.entry i).claim → h ≤ v.targetPower → (s.entry i).mark = .none →
      let down := (s.entry i).claim - h
      let judged : Reclaim := { s.ae.reclaim with
        yieldTaken := s.ae.reclaim.yieldTaken + down
        victims := s.ae.reclaim.victims.map fun w => if w.slot = i then { w with outcome := .done } else w }
      ∃ t, exec (.reducedNotice i) s = .next t ∧
        (s.ae.reclaim.kind = .budget → s.ae.excess = true →
          t.entry i = { s.entry i with claim := h, confirmed := h, restating := false } ∧
          (∀ j, j ≠ i → t.entry j = s.entry j) ∧ t.ae.committed = s.ae.committed - down ∧
          (s.ae.effective < t.ae.committed → judged.concluded = false →
            aroundNotice i s t ∧ t.slot i = { s.slot i with outbox := rest } ∧ t.ae.reclaim = judged ∧
            t.ae.excess = true ∧ t.eu = s.elapse.eu) ∧
          (t.ae.committed ≤ s.ae.effective →
            aroundNotice i s t ∧ t.slot i = { s.slot i with outbox := rest } ∧
            t.ae.reclaim = { judged with active := false, earmark := 0 } ∧ t.ae.excess = false ∧
            t.eu = ((s.elapse.event .budgetOk none 0 (s.ae.effective - t.ae.committed)).event .reclaimEnd
              s.ae.reclaim.beneficiary 0x21 judged.yieldTaken).eu) ∧
          (s.ae.effective < t.ae.committed → judged.concluded = true → s.budgetCandidates = [] →
            aroundNotice i s t ∧ t.slot i = { s.slot i with outbox := rest } ∧
            t.ae.reclaim = { judged with active := false, earmark := 0 } ∧ t.ae.excess = true ∧
            t.eu = (s.elapse.event .reclaimEnd s.ae.reclaim.beneficiary 0x22 judged.yieldTaken).eu) ∧
          (s.ae.effective < t.ae.committed → judged.concluded = true → s.budgetCandidates ≠ [] →
            s.ae.resyncActive = false → (∀ j, (s.slot j).restated = none) →
            t.ae.reclaim.active = true ∧ t.ae.reclaim.kind = .budget ∧ t.ae.reclaim.beneficiary = none ∧
            t.ae.reclaim.earmark = 0 ∧ t.ae.reclaim.yieldTaken = 0 ∧
            t.ae.reclaim.shortfall = t.ae.committed - s.ae.effective ∧ t.ae.excess = true ∧
            t.eu = ((s.elapse.event .reclaimEnd s.ae.reclaim.beneficiary 0x22 judged.yieldTaken).event .reclaimStart
              none 2 (t.ae.committed - s.ae.effective)).eu)) ∧
        (∀ b, s.ae.reclaim.beneficiary = some b → s.ae.reclaim.kind = .admission → b ≠ i → s.ae.excess = false →
          s.ae.committed ≤ s.ae.effective →
          let avail := s.ae.effective -
            (s.ae.committed - down + if (s.slot b).effClass = 0 then 0 else s.ae.reserve)
          t.entry i = { s.entry i with claim := h, confirmed := h, restating := false } ∧
          t.slot i = { s.slot i with outbox := rest } ∧
          ((s.slot b).state ≠ .waiting →
            aroundNotice i s t ∧ t.ae.reclaim = { judged with active := false, earmark := 0 } ∧
            t.eu = (s.elapse.event .reclaimEnd (some b) 0x13 judged.yieldTaken).eu) ∧
          (∀ l, (s.slot b).current = some l → (s.slot b).state = .waiting →
            (∀ p, l.highestWithin avail = some p →
              t.ae.reclaim = { judged with active := false, earmark := 0 } ∧
              t.slot b = { s.slot b with
                state := .offering, offered := some { index := p.1, power := p.2.power, tag := p.2.tag } } ∧
              t.entry b = { s.entry b with claim := p.2.power, mark := .offer, blocked := false } ∧
              t.ae.entryOrder = s.ae.entryOrder.filter (· != b) ∧
              t.eu = (s.elapse.event .reclaimEnd (some b) 0x11 judged.yieldTaken).eu) ∧
            (l.highestWithin avail = none → judged.concluded = true →
              aroundNotice i s t ∧ t.ae.reclaim = { judged with active := false, earmark := 0 } ∧
              t.eu = (s.elapse.event .reclaimEnd (some b) 0x12 judged.yieldTaken).eu) ∧
            (l.highestWithin avail = none → judged.concluded = false →
              aroundNotice i s t ∧ t.ae.reclaim = judged ∧ t.eu = s.elapse.eu))))

/-- The last notice of the RESYNC period, POWERED, under HOLD and within EB (R15, R164, R197, R199): the claim falls to
the holding, the slot joins the grant order list by its number, RESYNC_ACTIVE clears and RESYNC_DONE is appended. -/
def Obligations.LastNoticeEndsResync : Prop :=
  ∀ (s : State) (i : SlotId) (h : Nat) (rest : List Notice), s.resetLow = false → aeStill s →
    (s.slot i).outbox = .powered h :: rest → s.ae.resyncActive = true → (s.entry i).resync = true →
    (∀ j, j ≠ i → (s.entry j).resync = false) → (s.entry i).mark = .none → h ≠ 0 → h ≤ (s.entry i).claim →
    ∃ t, exec (.poweredNotice i) s = .next t ∧ aroundNotice i s t ∧ t.slot i = { s.slot i with outbox := rest } ∧
      t.entry i = { s.entry i with claim := h, confirmed := h, resync := false } ∧
      (∀ j, j ≠ i → t.entry j = s.entry j) ∧
      t.ae = { s.ae with
        slots := t.ae.slots, resyncActive := false, resyncPowered := s.ae.resyncPowered + 1
        grantOrder := insertBySlot i (s.ae.grantOrder.filter (· != i)) } ∧
      t.eu = (s.elapse.event .resyncDone none (s.ae.resyncPowered + 1) t.ae.committed).eu

/-- An ANSWER that matches the RUNNING command concludes it with its result and detail and appends CMD_DONE; one that
matches none is disregarded (R142, R143). -/
def Obligations.AnswerConcludesTheCommand : Prop :=
  ∀ (s : State) (i : SlotId) (k : Fin 4) (num : Byte) (r : CmdResult) (d : Byte) (rest : List Notice),
    s.resetLow = false → s.ae.hold = true → s.ae.reclaim.active = false → s.ae.excess = false →
    s.cu.policyWait = [] → (s.slot i).outbox = .answer k num r d :: rest → (∀ u, (s.cmd u).state ≠ .queued) →
    ∃ t, exec (.answerNotice i) s = .next t ∧ t.slot i = { s.slot i with outbox := rest } ∧
      (∀ j, j ≠ i → t.slot j = s.slot j) ∧ t.links = s.links ∧ t.ae = s.ae ∧ t.wu = s.wu ∧ t.hp = s.hp ∧
      t.inputs = s.inputs ∧ t.pending = s.pending ∧
      ((s.cmd k).state = .running → (s.cmd k).num = num → s.oneRunning →
        t.cmd k = { s.cmd k with state := r.concludes, result := r, detail := d } ∧
        (∀ u, u ≠ k → t.cmd u = s.cmd u) ∧ t.cu = { s.cu with cmds := t.cu.cmds } ∧
        t.eu = (s.elapse.event .cmdDone (s.cmd k).namedSlot k.val r.code).eu) ∧
      ((s.cmd k).state ≠ .running ∨ (s.cmd k).num ≠ num → t.cu = s.cu ∧ t.eu = s.elapse.eu)

/-! ### Host commands -/

/-- SET_BUDGET on an idle CU, under HOLD with no reclaim active and no candidate for one (R1, R13, R148, R149): the
first value above 4000 fails the command with its byte number and installs nothing; else the three values are in force,
excess is evaluated, and the command concludes at once unless excess holds, when it stays RUNNING. -/
def Obligations.SetBudgetInstallsTheBudgets : Prop :=
  ∀ (s : State) (k : Fin 4) (budget reserve derated : Half), s.resetLow = false → portClear s → cuIdle s k →
    ∃ t, exec (.setBudget budget reserve derated) s = .next t ∧ t.cu.settings = s.cu.settings ∧
      (4000 < budget.toNat ∨ 4000 < reserve.toNat ∨ 4000 < derated.toNat →
        aroundCu s t ∧
        submitted k 1 (halfBytes budget ++ halfBytes reserve ++ halfBytes derated) .failed .badParam
          (if 4000 < budget.toNat then 1 else if 4000 < reserve.toNat then 3 else 5) s t ∧
        t.ae = s.ae ∧ t.eu = (s.elapse.event .cmdDone none k.val 1).eu) ∧
      (budget.toNat ≤ 4000 → reserve.toNat ≤ 4000 → derated.toNat ≤ 4000 → s.ae.hold = true →
        s.ae.reclaim.active = false → s.budgetCandidates = [] →
        aroundCu s t ∧ t.ae.budget = budget.toNat ∧ t.ae.reserve = reserve.toNat ∧ t.ae.derated = derated.toNat ∧
        t.ae = { s.ae with
          budget := budget.toNat, reserve := reserve.toNat, derated := derated.toNat
          excess := decide (t.ae.effective < s.ae.committed) } ∧
        (t.ae.excess = false →
          submitted k 1 (halfBytes budget ++ halfBytes reserve ++ halfBytes derated) .done .ok 0 s t ∧
          t.eu = ((if s.ae.excess then s.elapse.event .budgetOk none 0 (t.ae.effective - s.ae.committed)
            else s.elapse).event .cmdDone none k.val 0).eu) ∧
        (t.ae.excess = true →
          submitted k 1 (halfBytes budget ++ halfBytes reserve ++ halfBytes derated) .running .ok 0 s t ∧
          t.eu = (if s.ae.excess then s.elapse
            else s.elapse.event .budgetExcess none 0 (s.ae.committed - t.ae.effective)).eu))

/-- SET_SLOT_POLICY on an idle CU, under HOLD (R7, R50 to R52, R124, R142, R150 to R152): the first value out of range
fails the command; else the slot's policy alone is in force, and the slot's state decides the rest. A slot that stands
at no more than the new max power stays where it is, its lists marked anew, and answers at once. One that stands above
it is undone from OFFERING and POWERING to WAITING, owes a reduction in RAISING and RESTATING, and in POWERED and
REDUCING goes for its highest point left. A WAITING slot parks with admit disabled, a PARKED one enters the queue with
it enabled, and where no point is left the slot faults; a RESYNC slot's claim becomes the new max power, and excess that
this brings appends BUDGET_EXCESS. How the shared step runs, and in what order, is DEDUCED (notes/assumptions/29.md,
notes/assumptions/34.md); that an owed revoke stands, and that of two policy reductions owed one after the other the
later holds, is DEDUCED too (notes/assumptions/22.md), and so are the moment of the answer (notes/assumptions/45.md) and
how a request meets an LE that is free with a pending one, or is sending a frame without turn (notes/assumptions/47.md).
-/
def Obligations.SetSlotPolicyActsByState : Prop :=
  ∀ (s : State) (k : Fin 4) (slot classLimit admits : Byte) (maxPower : Half), s.resetLow = false → portClear s →
    cuIdle s k → aeStill s →
    ∃ t, exec (.setSlotPolicy slot classLimit maxPower admits) s = .next t ∧
      (7 < slot.toNat ∨ 3 < classLimit.toNat ∨ maxPower.toNat = 0 ∨ 1023 < maxPower.toNat ∨ 1 < admits.toNat →
        aroundCu s t ∧ t.ae = s.ae ∧ t.cu.settings = s.cu.settings ∧
        submitted k 2 ([slot, classLimit] ++ halfBytes maxPower ++ [admits, 0]) .failed .badParam
          (if 7 < slot.toNat then 1 else if 3 < classLimit.toNat then 2
           else if maxPower.toNat = 0 ∨ 1023 < maxPower.toNat then 3 else 5) s t) ∧
      (∀ i : SlotId, slot = byteOf i.val → classLimit.toNat ≤ 3 → maxPower.toNat ≠ 0 → maxPower.toNat ≤ 1023 →
        admits.toNat ≤ 1 → (s.slot i).outbox = [] → ((s.slot i).state = .resync → s.ae.resyncActive = true) →
        let new := (s.slot i).retrimmed maxPower.toNat classLimit.toNat
        let found := byteOf (s.slot i).state.code
        let answer : Notice := .answer k s.cu.count .ok found
        let watch : Watch := { tag := k, num := s.cu.count, limit := maxPower.toNat, found := (s.slot i).state.code }
        submitted k 2 ([slot, classLimit] ++ halfBytes maxPower ++ [admits, 0]) .running .ok 0 s t ∧
        t.policy i = { classLimit := classLimit.toNat, maxPower := maxPower.toNat, admits := admits == 1 } ∧
        (∀ j, j ≠ i → t.policy j = s.policy j ∧ t.slot j = s.slot j ∧ t.link j = s.link j) ∧
        ((s.slot i).state = .empty ∨ (s.slot i).state = .settling ∨ (s.slot i).state = .identify ∨
            (s.slot i).state = .standby ∨ (s.slot i).state = .faulted ∨ (s.slot i).state = .lockedOut →
          t.ae = s.ae ∧ t.link i = s.link i ∧ t.eu = s.elapse.eu ∧
          t.slot i = { s.slot i with effClass := new.effClass, watch := none, outbox := [answer] }) ∧
        ((s.slot i).state = .resync →
          t.entry i = { s.entry i with claim := maxPower.toNat } ∧ (∀ j, j ≠ i → t.entry j = s.entry j) ∧
          t.ae = { s.ae with slots := t.ae.slots, excess := decide (s.ae.effective < t.ae.committed) } ∧
          t.link i = s.link i ∧
          t.eu = (if s.ae.effective < t.ae.committed then
              s.elapse.event .budgetExcess none 0 (t.ae.committed - s.ae.effective)
            else s.elapse).eu ∧
          t.slot i = { s.slot i with effClass := new.effClass, watch := none, outbox := [answer] }) ∧
        ((s.slot i).state = .waiting ∧ admits = 1 ∨ (s.slot i).state = .parked ∧ admits = 0 ∨
            (s.slot i).state = .offering ∨ (s.slot i).state = .powering → s.leftAt i maxPower.toNat = true →
          (s.slot i).standing maxPower.toNat ≤ maxPower.toNat →
          t.ae = s.ae ∧ t.link i = s.link i ∧ t.eu = s.retrimEu i maxPower.toNat ∧
          t.slot i = { new with watch := none, outbox := [answer] }) ∧
        ((s.slot i).state = .powered ∨ (s.slot i).state = .raising ∨ (s.slot i).state = .restating ∨
            (s.slot i).state = .reducing → (s.slot i).standing maxPower.toNat ≤ maxPower.toNat →
          t.ae = s.ae ∧ t.link i = s.link i ∧ t.eu = s.retrimEu i maxPower.toNat ∧
          t.slot i = { new with watch := none, outbox := [answer] }) ∧
        ((s.slot i).state = .waiting → s.leftAt i maxPower.toNat = true → admits = 0 →
          t.ae = (s.leaveQueue i).ae ∧ t.link i = s.link i ∧ t.eu = s.retrimEu i maxPower.toNat ∧
          t.slot i = { new with state := .parked, watch := none, outbox := [answer] }) ∧
        ((s.slot i).state = .parked → s.leftAt i maxPower.toNat = true → admits = 1 →
          t.ae = { (s.leaveQueue i).ae with entryOrder := s.ae.entryOrder.filter (· != i) ++ [i] } ∧
          t.link i = s.link i ∧ t.eu = s.retrimEu i maxPower.toNat ∧
          t.slot i = { new with state := .waiting, watch := none, outbox := [answer] }) ∧
        ((s.slot i).state = .offering ∨ (s.slot i).state = .powering → s.leftAt i maxPower.toNat = true →
          (s.slot i).current.isSome = true → maxPower.toNat < (s.slot i).standing maxPower.toNat →
          (s.entry i).resync = false →
          (t.slot i).state = (if admits = 1 then .waiting else .parked) ∧ (t.slot i).current = new.current ∧
          (t.slot i).effClass = new.effClass ∧ (t.slot i).offered = none ∧ (t.slot i).watch = none ∧
          (t.slot i).outbox = [answer] ∧ (t.entry i).claim = 0 ∧ (t.entry i).mark = .none ∧
          ((s.slot i).state = .powering → t.enHigh i = false ∧ (t.slot i).granted = 0) ∧
          t.ae.grantOrder = s.ae.grantOrder.filter (· != i) ∧
          (admits = 1 → t.ae.entryOrder = s.ae.entryOrder.filter (· != i) ++ [i]) ∧
          (t.link i).exchange = none ∧ (t.link i).pendingReq = none ∧
          ((s.link i).link ≠ .down → (t.link i).waiting = some .cut) ∧ t.eu = s.retrimEu i maxPower.toNat) ∧
        ((s.slot i).state = .waiting ∨ (s.slot i).state = .parked ∨ (s.slot i).state = .offering ∨
            (s.slot i).state = .powering → s.leftAt i maxPower.toNat = false →
          (t.slot i).cause = some .badDemand ∧ (t.slot i).strikes = min ((s.slot i).strikes + 1) 3 ∧
          (t.slot i).state = (if (t.slot i).strikes < 3 then .faulted else .lockedOut) ∧
          (t.slot i).current = none ∧ (t.slot i).effClass = classLimit.toNat ∧ (t.slot i).outbox = [answer] ∧
          (t.entry i).claim = 0 ∧ t.ae.entryOrder = s.ae.entryOrder.filter (· != i) ∧
          ((s.entry i).resync = false →
            t.eu = (s.elapse.event .demandBad (some i) 2 maxPower.toNat).eu.faulted i .badDemand
              (s.slot i).strikes)) ∧
        ((s.slot i).state = .raising ∨ (s.slot i).state = .restating →
          maxPower.toNat < (s.slot i).standing maxPower.toNat →
          t.ae = s.ae ∧ t.link i = s.link i ∧ t.eu = s.retrimEu i maxPower.toNat ∧
          t.slot i = { new with
            watch := some watch, outbox := []
            owed := if (s.slot i).owed.any (fun w => w.origin = .host) then (s.slot i).owed
              else some { origin := .policy, targetPower := maxPower.toNat } }) ∧
        (∀ l, (s.slot i).current = some l → (s.slot i).state = .powered →
          maxPower.toNat < (s.slot i).grantedPower →
          let aim := (l.trim maxPower.toNat).policyTarget
          t.ae = s.ae ∧
          t.slot i = { new.reducingTo aim.1 aim.2 .policy (s.cu.settings.reduceSteps * 10) with
            restated := none, watch := some watch, outbox := [] } ∧
          ((s.slot i).restated = none →
            t.eu = s.retrimEu i maxPower.toNat ∧
            ((s.link i).link ≠ .down →
              t.link i = (s.link i).asked (.reduce aim.1 aim.2) s.cu.settings.retryLimit)) ∧
          ((s.slot i).restated.isSome = true →
            t.eu = (s.retrimEu i maxPower.toNat).append .demandRefused (some i) 8
              (BitVec.ofNat 16 (s.slot i).grantedPower) ∧
            ((s.link i).link ≠ .down →
              t.link i = { s.link i with waiting := some .refuse, pendingReq := some (.reduce aim.1 aim.2) }))) ∧
        (∀ l, (s.slot i).current = some l → ∀ d, (s.slot i).reduction = some d → (s.slot i).state = .reducing →
          maxPower.toNat < (s.slot i).grantedPower →
          let aim := (l.trim maxPower.toNat).policyTarget
          t.ae = s.ae ∧ t.eu = s.retrimEu i maxPower.toNat ∧
          t.slot i = { new with
            watch := some watch, outbox := []
            reduction := some (if aim.2 < d.targetPower then
                { d with targetIndex := aim.1, targetPower := aim.2, origin := .policy }
              else d) } ∧
          (aim.2 < d.targetPower → (s.link i).link ≠ .down →
            t.link i = (s.link i).asked (.reduce aim.1 aim.2) s.cu.settings.retryLimit) ∧
          (d.targetPower ≤ aim.2 → t.link i = s.link i)))

/-- REVOKE_SLOT on an idle CU (R28, R57, R124, R154, R155): no power to take answers NOT_POWERED; OFFERING and POWERING
end in STANDBY at once; POWERED enters REDUCING toward 0, a pending list dropped first with a REFUSE; REDUCING is
upgraded to 0 under its running deadline; an exchange in progress owes the revoke. The AE takes the revoke too (R10):
where its rules find nothing to decide the account stands, and an ADMIT reclaim whose beneficiary has left the queue
ends with 13h (R129). That the SS acts before the AE, in the one happening, is DEDUCED (notes/assumptions/39.md), and so
is how a request meets an LE that is free with a pending one, or is sending a frame without turn
(notes/assumptions/47.md); the port is left as notes/assumptions/9.md says. -/
def Obligations.RevokeSlotActsByState : Prop :=
  ∀ (s : State) (k : Fin 4) (slot : Byte), s.resetLow = false → portClear s → cuIdle s k →
    ∃ t, exec (.revokeSlot slot) s = .next t ∧ t.inputs = s.inputs ∧ t.wu = s.wu ∧ t.pending = s.pending ∧
      t.cu.settings = s.cu.settings ∧
      (7 < slot.toNat →
        aroundCu s t ∧ t.ae = s.ae ∧ submitted k 3 [slot, 0, 0, 0, 0, 0] .failed .badParam 1 s t ∧
        t.eu = (s.elapse.event .cmdDone none k.val 1).eu) ∧
      (∀ i : SlotId, slot = byteOf i.val → submitted k 3 [slot, 0, 0, 0, 0, 0] .running .ok 0 s t) ∧
      (∀ i : SlotId, slot = byteOf i.val → (s.slot i).state.unpowered = true → s.ae.reclaim.active = true →
        s.ae.reclaim.kind = .admission → s.ae.excess = false → s.ae.hold = true →
        ∀ b, s.ae.reclaim.beneficiary = some b → (s.slot b).state ≠ .waiting →
        t.slot i = (s.slot i).sending (.answer k s.cu.count .notPowered (byteOf (s.slot i).state.code)) ∧
        othersSame i s t ∧ t.link i = s.link i ∧
        t.ae = { s.ae with reclaim := { s.ae.reclaim with active := false, earmark := 0 } } ∧
        t.eu = (s.elapse.event .reclaimEnd (some b) 0x13 s.ae.reclaim.yieldTaken).eu) ∧
      (∀ i : SlotId, slot = byteOf i.val → aeSettled s →
        t.ae = s.ae ∧ othersSame i s t ∧
        ((s.slot i).state.unpowered = true →
          t.slot i = (s.slot i).sending (.answer k s.cu.count .notPowered (byteOf (s.slot i).state.code)) ∧
          t.link i = s.link i ∧ t.eu = s.elapse.eu) ∧
        ((s.slot i).state = .offering →
          t.slot i = { ((s.slot i).listless (s.policy i).classLimit).sending .released with
            watch := none, outbox := (s.slot i).outbox ++ [.released, .answer k s.cu.count .ok 6] } ∧
          (t.link i).exchange = none ∧ (t.link i).pendingReq = none ∧
          ((s.link i).link ≠ .down → (t.link i).waiting = some .cut) ∧ t.eu = s.elapse.eu) ∧
        ((s.slot i).state = .powering →
          t.slot i = { (s.slot i).powerless.listless (s.policy i).classLimit with
            watch := none, outbox := (s.slot i).outbox ++ [.released, .answer k s.cu.count .ok 7] } ∧
          t.enHigh i = false ∧ (t.link i).exchange = none ∧
          t.eu = (s.elapse.event .released (some i) (s.slot i).granted (s.slot i).grantedPower).eu) ∧
        ((s.slot i).state = .powered → (s.slot i).restated = none → (s.slot i).grantedPower ≠ 0 →
          t.slot i = { s.slot i with
            state := .reducing, reduction := some (.entered 0 0 .host)
            timers := { (s.slot i).timers with reduce := some (s.cu.settings.reduceSteps * 10) }
            watch := some { tag := k, num := s.cu.count, limit := 0, found := 8 } } ∧ t.eu = s.elapse.eu ∧
          ((s.link i).link ≠ .down →
            t.link i = (s.link i).asked (.reduce 0 0) s.cu.settings.retryLimit)) ∧
        ((s.slot i).state = .powered → (s.slot i).restated.isSome = true → (s.slot i).grantedPower ≠ 0 →
          t.slot i = { s.slot i with
            state := .reducing, restated := none, reduction := some (.entered 0 0 .host)
            timers := { (s.slot i).timers with reduce := some (s.cu.settings.reduceSteps * 10) }
            watch := some { tag := k, num := s.cu.count, limit := 0, found := 8 } } ∧
          t.eu = (s.elapse.event .demandRefused (some i) 8 (s.slot i).grantedPower).eu ∧
          ((s.link i).link ≠ .down →
            t.link i = { s.link i with waiting := some .refuse, pendingReq := some (.reduce 0 0) })) ∧
        (∀ d, (s.slot i).reduction = some d → (s.slot i).state = .reducing → (s.slot i).grantedPower ≠ 0 →
          t.slot i = { s.slot i with
            reduction := some (if d.targetPower = 0 then { d with origin := .host }
              else { d with targetIndex := 0, targetPower := 0, origin := .host })
            watch := some { tag := k, num := s.cu.count, limit := 0, found := 11 } } ∧ t.eu = s.elapse.eu ∧
          (d.targetPower = 0 → t.link i = s.link i) ∧
          (d.targetPower ≠ 0 → (s.link i).link ≠ .down →
            t.link i = (s.link i).asked (.reduce 0 0) s.cu.settings.retryLimit)) ∧
        ((s.slot i).state = .raising ∨ (s.slot i).state = .restating ∨ (s.slot i).state = .resync →
          (t.slot i).owed = some { origin := .host, targetPower := 0 } ∧
          (t.slot i).state = (s.slot i).state ∧ (t.slot i).en = (s.slot i).en ∧ t.link i = s.link i ∧
          t.eu = s.elapse.eu))

/-- RESET_SLOT and REQUERY_SLOT on an idle CU (R157, R158): each returns its own states to IDENTIFY with a QUERY started
and answers OK; in any other state nothing changes but the answer WRONG_STATE. A STANDBY slot whose DEMAND has been
taken counts as WAITING: REQUERY_SLOT answers WRONG_STATE with 4h, and the demand is taken once (that the slot still
shows 3h there is the model's choice, notes/assumptions/5.md). That a list kept from a cut is discarded with the return
to IDENTIFY is the model's choice too (notes/assumptions/20.md), and so is where the command leaves the port
(notes/assumptions/9.md). That the QUERY waits for a withdrawn frame is DEDUCED (notes/assumptions/15.md). -/
def Obligations.ResetAndRequeryIdentify : Prop :=
  ∀ (s : State) (k : Fin 4) (slot : Byte) (c : Instr) (code : Byte), s.resetLow = false → portClear s → cuIdle s k →
    (c = .resetSlot slot ∧ code = 4) ∨ (c = .requerySlot slot ∧ code = 5) →
    ∃ t, exec c s = .next t ∧ t.ae = s.ae ∧ t.inputs = s.inputs ∧ t.wu = s.wu ∧ t.pending = s.pending ∧
      t.cu.settings = s.cu.settings ∧
      (7 < slot.toNat →
        aroundCu s t ∧ submitted k code [slot, 0, 0, 0, 0, 0] .failed .badParam 1 s t ∧
        t.eu = (s.elapse.event .cmdDone none k.val 1).eu) ∧
      (∀ i : SlotId, slot = byteOf i.val →
        submitted k code [slot, 0, 0, 0, 0, 0] .running .ok 0 s t ∧ othersSame i s t ∧ t.eu = s.elapse.eu ∧
        ((c = .resetSlot slot ∧ ((s.slot i).state = .faulted ∨ (s.slot i).state = .lockedOut)) ∨
            (c = .requerySlot slot ∧ (s.slot i).state = .standby ∧ (s.slot i).arriving = none ∧
              ((s.slot i).current = none ∨ .demand false none ∉ (s.slot i).outbox)) →
          (t.slot i).state = .identify ∧ (t.slot i).cause = (s.slot i).cause ∧ (t.slot i).en = (s.slot i).en ∧
          (t.slot i).strikes = (if code = 4 then 0 else (s.slot i).strikes) ∧
          (t.slot i).timers = { (s.slot i).timers with settle := none, holdoff := none } ∧
          (t.slot i).current = (if code = 4 then (s.slot i).current else none) ∧
          (t.slot i).outbox = (s.slot i).outbox ++ [.answer k s.cu.count .ok (byteOf (s.slot i).state.code)] ∧
          (t.link i).pendingReq = none ∧
          ((s.link i).completing = false → (∀ x, (s.link i).exchange = some x → x.phase ≠ .send) →
            (t.link i).exchange = some (.fresh .query .waitLine s.cu.settings.retryLimit (!(s.link i).seq)) ∧
            (t.link i).seq = (s.link i).seq) ∧
          (∀ x, (s.link i).exchange = some x → x.phase = .send →
            (t.link i).exchange = none ∧ (t.link i).queryDue = true ∧ (t.link i).seq = (s.link i).seq)) ∧
        (c = .requerySlot slot → (s.slot i).state = .standby →
          (s.slot i).arriving ≠ none ∨ (s.slot i).current ≠ none ∧ .demand false none ∈ (s.slot i).outbox →
          t.slot i = (s.slot i).sending (.answer k s.cu.count .wrongState 4) ∧ t.link i = s.link i) ∧
        ((c = .resetSlot slot → (s.slot i).state ≠ .faulted ∧ (s.slot i).state ≠ .lockedOut) →
            (c = .requerySlot slot → (s.slot i).state ≠ .standby) →
          t.slot i = (s.slot i).sending (.answer k s.cu.count .wrongState (byteOf (s.slot i).state.code)) ∧
          t.link i = s.link i))

/-- HOLD and SET_TIMING on an idle CU, where the pass they may cause finds nothing to do (R101, R102, R159, R160): a
value out of range fails the command with its byte number; else the flag, or the five timing values and the options, are
in force and the command concludes. -/
def Obligations.HoldAndTimingInstall : Prop :=
  ∀ (s : State) (k : Fin 4) (value a b c d e f : Byte), s.resetLow = false → portClear s → cuIdle s k →
    s.ae.reclaim.active = false → s.ae.excess = false → s.ae.entryOrder = [] → s.ae.grantOrder = [] →
    (∃ t, exec (.hold value) s = .next t ∧ aroundCu s t ∧ t.cu.settings = s.cu.settings ∧
      (1 < value.toNat →
        submitted k 6 [value, 0, 0, 0, 0, 0] .failed .badParam 1 s t ∧ t.ae = s.ae ∧
        t.eu = (s.elapse.event .cmdDone none k.val 1).eu) ∧
      (value.toNat ≤ 1 →
        submitted k 6 [value, 0, 0, 0, 0, 0] .done .ok (if s.ae.hold then 1 else 0) s t ∧
        t.ae = { s.ae with hold := value == 1 } ∧ t.eu = (s.elapse.event .cmdDone none k.val 0).eu)) ∧
    (∃ t, exec (.setTiming a b c d e f) s = .next t ∧ aroundCu s t ∧ t.ae = s.ae ∧
      (a = 0 ∨ b = 0 ∨ 7 < c.toNat ∨ d.toNat < 10 ∨ 250 < d.toNat ∨ 3 < f.toNat →
        submitted k 7 [a, b, c, d, e, f] .failed .badParam
          (if a = 0 then 1 else if b = 0 then 2 else if 7 < c.toNat then 3
           else if d.toNat < 10 ∨ 250 < d.toNat then 4 else 6) s t ∧
        t.cu.settings = s.cu.settings ∧ t.eu = (s.elapse.event .cmdDone none k.val 1).eu) ∧
      (a ≠ 0 → b ≠ 0 → c.toNat ≤ 7 → 10 ≤ d.toNat → d.toNat ≤ 250 → f.toNat ≤ 3 →
        submitted k 7 [a, b, c, d, e, f] .done .ok 0 s t ∧
        t.cu.settings = { s.cu.settings with
          reduceSteps := a.toNat, graceSteps := b.toNat, retryLimit := c.toNat, rampMs := d.toNat
          holdoffSteps := e.toNat, backfill := f.getLsbD 0, autoRaise := f.getLsbD 1 } ∧
        t.eu = (s.elapse.event .cmdDone none k.val 0).eu))

/-- BAD_CODE, CMD_RETIRE and CMD_ABORT (R140, R141, R144, R145): a code outside 01h to 07h fails with BAD_CODE, and
without a FREE slot the submission is FULL; a concluded slot is freed; the RUNNING command fails with ABORTED and its
watch is withdrawn; any other tag sets BAD_VALUE. That a freed slot holds no parameters and the number 0 is the model's
choice (notes/assumptions/36.md), and so is where a whole-row write leaves the port (notes/assumptions/9.md). -/
def Obligations.CommandSlotsAreBookkept : Prop :=
  ∀ (s : State) (b : Byte), s.resetLow = false → portClear s →
    (b.toNat = 0 ∨ 7 < b.toNat →
      ∃ t, exec (.badCode b) s = .next t ∧
        (s.freeTag = none →
          aroundCu s t ∧ t.ae = s.ae ∧ t.hp = s.hp.wrote 0x12 0x12 s.hp.status ∧
          t.cu = { s.cu with submitResult := 0xFF } ∧ t.eu = s.elapse.eu) ∧
        (∀ k, cuIdle s k →
          aroundCu s t ∧ t.ae = s.ae ∧ t.hp = s.hp.wrote 0x12 0x12 s.hp.status ∧
          t.cu.settings = s.cu.settings ∧ t.cu.param = s.cu.param ∧
          t.cmd k = { code := b, state := .failed, result := .badCode, detail := 0, params := s.cu.param,
                      num := s.cu.count } ∧
          (∀ u, u ≠ k → t.cmd u = s.cmd u) ∧ t.cu.submitResult = byteOf k.val ∧
          t.eu = (s.elapse.event .cmdDone none k.val 2).eu)) ∧
    (∃ t, exec (.cmdRetire b) s = .next t ∧ aroundCu s t ∧ t.ae = s.ae ∧ t.eu = s.elapse.eu ∧
      (∀ k : Fin 4, b = byteOf k.val → (s.cmd k).state = .done ∨ (s.cmd k).state = .failed →
        t.cmd k = .free ∧ (∀ u, u ≠ k → t.cmd u = s.cmd u) ∧ t.cu = { s.cu with cmds := t.cu.cmds } ∧
        t.hp = s.hp.wrote 0x1A 0x1A s.hp.status) ∧
      (3 < b.toNat ∨ (∃ k : Fin 4, b = byteOf k.val ∧ (s.cmd k).state ≠ .done ∧ (s.cmd k).state ≠ .failed) →
        t.cu = s.cu ∧ t.hp = s.hp.wrote 0x1A 0x1A (s.hp.status ||| 0x08))) ∧
    (∃ t, exec (.cmdAbort b) s = .next t ∧
      (∀ k : Fin 4, b = byteOf k.val → (s.cmd k).state = .running → s.oneRunning →
        (∀ u, (s.cmd u).state ≠ .queued) →
        t.cmd k = { s.cmd k with state := .failed, result := .aborted, detail := 0 } ∧ t.links = s.links ∧
        t.inputs = s.inputs ∧ t.wu = s.wu ∧ (∀ u, u ≠ k → t.cmd u = s.cmd u) ∧ t.ae = s.ae ∧
        t.cu = { s.cu with cmds := t.cu.cmds } ∧
        t.eu = (s.elapse.event .cmdDone (s.cmd k).namedSlot k.val 5).eu ∧
        t.hp = s.hp.wrote 0x1B 0x1B s.hp.status ∧
        (∀ i, t.slot i = { s.slot i with
          watch := if (s.cmd k).namedSlot = some i ∧
              ((s.slot i).watch.any fun w => w.tag == k && w.num == (s.cmd k).num) = true then none
            else (s.slot i).watch })) ∧
      (3 < b.toNat ∨ (∃ k : Fin 4, b = byteOf k.val ∧ (s.cmd k).state ≠ .running) →
        aroundCu s t ∧ t.cu = s.cu ∧ t.ae = s.ae ∧ t.eu = s.elapse.eu ∧
        t.hp = s.hp.wrote 0x1B 0x1B (s.hp.status ||| 0x08)))

/-! ### Events, the window and the bus -/

/-- EVT_POP, INT_STATUS, INT_ENABLE and HOST_STATUS written by the host (R168, R170, R171, R189): the head is removed,
an empty queue stays; each bit written 1 clears; the nine enables are taken; and INT_N follows the two registers. -/
def Obligations.EventRegistersTakeWrites : Prop :=
  ∀ (s : State) (b : Byte) (v : Half), s.resetLow = false → portClear s →
    (∃ t, exec (.evtPop b) s = .next t ∧ aroundCu s t ∧ t.ae = s.ae ∧ t.cu = s.cu ∧
      t.eu = { s.elapse.eu with queue := s.eu.queue.tail } ∧ t.hp = s.hp.wrote 0x09 0x09 s.hp.status) ∧
    (∃ t, exec (.intStatusClear v) s = .next t ∧ aroundCu s t ∧ t.ae = s.ae ∧ t.cu = s.cu ∧
      t.eu = { s.elapse.eu with intStatus := s.eu.intStatus &&& ~~~v } ∧
      t.hp = s.hp.wrote 0x04 0x06 s.hp.status ∧
      t.intNLow = ((s.eu.intStatus &&& ~~~v &&& s.eu.intEnable) != 0)) ∧
    (∃ t, exec (.intEnable v) s = .next t ∧ aroundCu s t ∧ t.ae = s.ae ∧ t.cu = s.cu ∧
      t.eu = { s.elapse.eu with intEnable := v &&& 0x01FF } ∧ t.hp = s.hp.wrote 0x06 0x08 s.hp.status ∧
      t.intNLow = ((s.eu.intStatus &&& (v &&& 0x01FF)) != 0)) ∧
    (∃ t, exec (.hostStatusClear b) s = .next t ∧ aroundCu s t ∧ t.ae = s.ae ∧ t.cu = s.cu ∧ t.eu = s.elapse.eu ∧
      t.hp = s.hp.wrote 0x02 0x03 (s.hp.status &&& ~~~b))

/-- WIN_CAPTURE and WIN_DATA (R176, R177, R179): the copy holds the records of the walk, back to back; a clearing LINK
capture clears the flags of the captured slots alone; a read sends the byte at the cursor and moves it on, back to 0
with WRAP after the last, and 00h while the buffer is empty. That a RECLAIM capture, too, records WIN_GROUP's direction
bit is DEDUCED (notes/assumptions/42.md). -/
def Obligations.CaptureAndReadTheWindow : Prop :=
  ∀ (s : State) (b : Byte) (ack : Bool), s.resetLow = false → portClear s →
    (∃ t, exec (.winCapture b) s = .next t ∧ t.slots = s.slots ∧ t.ae = s.ae ∧ t.cu = s.cu ∧ t.eu = s.elapse.eu ∧
      t.inputs = s.inputs ∧ t.pending = s.pending ∧ t.hp = s.hp.wrote 0x45 0x45 s.hp.status ∧
      t.wu = { s.wu with
        buffer :=
          if groupField s.wu.group = 0 then s.wu.walk.flatMap s.summary
          else if groupField s.wu.group = 1 then s.wu.walk.flatMap s.demandRecord
          else if groupField s.wu.group = 2 then s.wu.walk.flatMap fun i => (s.link i).record
          else s.ae.reclaim.record
        cursor := 0, wrap := false, bufGroup := groupField s.wu.group, bufDesc := groupDescending s.wu.group } ∧
      (∀ i, t.link i =
        if groupField s.wu.group = 2 ∧ groupClears s.wu.group = true ∧ i ∈ s.wu.walk then
          { s.link i with near := 0, far := 0 }
        else s.link i)) ∧
    (∃ t, exec (.winData ack) s = .next t ∧ t.slots = s.slots ∧ t.links = s.links ∧ t.ae = s.ae ∧ t.cu = s.cu ∧
      t.eu = s.elapse.eu ∧ t.inputs = s.inputs ∧ t.pending = s.pending ∧
      t.hp.sent = some (s.wu.buffer.getD s.wu.cursor 0) ∧ t.hp.offset = 0x48 ∧ t.hp.status = s.hp.status ∧
      (s.wu.buffer = [] → t.wu = s.wu) ∧
      (s.wu.buffer ≠ [] → s.wu.cursor + 1 = s.wu.buffer.length → t.wu = { s.wu with cursor := 0, wrap := true }) ∧
      (s.wu.buffer ≠ [] → s.wu.cursor + 1 ≠ s.wu.buffer.length →
        t.wu = { s.wu with cursor := s.wu.cursor + 1 }))

/-- The bus (R184 to R188): a START with the port's address is acknowledged, opens a write or a read transfer and ends
the one before, and one with any other address is not acknowledged; a STOP ends a transfer, and staged bytes are
discarded with WRITE_INCOMPLETE; the first byte of a write sets the offset and is acknowledged; a byte outside a write
transfer is not acknowledged. That an acknowledge is kept until the next byte from the host is the model's record
(notes/assumptions/32.md). -/
def Obligations.BusConditionsMoveThePort : Prop :=
  ∀ (s : State) (b : Byte), s.resetLow = false → s.hp.restart = none →
    (∃ t, exec .stop s = .next t ∧ onlyPort s t ∧
      t.hp = if s.hp.phase = .idle then s.hp
        else { s.hp with
          phase := .idle, staging := none, snapshot := none
          status := if s.hp.staging.isSome then s.hp.status ||| 0x04 else s.hp.status }) ∧
    (∃ t, exec (.start b) s = .next t ∧ onlyPort s t ∧ ∃ u, exec .stop s = .next u ∧
      t.hp = { u.hp with
        phase :=
          if b.extractLsb' 1 7 = s.hp.address then (if b.getLsbD 0 then .reading else .writeOffset) else .idle
        acked := b.extractLsb' 1 7 == s.hp.address }) ∧
    (∃ t, exec (.offsetSet b) s = .next t ∧ onlyPort s t ∧
      (s.hp.phase = .writeOffset → t.hp = { s.hp with offset := b, phase := .writing, acked := true }) ∧
      (s.hp.phase = .idle ∨ s.hp.phase = .reading ∨ s.hp.phase = .readDone →
        t.hp = { s.hp with acked := false })) ∧
    (s.hp.phase = .idle ∨ s.hp.phase = .reading ∨ s.hp.phase = .readDone →
      ∃ t, exec (.registerWrite b) s = .next t ∧ onlyPort s t ∧ t.hp = { s.hp with acked := false })

/-- Bytes of a transfer (R184 to R189): every byte of a write is acknowledged, ignored ones included; a byte to a
read-only register, or to 49h or 50h and above, where no register is, is ignored with its flag and the offset moves on;
one to WIN_DATA is ignored with BAD_VALUE (R177); the last byte of CMD_PARAM installs the six staged, and a write begun
inside a multi-byte register installs nothing and sets WRITE_INCOMPLETE at its last byte; WIN_FIRST and WIN_LAST take 0
to 7, and WIN_GROUP 0 to 15 (R174). A byte to RESTART requests a restart; the bytes after it are discarded, and the STOP
or START that ends the transfer acts on it (R192). A byte read comes from the copy of its register where one is held,
else from the register at the offset, or reads 00h with BAD_OFFSET where there is none. That the offset stands for the
bytes discarded, that a START which ends a restart's transfer is not itself answered, and that a full restart by STOP or
START takes the levels standing at the pins, is the model's choice (notes/assumptions/11.md). -/
def Obligations.TransferBytesReachTheRegisters : Prop :=
  ∀ (s : State) (b v : Byte) (p : List Byte) (ack : Bool), s.resetLow = false →
    (s.hp.phase = .writing → portClear s →
      ∃ t, exec (.registerWrite b) s = .next t ∧
        (s.hp.offset.toNat ≤ 0x01 ∨ s.hp.offset = 0x08 ∨ (0x0A ≤ s.hp.offset.toNat ∧ s.hp.offset.toNat ≤ 0x11) ∨
            s.hp.offset = 0x19 ∨ (0x1C ≤ s.hp.offset.toNat ∧ s.hp.offset.toNat ≤ 0x41) ∨ s.hp.offset = 0x46 ∨
            s.hp.offset = 0x47 ∨ (0x4A ≤ s.hp.offset.toNat ∧ s.hp.offset.toNat ≤ 0x4F) →
          onlyPort s t ∧
          t.hp = { s.hp with acked := true, offset := s.hp.offset + 1, status := s.hp.status ||| 0x02 }) ∧
        (s.hp.offset = 0x48 → onlyPort s t ∧ t.hp = { s.hp with acked := true, status := s.hp.status ||| 0x08 }) ∧
        ((s.hp.offset = 0x49 ∨ 0x50 ≤ s.hp.offset.toNat) →
          onlyPort s t ∧
          t.hp = { s.hp with acked := true, offset := s.hp.offset + 1, status := s.hp.status ||| 0x01 }) ∧
        ((s.hp.offset = 0x42 ∨ s.hp.offset = 0x43) → 7 < b.toNat →
          onlyPort s t ∧
          t.hp = { s.hp with acked := true, offset := s.hp.offset + 1, status := s.hp.status ||| 0x08 }) ∧
        (s.hp.offset = 0x42 → b.toNat ≤ 7 →
          t.wu = { s.wu with first := b } ∧ t.hp = { s.hp with acked := true, offset := 0x43 } ∧ t.slots = s.slots ∧
          t.links = s.links ∧ t.ae = s.ae ∧ t.cu = s.cu ∧ t.eu = s.elapse.eu) ∧
        (s.hp.offset = 0x43 → b.toNat ≤ 7 →
          t.wu = { s.wu with last := b } ∧ t.hp = { s.hp with acked := true, offset := 0x44 } ∧ t.slots = s.slots ∧
          t.links = s.links ∧ t.ae = s.ae ∧ t.cu = s.cu ∧ t.eu = s.elapse.eu) ∧
        (s.hp.offset = 0x44 → b.toNat ≤ 15 →
          t.wu = { s.wu with group := b } ∧ t.hp = { s.hp with acked := true, offset := 0x45 } ∧ t.slots = s.slots ∧
          t.links = s.links ∧ t.ae = s.ae ∧ t.cu = s.cu ∧ t.eu = s.elapse.eu) ∧
        (s.hp.offset = 0x44 → 15 < b.toNat →
          onlyPort s t ∧ t.hp = { s.hp with acked := true, offset := 0x45, status := s.hp.status ||| 0x08 }) ∧
        (s.hp.offset = 0x05 ∨ s.hp.offset = 0x07 ∨ s.hp.offset = 0x18 →
          onlyPort s t ∧
          t.hp = { s.hp with acked := true, offset := s.hp.offset + 1, status := s.hp.status ||| 0x04 }) ∧
        (0x14 ≤ s.hp.offset.toNat → s.hp.offset.toNat ≤ 0x17 →
          onlyPort s t ∧
          t.hp = { s.hp with
            acked := true, offset := s.hp.offset + 1, staging := some { first := s.hp.offset, bytes := [b] } }) ∧
        (s.hp.offset = 0x03 →
          onlyPort s t ∧
          (b = 1 → t.hp = { s.hp with acked := true, offset := 0x04, restart := some .full }) ∧
          (b = 2 → t.hp = { s.hp with acked := true, offset := 0x04, restart := some .keepPower }) ∧
          (b ≠ 1 → b ≠ 2 → t.hp = { s.hp with acked := true, offset := 0x04, status := s.hp.status ||| 0x08 }))) ∧
    (s.hp.phase = .writing → s.hp.restart = none → s.hp.offset = 0x18 →
      ∀ g, s.hp.staging = some g → g.first ≠ 0x13 →
      ∃ t, exec (.registerWrite b) s = .next t ∧ onlyPort s t ∧
        t.hp = { s.hp with acked := true, offset := 0x19, staging := none, status := s.hp.status ||| 0x04 }) ∧
    (s.hp.phase = .writing → ∀ k, s.hp.restart = some k →
      (∃ t, exec (.registerWrite b) s = .next t ∧ onlyPort s t ∧ t.hp = { s.hp with acked := true }) ∧
      exec (.start b) s = exec .stop s ∧
      exec .stop s = (match k with
        | .full => exec (.fullRestart s.inputs) s
        | .keepPower => exec .keepPowerRestart s) ∧
      ∃ t, exec .stop s = .next t ∧ t.hp.phase = .idle ∧ t.hp.restart = none ∧
        (t.eu.queue.head?.map fun e => (e.kind, e.a)) =
          some (.restart, match k with | .full => 1 | .keepPower => 2)) ∧
    (s.hp.phase = .writing → s.hp.restart = none → s.hp.offset = 0x18 →
      s.hp.staging = some { first := 0x13, bytes := p } →
      ∃ t, exec (.registerWrite b) s = .next t ∧ t.cu = { s.cu with param := p ++ [b] } ∧
        t.hp = { s.hp with acked := true, offset := 0x19, staging := none } ∧ t.slots = s.slots ∧ t.links = s.links ∧
        t.ae = s.ae ∧ t.eu = s.elapse.eu ∧ t.wu = s.wu) ∧
    (s.hp.phase = .reading →
      ∃ t, exec (.registerRead ack) s = .next t ∧
        (s.register s.hp.offset.toNat = none → s.hp.offset ≠ 0x48 →
          onlyPort s t ∧ t.hp.sent = some 0 ∧ t.hp.status = s.hp.status ||| 0x01 ∧
          t.hp.offset = s.hp.offset + 1) ∧
        (s.register s.hp.offset.toNat = some (s.hp.offset.toNat, [v]) →
          (∀ c ∈ s.hp.snapshot, c.base ≠ s.hp.offset) →
          onlyPort s t ∧ t.hp.sent = some v ∧ t.hp.status = s.hp.status ∧ t.hp.snapshot = none) ∧
        (∀ r, s.register s.hp.offset.toNat = some r → ∀ c, s.hp.snapshot = some c → c.base.toNat = r.1 →
          s.hp.offset ≠ 0x48 →
          onlyPort s t ∧ t.hp.sent = some (c.bytes.getD (s.hp.offset.toNat - r.1) 0) ∧
          t.hp.status = s.hp.status ∧
          t.hp.snapshot = (if s.hp.offset.toNat - r.1 + 1 < c.bytes.length then some c else none)) ∧
        (s.hp.offset = 0x34 → s.hp.snapshot = none →
          onlyPort s t ∧ t.hp.sent = some (byteOf s.ae.committed) ∧ t.hp.offset = 0x35 ∧
          t.hp.snapshot = some { base := 0x34, bytes := [byteOf s.ae.committed, byteOf (s.ae.committed / 256)] }))

/-! ### Decisions, demand checks, the walk and the queue -/

/-- No decision of the AE brings excess (R6, R92): with committed within EB, the end tests, the trigger, the passes and
the raises leave it within EB, whatever caused them. -/
def Obligations.DecisionsStayWithinBudget : Prop :=
  ∀ (s : State) (due : Bool), s.ae.committed ≤ s.ae.effective →
    (s.aeRules due).ae.committed ≤ (s.aeRules due).ae.effective ∧
      (s.aeRules due).ae.effective = s.ae.effective

/-- The choice of victims (R115 to R117): from candidates in shedding order, each once, it lists candidates alone, each
once and PENDING; the yield expected covers the shortfall, or every candidate is revoked whole; and it revokes only when
the reductions to the floors fall short. -/
def Obligations.VictimsCoverTheShortfall : Prop :=
  ∀ (s : State) (need : Nat) (pool : List SlotId), pool.Nodup →
    ((s.selectVictims need pool).map Victim.slot).Nodup ∧
      (∀ v ∈ s.selectVictims need pool, v.slot ∈ pool ∧ v.outcome = .pending ∧
        (if v.revoke then v.targetIndex = 0 ∧ v.targetPower = 0 ∧ v.expected = (s.entry v.slot).claim
         else s.reducible v.slot = true ∧ v.targetPower = s.floorPower v.slot ∧
           v.expected = (s.entry v.slot).claim - s.floorPower v.slot)) ∧
      (need ≤ ((s.selectVictims need pool).map Victim.expected).sum ∨
        ∀ i ∈ pool, ∃ v ∈ s.selectVictims need pool, v.slot = i ∧ v.revoke = true) ∧
      ((∃ v ∈ s.selectVictims need pool, v.revoke = true) →
        ((pool.filter s.reducible).map fun i => (s.entry i).claim - s.floorPower i).sum < need)

/-- The demand checks (R46): a record is valid exactly when all five hold, and the number recorded is that of the first
that fails; the verdict does not hang on the max power, and DEMAND_BAD carries the number. -/
def Obligations.DemandChecksNameTheFirstFailure : Prop :=
  (∀ (payload : List Byte) (maxPower maxPower' : Nat) (n : Nat),
    (readDemand payload maxPower = .malformed n ↔ readDemand payload maxPower' = .malformed n) ∧
    (readDemand payload maxPower = .malformed n ↔
      demandCheck (payload.getD 0 0).toNat (payload.getD 1 0).toNat (readPoints (payload.drop 3)) = some n)) ∧
  (∀ (cls count : Nat) (points : List Point),
    (demandCheck cls count points = none ↔
      cls ≤ 3 ∧ 1 ≤ count ∧ count ≤ 6 ∧ count = points.length ∧
        (∀ p ∈ points, 1 ≤ p.power ∧ p.power ≤ 1023) ∧ points.Pairwise (fun p q => q.power < p.power)) ∧
    (demandCheck cls count points = some 1 ↔ 3 < cls) ∧
    (demandCheck cls count points = some 2 ↔ cls ≤ 3 ∧ ¬(1 ≤ count ∧ count ≤ 6)) ∧
    (demandCheck cls count points = some 3 ↔ cls ≤ 3 ∧ (1 ≤ count ∧ count ≤ 6) ∧ count ≠ points.length) ∧
    (demandCheck cls count points = some 4 ↔ cls ≤ 3 ∧ (1 ≤ count ∧ count ≤ 6) ∧ count = points.length ∧
      ¬(∀ p ∈ points, 1 ≤ p.power ∧ p.power ≤ 1023)) ∧
    (demandCheck cls count points = some 5 ↔ cls ≤ 3 ∧ (1 ≤ count ∧ count ≤ 6) ∧ count = points.length ∧
      (∀ p ∈ points, 1 ≤ p.power ∧ p.power ≤ 1023) ∧ ¬points.Pairwise (fun p q => q.power < p.power))) ∧
  (∀ (s : State) (i : SlotId) (n : Nat),
    (s.demandBad i (.malformed n)).eu = s.eu.append .demandBad (some i) 1 (BitVec.ofNat 16 n))

/-- The walk of a capture (R175): ascending it holds the slots from WIN_FIRST up by one, from 7 to 0, to WIN_LAST;
descending it holds the same in reverse, from WIN_LAST down by one, from 0 to 7, to WIN_FIRST; each slot once. A
slot-group capture copies one record for each slot of the walk, in its order, and of the three only a SUMMARY record
carries its slot number. -/
def Obligations.CaptureWalksTheRange : Prop :=
  (∀ (w : Wu) (first last : SlotId), w.first = byteOf first.val → w.last = byteOf last.val →
    w.walk.length =
      (if first.val ≤ last.val then last.val - first.val + 1 else 8 - first.val + last.val + 1) ∧ w.walk.Nodup ∧
    (groupDescending w.group = false →
      w.walk.head? = some first ∧ w.walk.getLast? = some last ∧
      ∀ k < w.walk.length, w.walk[k]? = some (first + Fin.ofNat 8 k)) ∧
    (groupDescending w.group = true →
      w.walk.head? = some last ∧ w.walk.getLast? = some first ∧
      (∀ k < w.walk.length, w.walk[k]? = some (last - Fin.ofNat 8 k)) ∧
      w.walk = (({ w with group := 0 } : Wu).walk).reverse)) ∧
  (∀ s : State,
    (groupField s.wu.group = 0 → s.captured = s.wu.walk.flatMap s.summary) ∧
    (groupField s.wu.group = 1 → s.captured = s.wu.walk.flatMap s.demandRecord) ∧
    (groupField s.wu.group = 2 → s.captured = s.wu.walk.flatMap fun i => (s.link i).record)) ∧
  (∀ (s : State) (i j : SlotId), (s.summary i).head? = some (byteOf i.val) ∧
    ((s.slot i).current = (s.slot j).current → s.demandRecord i = s.demandRecord j) ∧
    (s.link i = s.link j → (s.link i).record = (s.link j).record))

/-- An append by the number of records held (R166, R169): below 31 the event is kept at the tail; at 31 or 32 behind an
OVERFLOW it is dropped and counted, staying at 255; at 31 behind any other record it is dropped and an OVERFLOW of count
1 takes the 32nd place. A dropped event sets its class bit. A queue of at most 32 that ends in OVERFLOW when full stays
so. -/
def Obligations.AppendActsByRecordsHeld : Prop :=
  ∀ (e : Eu) (k : EventKind) (slot : Option SlotId) (a : Byte) (b : Half),
    (e.queue.length ≤ 30 →
      (e.append k slot a b).queue =
        e.queue ++ [{ seq := e.nextSeq, kind := k, slot := slot, a := a, b := b, time := e.timeMs }] ∧
      (e.append k slot a b).nextSeq = e.nextSeq + 1 ∧
      (e.append k slot a b).intStatus = e.intStatus ||| k.classMask) ∧
    (∀ (older : List Event) (r : Event), e.queue = older ++ [r] → 31 ≤ e.queue.length → e.queue.length ≤ 32 →
      (e.append k slot a b).intStatus = e.intStatus ||| k.classMask ||| 0x0100 ∧
      (r.kind = .overflow →
        (e.append k slot a b).queue = older ++ [{ r with b := if r.b.toNat < 255 then r.b + 1 else r.b }] ∧
        (e.append k slot a b).nextSeq = e.nextSeq) ∧
      (r.kind ≠ .overflow → e.queue.length = 31 →
        (e.append k slot a b).queue = e.queue ++
          [{ seq := e.nextSeq, kind := .overflow, slot := none, a := 0, b := 1, time := e.timeMs }] ∧
        (e.append k slot a b).nextSeq = e.nextSeq + 1)) ∧
    (e.queue.length ≤ 32 ∧ (e.queue.length = 32 → (e.queue.getLast?.map Event.kind) = some .overflow) →
      (e.append k slot a b).queue.length ≤ 32 ∧
      ((e.append k slot a b).queue.length = 32 →
        ((e.append k slot a b).queue.getLast?.map Event.kind) = some .overflow))

end Statements
end

