-- ==== Sys2Proof/Laws/State.lean ====
section
/-! SUPPORT. The fields of State after each of its small updates, so that no proof unfolds a record update: one lemma per
field per update, true by rfl. -/

namespace Sys2Proof.Machine

/-! `modSlot` changes one slot record. -/

@[simp] theorem State.modSlot_pending (s : State) (i : SlotId) (f : SlotRec → SlotRec) : (s.modSlot i f).pending = s.pending := rfl
@[simp] theorem State.modSlot_resetLow (s : State) (i : SlotId) (f : SlotRec → SlotRec) : (s.modSlot i f).resetLow = s.resetLow := rfl
@[simp] theorem State.modSlot_inputs (s : State) (i : SlotId) (f : SlotRec → SlotRec) : (s.modSlot i f).inputs = s.inputs := rfl
@[simp] theorem State.modSlot_links (s : State) (i : SlotId) (f : SlotRec → SlotRec) : (s.modSlot i f).links = s.links := rfl
@[simp] theorem State.modSlot_ae (s : State) (i : SlotId) (f : SlotRec → SlotRec) : (s.modSlot i f).ae = s.ae := rfl
@[simp] theorem State.modSlot_cu (s : State) (i : SlotId) (f : SlotRec → SlotRec) : (s.modSlot i f).cu = s.cu := rfl
@[simp] theorem State.modSlot_eu (s : State) (i : SlotId) (f : SlotRec → SlotRec) : (s.modSlot i f).eu = s.eu := rfl
@[simp] theorem State.modSlot_wu (s : State) (i : SlotId) (f : SlotRec → SlotRec) : (s.modSlot i f).wu = s.wu := rfl
@[simp] theorem State.modSlot_hp (s : State) (i : SlotId) (f : SlotRec → SlotRec) : (s.modSlot i f).hp = s.hp := rfl
@[simp] theorem State.modSlot_freeIndex (s : State) (i : SlotId) (f : SlotRec → SlotRec) : (s.modSlot i f).freeIndex = s.freeIndex := rfl

/-! `modLink` changes one link record. -/

@[simp] theorem State.modLink_pending (s : State) (i : SlotId) (f : LinkRec → LinkRec) : (s.modLink i f).pending = s.pending := rfl
@[simp] theorem State.modLink_resetLow (s : State) (i : SlotId) (f : LinkRec → LinkRec) : (s.modLink i f).resetLow = s.resetLow := rfl
@[simp] theorem State.modLink_inputs (s : State) (i : SlotId) (f : LinkRec → LinkRec) : (s.modLink i f).inputs = s.inputs := rfl
@[simp] theorem State.modLink_slots (s : State) (i : SlotId) (f : LinkRec → LinkRec) : (s.modLink i f).slots = s.slots := rfl
@[simp] theorem State.modLink_ae (s : State) (i : SlotId) (f : LinkRec → LinkRec) : (s.modLink i f).ae = s.ae := rfl
@[simp] theorem State.modLink_cu (s : State) (i : SlotId) (f : LinkRec → LinkRec) : (s.modLink i f).cu = s.cu := rfl
@[simp] theorem State.modLink_eu (s : State) (i : SlotId) (f : LinkRec → LinkRec) : (s.modLink i f).eu = s.eu := rfl
@[simp] theorem State.modLink_wu (s : State) (i : SlotId) (f : LinkRec → LinkRec) : (s.modLink i f).wu = s.wu := rfl
@[simp] theorem State.modLink_hp (s : State) (i : SlotId) (f : LinkRec → LinkRec) : (s.modLink i f).hp = s.hp := rfl
@[simp] theorem State.modLink_freeIndex (s : State) (i : SlotId) (f : LinkRec → LinkRec) : (s.modLink i f).freeIndex = s.freeIndex := rfl

/-! `modEntry` changes one of the AE's entries. -/

@[simp] theorem State.modEntry_pending (s : State) (i : SlotId) (f : AeSlot → AeSlot) : (s.modEntry i f).pending = s.pending := rfl
@[simp] theorem State.modEntry_resetLow (s : State) (i : SlotId) (f : AeSlot → AeSlot) : (s.modEntry i f).resetLow = s.resetLow := rfl
@[simp] theorem State.modEntry_inputs (s : State) (i : SlotId) (f : AeSlot → AeSlot) : (s.modEntry i f).inputs = s.inputs := rfl
@[simp] theorem State.modEntry_slots (s : State) (i : SlotId) (f : AeSlot → AeSlot) : (s.modEntry i f).slots = s.slots := rfl
@[simp] theorem State.modEntry_links (s : State) (i : SlotId) (f : AeSlot → AeSlot) : (s.modEntry i f).links = s.links := rfl
@[simp] theorem State.modEntry_cu (s : State) (i : SlotId) (f : AeSlot → AeSlot) : (s.modEntry i f).cu = s.cu := rfl
@[simp] theorem State.modEntry_eu (s : State) (i : SlotId) (f : AeSlot → AeSlot) : (s.modEntry i f).eu = s.eu := rfl
@[simp] theorem State.modEntry_wu (s : State) (i : SlotId) (f : AeSlot → AeSlot) : (s.modEntry i f).wu = s.wu := rfl
@[simp] theorem State.modEntry_hp (s : State) (i : SlotId) (f : AeSlot → AeSlot) : (s.modEntry i f).hp = s.hp := rfl
@[simp] theorem State.modEntry_freeIndex (s : State) (i : SlotId) (f : AeSlot → AeSlot) : (s.modEntry i f).freeIndex = s.freeIndex := rfl

/-! `modCmd` changes one command slot. -/

@[simp] theorem State.modCmd_pending (s : State) (t : Fin 4) (f : CmdSlot → CmdSlot) : (s.modCmd t f).pending = s.pending := rfl
@[simp] theorem State.modCmd_resetLow (s : State) (t : Fin 4) (f : CmdSlot → CmdSlot) : (s.modCmd t f).resetLow = s.resetLow := rfl
@[simp] theorem State.modCmd_inputs (s : State) (t : Fin 4) (f : CmdSlot → CmdSlot) : (s.modCmd t f).inputs = s.inputs := rfl
@[simp] theorem State.modCmd_slots (s : State) (t : Fin 4) (f : CmdSlot → CmdSlot) : (s.modCmd t f).slots = s.slots := rfl
@[simp] theorem State.modCmd_links (s : State) (t : Fin 4) (f : CmdSlot → CmdSlot) : (s.modCmd t f).links = s.links := rfl
@[simp] theorem State.modCmd_ae (s : State) (t : Fin 4) (f : CmdSlot → CmdSlot) : (s.modCmd t f).ae = s.ae := rfl
@[simp] theorem State.modCmd_eu (s : State) (t : Fin 4) (f : CmdSlot → CmdSlot) : (s.modCmd t f).eu = s.eu := rfl
@[simp] theorem State.modCmd_wu (s : State) (t : Fin 4) (f : CmdSlot → CmdSlot) : (s.modCmd t f).wu = s.wu := rfl
@[simp] theorem State.modCmd_hp (s : State) (t : Fin 4) (f : CmdSlot → CmdSlot) : (s.modCmd t f).hp = s.hp := rfl
@[simp] theorem State.modCmd_freeIndex (s : State) (t : Fin 4) (f : CmdSlot → CmdSlot) : (s.modCmd t f).freeIndex = s.freeIndex := rfl

/-! `event` appends one event. -/

@[simp] theorem State.event_pending (s : State) (k : EventKind) (i : Option SlotId) (a b : Nat) : (s.event k i a b).pending = s.pending := rfl
@[simp] theorem State.event_resetLow (s : State) (k : EventKind) (i : Option SlotId) (a b : Nat) : (s.event k i a b).resetLow = s.resetLow := rfl
@[simp] theorem State.event_inputs (s : State) (k : EventKind) (i : Option SlotId) (a b : Nat) : (s.event k i a b).inputs = s.inputs := rfl
@[simp] theorem State.event_slots (s : State) (k : EventKind) (i : Option SlotId) (a b : Nat) : (s.event k i a b).slots = s.slots := rfl
@[simp] theorem State.event_links (s : State) (k : EventKind) (i : Option SlotId) (a b : Nat) : (s.event k i a b).links = s.links := rfl
@[simp] theorem State.event_ae (s : State) (k : EventKind) (i : Option SlotId) (a b : Nat) : (s.event k i a b).ae = s.ae := rfl
@[simp] theorem State.event_cu (s : State) (k : EventKind) (i : Option SlotId) (a b : Nat) : (s.event k i a b).cu = s.cu := rfl
@[simp] theorem State.event_wu (s : State) (k : EventKind) (i : Option SlotId) (a b : Nat) : (s.event k i a b).wu = s.wu := rfl
@[simp] theorem State.event_hp (s : State) (k : EventKind) (i : Option SlotId) (a b : Nat) : (s.event k i a b).hp = s.hp := rfl
@[simp] theorem State.event_freeIndex (s : State) (k : EventKind) (i : Option SlotId) (a b : Nat) : (s.event k i a b).freeIndex = s.freeIndex := rfl

/-! `elapse` passes time. -/

@[simp] theorem State.elapse_pending (s : State) : s.elapse.pending = s.pending := rfl
@[simp] theorem State.elapse_resetLow (s : State) : s.elapse.resetLow = s.resetLow := rfl
@[simp] theorem State.elapse_inputs (s : State) : s.elapse.inputs = s.inputs := rfl
@[simp] theorem State.elapse_slots (s : State) : s.elapse.slots = s.slots := rfl
@[simp] theorem State.elapse_links (s : State) : s.elapse.links = s.links := rfl
@[simp] theorem State.elapse_ae (s : State) : s.elapse.ae = s.ae := rfl
@[simp] theorem State.elapse_cu (s : State) : s.elapse.cu = s.cu := rfl
@[simp] theorem State.elapse_wu (s : State) : s.elapse.wu = s.wu := rfl
@[simp] theorem State.elapse_hp (s : State) : s.elapse.hp = s.hp := rfl

/-! `heard` settles an acknowledge of the Host Port. -/

@[simp] theorem State.heard_pending (s : State) : s.heard.pending = s.pending := rfl
@[simp] theorem State.heard_resetLow (s : State) : s.heard.resetLow = s.resetLow := rfl
@[simp] theorem State.heard_inputs (s : State) : s.heard.inputs = s.inputs := rfl
@[simp] theorem State.heard_slots (s : State) : s.heard.slots = s.slots := rfl
@[simp] theorem State.heard_links (s : State) : s.heard.links = s.links := rfl
@[simp] theorem State.heard_ae (s : State) : s.heard.ae = s.ae := rfl
@[simp] theorem State.heard_cu (s : State) : s.heard.cu = s.cu := rfl
@[simp] theorem State.heard_eu (s : State) : s.heard.eu = s.eu := rfl
@[simp] theorem State.heard_wu (s : State) : s.heard.wu = s.wu := rfl
@[simp] theorem State.heard_freeIndex (s : State) : s.heard.freeIndex = s.freeIndex := rfl
@[simp] theorem State.heard_address (s : State) : s.heard.hp.address = s.hp.address := rfl
@[simp] theorem State.heard_phase (s : State) : s.heard.hp.phase = s.hp.phase := rfl
@[simp] theorem State.heard_offset (s : State) : s.heard.hp.offset = s.hp.offset := rfl
@[simp] theorem State.heard_staging (s : State) : s.heard.hp.staging = s.hp.staging := rfl
@[simp] theorem State.heard_snapshot (s : State) : s.heard.hp.snapshot = s.hp.snapshot := rfl
@[simp] theorem State.heard_status (s : State) : s.heard.hp.status = s.hp.status := rfl
@[simp] theorem State.heard_restart (s : State) : s.heard.hp.restart = s.hp.restart := rfl
@[simp] theorem State.heard_sent (s : State) : s.heard.hp.sent = s.hp.sent := rfl

/-! `setHold` writes the HOLD flag. -/

@[simp] theorem State.setHold_pending (s : State) (b : Bool) : (s.setHold b).pending = s.pending := rfl
@[simp] theorem State.setHold_resetLow (s : State) (b : Bool) : (s.setHold b).resetLow = s.resetLow := rfl
@[simp] theorem State.setHold_inputs (s : State) (b : Bool) : (s.setHold b).inputs = s.inputs := rfl
@[simp] theorem State.setHold_slots (s : State) (b : Bool) : (s.setHold b).slots = s.slots := rfl
@[simp] theorem State.setHold_links (s : State) (b : Bool) : (s.setHold b).links = s.links := rfl
@[simp] theorem State.setHold_cu (s : State) (b : Bool) : (s.setHold b).cu = s.cu := rfl
@[simp] theorem State.setHold_eu (s : State) (b : Bool) : (s.setHold b).eu = s.eu := rfl
@[simp] theorem State.setHold_wu (s : State) (b : Bool) : (s.setHold b).wu = s.wu := rfl
@[simp] theorem State.setHold_hp (s : State) (b : Bool) : (s.setHold b).hp = s.hp := rfl
@[simp] theorem State.setHold_freeIndex (s : State) (b : Bool) : (s.setHold b).freeIndex = s.freeIndex := rfl
@[simp] theorem State.setHold_ae (s : State) (b : Bool) : (s.setHold b).ae = { s.ae with hold := b } := rfl

/-! `notify` sends a notice. -/

@[simp] theorem State.notify_pending (s : State) (i : SlotId) (n : Notice) : (s.notify i n).pending = s.pending := rfl
@[simp] theorem State.notify_resetLow (s : State) (i : SlotId) (n : Notice) : (s.notify i n).resetLow = s.resetLow := rfl
@[simp] theorem State.notify_inputs (s : State) (i : SlotId) (n : Notice) : (s.notify i n).inputs = s.inputs := rfl
@[simp] theorem State.notify_links (s : State) (i : SlotId) (n : Notice) : (s.notify i n).links = s.links := rfl
@[simp] theorem State.notify_ae (s : State) (i : SlotId) (n : Notice) : (s.notify i n).ae = s.ae := rfl
@[simp] theorem State.notify_cu (s : State) (i : SlotId) (n : Notice) : (s.notify i n).cu = s.cu := rfl
@[simp] theorem State.notify_eu (s : State) (i : SlotId) (n : Notice) : (s.notify i n).eu = s.eu := rfl
@[simp] theorem State.notify_wu (s : State) (i : SlotId) (n : Notice) : (s.notify i n).wu = s.wu := rfl
@[simp] theorem State.notify_hp (s : State) (i : SlotId) (n : Notice) : (s.notify i n).hp = s.hp := rfl
@[simp] theorem State.notify_freeIndex (s : State) (i : SlotId) (n : Notice) : (s.notify i n).freeIndex = s.freeIndex := rfl

/-! `enter` changes the slot state. -/

@[simp] theorem State.enter_pending (s : State) (i : SlotId) (st : SlotState) : (s.enter i st).pending = s.pending := rfl
@[simp] theorem State.enter_resetLow (s : State) (i : SlotId) (st : SlotState) : (s.enter i st).resetLow = s.resetLow := rfl
@[simp] theorem State.enter_inputs (s : State) (i : SlotId) (st : SlotState) : (s.enter i st).inputs = s.inputs := rfl
@[simp] theorem State.enter_links (s : State) (i : SlotId) (st : SlotState) : (s.enter i st).links = s.links := rfl
@[simp] theorem State.enter_ae (s : State) (i : SlotId) (st : SlotState) : (s.enter i st).ae = s.ae := rfl
@[simp] theorem State.enter_cu (s : State) (i : SlotId) (st : SlotState) : (s.enter i st).cu = s.cu := rfl
@[simp] theorem State.enter_eu (s : State) (i : SlotId) (st : SlotState) : (s.enter i st).eu = s.eu := rfl
@[simp] theorem State.enter_wu (s : State) (i : SlotId) (st : SlotState) : (s.enter i st).wu = s.wu := rfl
@[simp] theorem State.enter_hp (s : State) (i : SlotId) (st : SlotState) : (s.enter i st).hp = s.hp := rfl
@[simp] theorem State.enter_freeIndex (s : State) (i : SlotId) (st : SlotState) : (s.enter i st).freeIndex = s.freeIndex := rfl

/-! `discard` discards the lists. -/

@[simp] theorem State.discard_pending (s : State) (i : SlotId) : (s.discard i).pending = s.pending := rfl
@[simp] theorem State.discard_resetLow (s : State) (i : SlotId) : (s.discard i).resetLow = s.resetLow := rfl
@[simp] theorem State.discard_inputs (s : State) (i : SlotId) : (s.discard i).inputs = s.inputs := rfl
@[simp] theorem State.discard_links (s : State) (i : SlotId) : (s.discard i).links = s.links := rfl
@[simp] theorem State.discard_ae (s : State) (i : SlotId) : (s.discard i).ae = s.ae := rfl
@[simp] theorem State.discard_cu (s : State) (i : SlotId) : (s.discard i).cu = s.cu := rfl
@[simp] theorem State.discard_eu (s : State) (i : SlotId) : (s.discard i).eu = s.eu := rfl
@[simp] theorem State.discard_wu (s : State) (i : SlotId) : (s.discard i).wu = s.wu := rfl
@[simp] theorem State.discard_hp (s : State) (i : SlotId) : (s.discard i).hp = s.hp := rfl
@[simp] theorem State.discard_freeIndex (s : State) (i : SlotId) : (s.discard i).freeIndex = s.freeIndex := rfl

/-! `makeCurrent` makes a list current. -/

@[simp] theorem State.makeCurrent_pending (s : State) (i : SlotId) (l : DemandList) : (s.makeCurrent i l).pending = s.pending := rfl
@[simp] theorem State.makeCurrent_resetLow (s : State) (i : SlotId) (l : DemandList) : (s.makeCurrent i l).resetLow = s.resetLow := rfl
@[simp] theorem State.makeCurrent_inputs (s : State) (i : SlotId) (l : DemandList) : (s.makeCurrent i l).inputs = s.inputs := rfl
@[simp] theorem State.makeCurrent_links (s : State) (i : SlotId) (l : DemandList) : (s.makeCurrent i l).links = s.links := rfl
@[simp] theorem State.makeCurrent_ae (s : State) (i : SlotId) (l : DemandList) : (s.makeCurrent i l).ae = s.ae := rfl
@[simp] theorem State.makeCurrent_cu (s : State) (i : SlotId) (l : DemandList) : (s.makeCurrent i l).cu = s.cu := rfl
@[simp] theorem State.makeCurrent_eu (s : State) (i : SlotId) (l : DemandList) : (s.makeCurrent i l).eu = s.eu := rfl
@[simp] theorem State.makeCurrent_wu (s : State) (i : SlotId) (l : DemandList) : (s.makeCurrent i l).wu = s.wu := rfl
@[simp] theorem State.makeCurrent_hp (s : State) (i : SlotId) (l : DemandList) : (s.makeCurrent i l).hp = s.hp := rfl
@[simp] theorem State.makeCurrent_freeIndex (s : State) (i : SlotId) (l : DemandList) : (s.makeCurrent i l).freeIndex = s.freeIndex := rfl

/-! `leaveQueue` takes a slot from the queue. -/

@[simp] theorem State.leaveQueue_pending (s : State) (i : SlotId) : (s.leaveQueue i).pending = s.pending := rfl
@[simp] theorem State.leaveQueue_resetLow (s : State) (i : SlotId) : (s.leaveQueue i).resetLow = s.resetLow := rfl
@[simp] theorem State.leaveQueue_inputs (s : State) (i : SlotId) : (s.leaveQueue i).inputs = s.inputs := rfl
@[simp] theorem State.leaveQueue_slots (s : State) (i : SlotId) : (s.leaveQueue i).slots = s.slots := rfl
@[simp] theorem State.leaveQueue_links (s : State) (i : SlotId) : (s.leaveQueue i).links = s.links := rfl
@[simp] theorem State.leaveQueue_cu (s : State) (i : SlotId) : (s.leaveQueue i).cu = s.cu := rfl
@[simp] theorem State.leaveQueue_eu (s : State) (i : SlotId) : (s.leaveQueue i).eu = s.eu := rfl
@[simp] theorem State.leaveQueue_wu (s : State) (i : SlotId) : (s.leaveQueue i).wu = s.wu := rfl
@[simp] theorem State.leaveQueue_hp (s : State) (i : SlotId) : (s.leaveQueue i).hp = s.hp := rfl
@[simp] theorem State.leaveQueue_freeIndex (s : State) (i : SlotId) : (s.leaveQueue i).freeIndex = s.freeIndex := rfl

/-! `linkRequest` asks the LE for an OFFER or REDUCE. -/

@[simp] theorem State.linkRequest_pending (s : State) (i : SlotId) (f : Frame) : (s.linkRequest i f).pending = s.pending := rfl
@[simp] theorem State.linkRequest_resetLow (s : State) (i : SlotId) (f : Frame) : (s.linkRequest i f).resetLow = s.resetLow := rfl
@[simp] theorem State.linkRequest_inputs (s : State) (i : SlotId) (f : Frame) : (s.linkRequest i f).inputs = s.inputs := rfl
@[simp] theorem State.linkRequest_slots (s : State) (i : SlotId) (f : Frame) : (s.linkRequest i f).slots = s.slots := rfl
@[simp] theorem State.linkRequest_ae (s : State) (i : SlotId) (f : Frame) : (s.linkRequest i f).ae = s.ae := rfl
@[simp] theorem State.linkRequest_cu (s : State) (i : SlotId) (f : Frame) : (s.linkRequest i f).cu = s.cu := rfl
@[simp] theorem State.linkRequest_eu (s : State) (i : SlotId) (f : Frame) : (s.linkRequest i f).eu = s.eu := rfl
@[simp] theorem State.linkRequest_wu (s : State) (i : SlotId) (f : Frame) : (s.linkRequest i f).wu = s.wu := rfl
@[simp] theorem State.linkRequest_hp (s : State) (i : SlotId) (f : Frame) : (s.linkRequest i f).hp = s.hp := rfl
@[simp] theorem State.linkRequest_freeIndex (s : State) (i : SlotId) (f : Frame) : (s.linkRequest i f).freeIndex = s.freeIndex := rfl

/-! `linkQuery` asks the LE for a QUERY. -/

@[simp] theorem State.linkQuery_pending (s : State) (i : SlotId) : (s.linkQuery i).pending = s.pending := rfl
@[simp] theorem State.linkQuery_resetLow (s : State) (i : SlotId) : (s.linkQuery i).resetLow = s.resetLow := rfl
@[simp] theorem State.linkQuery_inputs (s : State) (i : SlotId) : (s.linkQuery i).inputs = s.inputs := rfl
@[simp] theorem State.linkQuery_slots (s : State) (i : SlotId) : (s.linkQuery i).slots = s.slots := rfl
@[simp] theorem State.linkQuery_ae (s : State) (i : SlotId) : (s.linkQuery i).ae = s.ae := rfl
@[simp] theorem State.linkQuery_cu (s : State) (i : SlotId) : (s.linkQuery i).cu = s.cu := rfl
@[simp] theorem State.linkQuery_eu (s : State) (i : SlotId) : (s.linkQuery i).eu = s.eu := rfl
@[simp] theorem State.linkQuery_wu (s : State) (i : SlotId) : (s.linkQuery i).wu = s.wu := rfl
@[simp] theorem State.linkQuery_hp (s : State) (i : SlotId) : (s.linkQuery i).hp = s.hp := rfl
@[simp] theorem State.linkQuery_freeIndex (s : State) (i : SlotId) : (s.linkQuery i).freeIndex = s.freeIndex := rfl

/-! `linkWithdraw` withdraws what the LE holds. -/

@[simp] theorem State.linkWithdraw_pending (s : State) (i : SlotId) : (s.linkWithdraw i).pending = s.pending := rfl
@[simp] theorem State.linkWithdraw_resetLow (s : State) (i : SlotId) : (s.linkWithdraw i).resetLow = s.resetLow := rfl
@[simp] theorem State.linkWithdraw_inputs (s : State) (i : SlotId) : (s.linkWithdraw i).inputs = s.inputs := rfl
@[simp] theorem State.linkWithdraw_slots (s : State) (i : SlotId) : (s.linkWithdraw i).slots = s.slots := rfl
@[simp] theorem State.linkWithdraw_ae (s : State) (i : SlotId) : (s.linkWithdraw i).ae = s.ae := rfl
@[simp] theorem State.linkWithdraw_cu (s : State) (i : SlotId) : (s.linkWithdraw i).cu = s.cu := rfl
@[simp] theorem State.linkWithdraw_eu (s : State) (i : SlotId) : (s.linkWithdraw i).eu = s.eu := rfl
@[simp] theorem State.linkWithdraw_wu (s : State) (i : SlotId) : (s.linkWithdraw i).wu = s.wu := rfl
@[simp] theorem State.linkWithdraw_hp (s : State) (i : SlotId) : (s.linkWithdraw i).hp = s.hp := rfl
@[simp] theorem State.linkWithdraw_freeIndex (s : State) (i : SlotId) : (s.linkWithdraw i).freeIndex = s.freeIndex := rfl

/-! `linkAsk` asks the LE for a frame without turn. -/

@[simp] theorem State.linkAsk_pending (s : State) (i : SlotId) (k : NoTurn) : (s.linkAsk i k).pending = s.pending := rfl
@[simp] theorem State.linkAsk_resetLow (s : State) (i : SlotId) (k : NoTurn) : (s.linkAsk i k).resetLow = s.resetLow := rfl
@[simp] theorem State.linkAsk_inputs (s : State) (i : SlotId) (k : NoTurn) : (s.linkAsk i k).inputs = s.inputs := rfl
@[simp] theorem State.linkAsk_slots (s : State) (i : SlotId) (k : NoTurn) : (s.linkAsk i k).slots = s.slots := rfl
@[simp] theorem State.linkAsk_ae (s : State) (i : SlotId) (k : NoTurn) : (s.linkAsk i k).ae = s.ae := rfl
@[simp] theorem State.linkAsk_cu (s : State) (i : SlotId) (k : NoTurn) : (s.linkAsk i k).cu = s.cu := rfl
@[simp] theorem State.linkAsk_eu (s : State) (i : SlotId) (k : NoTurn) : (s.linkAsk i k).eu = s.eu := rfl
@[simp] theorem State.linkAsk_wu (s : State) (i : SlotId) (k : NoTurn) : (s.linkAsk i k).wu = s.wu := rfl
@[simp] theorem State.linkAsk_hp (s : State) (i : SlotId) (k : NoTurn) : (s.linkAsk i k).hp = s.hp := rfl
@[simp] theorem State.linkAsk_freeIndex (s : State) (i : SlotId) (k : NoTurn) : (s.linkAsk i k).freeIndex = s.freeIndex := rfl

/-! `joinTail` moves a slot to the tail of the grant order list. -/

@[simp] theorem State.joinTail_pending (s : State) (i : SlotId) : (s.joinTail i).pending = s.pending := rfl
@[simp] theorem State.joinTail_resetLow (s : State) (i : SlotId) : (s.joinTail i).resetLow = s.resetLow := rfl
@[simp] theorem State.joinTail_inputs (s : State) (i : SlotId) : (s.joinTail i).inputs = s.inputs := rfl
@[simp] theorem State.joinTail_slots (s : State) (i : SlotId) : (s.joinTail i).slots = s.slots := rfl
@[simp] theorem State.joinTail_links (s : State) (i : SlotId) : (s.joinTail i).links = s.links := rfl
@[simp] theorem State.joinTail_cu (s : State) (i : SlotId) : (s.joinTail i).cu = s.cu := rfl
@[simp] theorem State.joinTail_eu (s : State) (i : SlotId) : (s.joinTail i).eu = s.eu := rfl
@[simp] theorem State.joinTail_wu (s : State) (i : SlotId) : (s.joinTail i).wu = s.wu := rfl
@[simp] theorem State.joinTail_hp (s : State) (i : SlotId) : (s.joinTail i).hp = s.hp := rfl
@[simp] theorem State.joinTail_freeIndex (s : State) (i : SlotId) : (s.joinTail i).freeIndex = s.freeIndex := rfl

/-! `judgeNotice` updates the victims' outcomes. -/

@[simp] theorem State.judgeNotice_pending (s : State) (i : SlotId) (n : Notice) (c : Nat) : (s.judgeNotice i n c).pending = s.pending := rfl
@[simp] theorem State.judgeNotice_resetLow (s : State) (i : SlotId) (n : Notice) (c : Nat) : (s.judgeNotice i n c).resetLow = s.resetLow := rfl
@[simp] theorem State.judgeNotice_inputs (s : State) (i : SlotId) (n : Notice) (c : Nat) : (s.judgeNotice i n c).inputs = s.inputs := rfl
@[simp] theorem State.judgeNotice_slots (s : State) (i : SlotId) (n : Notice) (c : Nat) : (s.judgeNotice i n c).slots = s.slots := rfl
@[simp] theorem State.judgeNotice_links (s : State) (i : SlotId) (n : Notice) (c : Nat) : (s.judgeNotice i n c).links = s.links := rfl
@[simp] theorem State.judgeNotice_cu (s : State) (i : SlotId) (n : Notice) (c : Nat) : (s.judgeNotice i n c).cu = s.cu := rfl
@[simp] theorem State.judgeNotice_eu (s : State) (i : SlotId) (n : Notice) (c : Nat) : (s.judgeNotice i n c).eu = s.eu := rfl
@[simp] theorem State.judgeNotice_wu (s : State) (i : SlotId) (n : Notice) (c : Nat) : (s.judgeNotice i n c).wu = s.wu := rfl
@[simp] theorem State.judgeNotice_hp (s : State) (i : SlotId) (n : Notice) (c : Nat) : (s.judgeNotice i n c).hp = s.hp := rfl
@[simp] theorem State.judgeNotice_freeIndex (s : State) (i : SlotId) (n : Notice) (c : Nat) : (s.judgeNotice i n c).freeIndex = s.freeIndex := rfl

/-! `sampled` records the levels of one sample. -/

@[simp] theorem SlotRec.sampled_state (r : SlotRec) (presN pg fltN : Option Bool) :
    (r.sampled presN pg fltN).state = r.state := rfl
@[simp] theorem SlotRec.sampled_cause (r : SlotRec) (presN pg fltN : Option Bool) :
    (r.sampled presN pg fltN).cause = r.cause := rfl
@[simp] theorem SlotRec.sampled_strikes (r : SlotRec) (presN pg fltN : Option Bool) :
    (r.sampled presN pg fltN).strikes = r.strikes := rfl
@[simp] theorem SlotRec.sampled_en (r : SlotRec) (presN pg fltN : Option Bool) :
    (r.sampled presN pg fltN).en = r.en := rfl
@[simp] theorem SlotRec.sampled_current (r : SlotRec) (presN pg fltN : Option Bool) :
    (r.sampled presN pg fltN).current = r.current := rfl
@[simp] theorem SlotRec.sampled_arriving (r : SlotRec) (presN pg fltN : Option Bool) :
    (r.sampled presN pg fltN).arriving = r.arriving := rfl
@[simp] theorem SlotRec.sampled_restated (r : SlotRec) (presN pg fltN : Option Bool) :
    (r.sampled presN pg fltN).restated = r.restated := rfl
@[simp] theorem SlotRec.sampled_granted (r : SlotRec) (presN pg fltN : Option Bool) :
    (r.sampled presN pg fltN).granted = r.granted := rfl
@[simp] theorem SlotRec.sampled_effClass (r : SlotRec) (presN pg fltN : Option Bool) :
    (r.sampled presN pg fltN).effClass = r.effClass := rfl
@[simp] theorem SlotRec.sampled_timers (r : SlotRec) (presN pg fltN : Option Bool) :
    (r.sampled presN pg fltN).timers = r.timers := rfl
@[simp] theorem SlotRec.sampled_offered (r : SlotRec) (presN pg fltN : Option Bool) :
    (r.sampled presN pg fltN).offered = r.offered := rfl
@[simp] theorem SlotRec.sampled_reduction (r : SlotRec) (presN pg fltN : Option Bool) :
    (r.sampled presN pg fltN).reduction = r.reduction := rfl
@[simp] theorem SlotRec.sampled_owed (r : SlotRec) (presN pg fltN : Option Bool) :
    (r.sampled presN pg fltN).owed = r.owed := rfl
@[simp] theorem SlotRec.sampled_watch (r : SlotRec) (presN pg fltN : Option Bool) :
    (r.sampled presN pg fltN).watch = r.watch := rfl
@[simp] theorem SlotRec.sampled_outbox (r : SlotRec) (presN pg fltN : Option Bool) :
    (r.sampled presN pg fltN).outbox = r.outbox := rfl
@[simp] theorem SlotRec.sampled_mapRequests (r : SlotRec) (presN pg fltN : Option Bool) :
    (r.sampled presN pg fltN).mapRequests = r.mapRequests := rfl

/-! The fields an update does change. -/

@[simp] theorem State.modSlot_slots (s : State) (i : SlotId) (f : SlotRec → SlotRec) :
    (s.modSlot i f).slots = updateAt s.slots i f := rfl
@[simp] theorem State.modLink_links (s : State) (i : SlotId) (f : LinkRec → LinkRec) :
    (s.modLink i f).links = updateAt s.links i f := rfl
@[simp] theorem State.modEntry_entries (s : State) (i : SlotId) (f : AeSlot → AeSlot) :
    (s.modEntry i f).ae.slots = updateAt s.ae.slots i f := rfl
@[simp] theorem State.event_eu (s : State) (k : EventKind) (i : Option SlotId) (a b : Nat) :
    (s.event k i a b).eu = s.eu.append k i (byteOf a) (BitVec.ofNat 16 b) := rfl
@[simp] theorem State.elapse_queue (s : State) : s.elapse.eu.queue = s.eu.queue := rfl
@[simp] theorem State.elapse_nextSeq (s : State) : s.elapse.eu.nextSeq = s.eu.nextSeq := rfl
@[simp] theorem State.elapse_intStatus (s : State) : s.elapse.eu.intStatus = s.eu.intStatus := rfl
@[simp] theorem State.elapse_intEnable (s : State) : s.elapse.eu.intEnable = s.eu.intEnable := rfl
@[simp] theorem State.elapse_freeIndex (s : State) : s.elapse.freeIndex = s.freeIndex + 1 := rfl

/-! The account's other fields where one entry changes. -/

@[simp] theorem State.modEntry_budget (s : State) (i : SlotId) (f : AeSlot → AeSlot) :
    (s.modEntry i f).ae.budget = s.ae.budget := rfl
@[simp] theorem State.modEntry_reserve (s : State) (i : SlotId) (f : AeSlot → AeSlot) :
    (s.modEntry i f).ae.reserve = s.ae.reserve := rfl
@[simp] theorem State.modEntry_derated (s : State) (i : SlotId) (f : AeSlot → AeSlot) :
    (s.modEntry i f).ae.derated = s.ae.derated := rfl
@[simp] theorem State.modEntry_derateN (s : State) (i : SlotId) (f : AeSlot → AeSlot) :
    (s.modEntry i f).ae.derateN = s.ae.derateN := rfl
@[simp] theorem State.modEntry_hold (s : State) (i : SlotId) (f : AeSlot → AeSlot) :
    (s.modEntry i f).ae.hold = s.ae.hold := rfl
@[simp] theorem State.modEntry_excess (s : State) (i : SlotId) (f : AeSlot → AeSlot) :
    (s.modEntry i f).ae.excess = s.ae.excess := rfl
@[simp] theorem State.modEntry_entryOrder (s : State) (i : SlotId) (f : AeSlot → AeSlot) :
    (s.modEntry i f).ae.entryOrder = s.ae.entryOrder := rfl
@[simp] theorem State.modEntry_grantOrder (s : State) (i : SlotId) (f : AeSlot → AeSlot) :
    (s.modEntry i f).ae.grantOrder = s.ae.grantOrder := rfl
@[simp] theorem State.modEntry_reclaim (s : State) (i : SlotId) (f : AeSlot → AeSlot) :
    (s.modEntry i f).ae.reclaim = s.ae.reclaim := rfl
@[simp] theorem State.modEntry_resyncActive (s : State) (i : SlotId) (f : AeSlot → AeSlot) :
    (s.modEntry i f).ae.resyncActive = s.ae.resyncActive := rfl
@[simp] theorem State.modEntry_resyncPowered (s : State) (i : SlotId) (f : AeSlot → AeSlot) :
    (s.modEntry i f).ae.resyncPowered = s.ae.resyncPowered := rfl

end Sys2Proof.Machine
end

