-- ==== Sys2Proof/Laws/Ops.lean ====
section
/-! SUPPORT. What the named operations of Machine/Ops.lean do, once for each: reading after changing an entry, events,
passing time and happenings. -/

namespace Sys2Proof.Machine

/-! ### Reading after changing an entry -/

@[simp] theorem updateAt_same {α : Type} (v : Slots α) (i : SlotId) (f : α → α) :
    (updateAt v i f)[i.val] = f v[i.val] := by simp [updateAt]

theorem updateAt_other {α : Type} (v : Slots α) {i j : SlotId} (f : α → α) (h : j ≠ i) :
    (updateAt v i f)[j.val] = v[j.val] := by
  simp [updateAt, Fin.val_ne_of_ne (Ne.symm h)]

@[simp] theorem slot_modSlot_same (s : State) (i : SlotId) (f : SlotRec → SlotRec) :
    (s.modSlot i f).slot i = f (s.slot i) := by simp [State.slot]

theorem slot_modSlot_other (s : State) {i j : SlotId} (f : SlotRec → SlotRec) (h : j ≠ i) :
    (s.modSlot i f).slot j = s.slot j := by simp [State.slot, updateAt_other _ _ h]

theorem slot_modSlot (s : State) (i j : SlotId) (f : SlotRec → SlotRec) :
    (s.modSlot i f).slot j = if j = i then f (s.slot j) else s.slot j := by
  by_cases h : j = i
  · subst h; simp
  · simp [h, slot_modSlot_other]

@[simp] theorem link_modLink_same (s : State) (i : SlotId) (f : LinkRec → LinkRec) :
    (s.modLink i f).link i = f (s.link i) := by simp [State.link]

theorem link_modLink_other (s : State) {i j : SlotId} (f : LinkRec → LinkRec) (h : j ≠ i) :
    (s.modLink i f).link j = s.link j := by simp [State.link, updateAt_other _ _ h]

theorem link_modLink (s : State) (i j : SlotId) (f : LinkRec → LinkRec) :
    (s.modLink i f).link j = if j = i then f (s.link j) else s.link j := by
  by_cases h : j = i
  · subst h; simp
  · simp [h, link_modLink_other]

@[simp] theorem entry_modEntry_same (s : State) (i : SlotId) (f : AeSlot → AeSlot) :
    (s.modEntry i f).entry i = f (s.entry i) := by simp [State.entry]

theorem entry_modEntry_other (s : State) {i j : SlotId} (f : AeSlot → AeSlot) (h : j ≠ i) :
    (s.modEntry i f).entry j = s.entry j := by simp [State.entry, updateAt_other _ _ h]

theorem entry_modEntry (s : State) (i j : SlotId) (f : AeSlot → AeSlot) :
    (s.modEntry i f).entry j = if j = i then f (s.entry j) else s.entry j := by
  by_cases h : j = i
  · subst h; simp
  · simp [h, entry_modEntry_other]

@[simp] theorem cmd_modCmd_same (s : State) (t : Fin 4) (f : CmdSlot → CmdSlot) :
    (s.modCmd t f).cmd t = f (s.cmd t) := by simp [State.cmd, State.modCmd]

theorem cmd_modCmd_other (s : State) {t u : Fin 4} (f : CmdSlot → CmdSlot) (h : u ≠ t) :
    (s.modCmd t f).cmd u = s.cmd u := by
  simp [State.cmd, State.modCmd, Fin.val_ne_of_ne (Ne.symm h)]

/-! ### Records read through the other updates -/

@[simp] theorem slot_modLink (s : State) (i j : SlotId) (f : LinkRec → LinkRec) :
    (s.modLink i f).slot j = s.slot j := rfl
@[simp] theorem slot_modEntry (s : State) (i j : SlotId) (f : AeSlot → AeSlot) :
    (s.modEntry i f).slot j = s.slot j := rfl
@[simp] theorem slot_event (s : State) (k : EventKind) (o : Option SlotId) (a b : Nat) (j : SlotId) :
    (s.event k o a b).slot j = s.slot j := rfl
@[simp] theorem slot_elapse (s : State) (j : SlotId) : s.elapse.slot j = s.slot j := rfl
@[simp] theorem slot_leaveQueue (s : State) (i j : SlotId) : (s.leaveQueue i).slot j = s.slot j := rfl
@[simp] theorem link_modSlot (s : State) (i j : SlotId) (f : SlotRec → SlotRec) :
    (s.modSlot i f).link j = s.link j := rfl
@[simp] theorem link_modEntry (s : State) (i j : SlotId) (f : AeSlot → AeSlot) :
    (s.modEntry i f).link j = s.link j := rfl
@[simp] theorem link_event (s : State) (k : EventKind) (o : Option SlotId) (a b : Nat) (j : SlotId) :
    (s.event k o a b).link j = s.link j := rfl
@[simp] theorem link_elapse (s : State) (j : SlotId) : s.elapse.link j = s.link j := rfl
@[simp] theorem link_leaveQueue (s : State) (i j : SlotId) : (s.leaveQueue i).link j = s.link j := rfl
@[simp] theorem entry_modSlot (s : State) (i j : SlotId) (f : SlotRec → SlotRec) :
    (s.modSlot i f).entry j = s.entry j := rfl
@[simp] theorem entry_modLink (s : State) (i j : SlotId) (f : LinkRec → LinkRec) :
    (s.modLink i f).entry j = s.entry j := rfl
@[simp] theorem entry_event (s : State) (k : EventKind) (o : Option SlotId) (a b : Nat) (j : SlotId) :
    (s.event k o a b).entry j = s.entry j := rfl
@[simp] theorem entry_elapse (s : State) (j : SlotId) : s.elapse.entry j = s.entry j := rfl
@[simp] theorem policy_modSlot (s : State) (i j : SlotId) (f : SlotRec → SlotRec) :
    (s.modSlot i f).policy j = s.policy j := rfl
@[simp] theorem policy_modLink (s : State) (i j : SlotId) (f : LinkRec → LinkRec) :
    (s.modLink i f).policy j = s.policy j := rfl
@[simp] theorem policy_modEntry (s : State) (i j : SlotId) (f : AeSlot → AeSlot) :
    (s.modEntry i f).policy j = s.policy j := rfl
@[simp] theorem policy_event (s : State) (k : EventKind) (o : Option SlotId) (a b : Nat) (j : SlotId) :
    (s.event k o a b).policy j = s.policy j := rfl
@[simp] theorem policy_elapse (s : State) (j : SlotId) : s.elapse.policy j = s.policy j := rfl
@[simp] theorem cmd_modSlot (s : State) (i : SlotId) (f : SlotRec → SlotRec) (t : Fin 4) :
    (s.modSlot i f).cmd t = s.cmd t := rfl
@[simp] theorem cmd_event (s : State) (k : EventKind) (o : Option SlotId) (a b : Nat) (t : Fin 4) :
    (s.event k o a b).cmd t = s.cmd t := rfl
@[simp] theorem cmd_elapse (s : State) (t : Fin 4) : s.elapse.cmd t = s.cmd t := rfl

/-! ### Happenings -/

/-- A happening of the running part answers the state its effect makes, time having passed. -/
theorem happening_running {s : State} (f : State → State) (h : s.resetLow = false) :
    happening f s = .next (f s.elapse) := by simp [happening, h]

/-- While RESET_N is low a happening changes nothing. -/
theorem happening_low {s : State} (f : State → State) (h : s.resetLow = true) : happening f s = .next s := by
  simp [happening, h]

/-- What holds of a state and of everything an effect makes of it, holds after the happening. -/
theorem happening_cases {P : State → Prop} {f : State → State} {s t : State} (h : happening f s = .next t)
    (rest : P s) (effect : s.resetLow = false → P (f s.elapse)) : P t := by
  cases hs : s.resetLow with
  | true => rw [happening_low f hs] at h; cases h; exact rest
  | false => rw [happening_running f hs] at h; cases h; exact effect hs

/-! ### Appending -/

/-- An append leaves the time and the enables, and moves the queue and INT_STATUS only. -/
theorem Eu.append_frame (e : Eu) (k : EventKind) (o : Option SlotId) (a : Byte) (b : Half) :
    (e.append k o a b).timeMs = e.timeMs ∧ (e.append k o a b).intEnable = e.intEnable := by
  unfold Eu.append Eu.keep Eu.raiseBits
  split
  · exact ⟨rfl, rfl⟩
  · dsimp only
    split
    · split
      · exact ⟨rfl, rfl⟩
      · split <;> exact ⟨rfl, rfl⟩
    · exact ⟨rfl, rfl⟩

end Sys2Proof.Machine
end

