-- ==== Sys2Proof/Laws/Account.lean ====
section
/-! SUPPORT. The account (chapter 1): committed after a change of one claim, what evaluating the excess condition does,
and the orders derived from the grant order list. -/

namespace Sys2Proof.Machine

/-! ### Committed -/

theorem sum_set {l : List Nat} {k : Nat} (h : k < l.length) (v : Nat) : (l.set k v).sum + l[k] = l.sum + v := by
  induction l generalizing k with
  | nil => simp at h
  | cons a l ih =>
    cases k with
    | zero => simp; omega
    | succ k =>
      have := ih (by simpa using h : k < l.length)
      simp only [List.set_cons_succ, List.sum_cons, List.getElem_cons_succ]
      omega

/-- One claim changed moves committed by the change. -/
theorem committed_modEntry (s : State) (i : SlotId) (f : AeSlot → AeSlot) :
    (s.modEntry i f).ae.committed + (s.entry i).claim = s.ae.committed + (f (s.entry i)).claim := by
  have hk : i.val < (s.ae.slots.toList.map AeSlot.claim).length := by simp
  have := sum_set hk (f (s.entry i)).claim
  simp only [List.getElem_map, Vector.getElem_toList] at this
  simpa [Ae.committed, updateAt, State.entry, Vector.toList_set, List.map_set] using this

/-- A change that keeps the claim keeps committed. -/
theorem committed_modEntry_keep (s : State) (i : SlotId) (f : AeSlot → AeSlot)
    (h : (f (s.entry i)).claim = (s.entry i).claim) : (s.modEntry i f).ae.committed = s.ae.committed := by
  have := committed_modEntry s i f
  omega

@[simp] theorem effective_modEntry (s : State) (i : SlotId) (f : AeSlot → AeSlot) :
    (s.modEntry i f).ae.effective = s.ae.effective := rfl

/-! ### The excess condition -/

/-- Evaluating excess changes the kept condition and the events alone. -/
theorem evalExcess_ae (s : State) :
    s.evalExcess.ae = { s.ae with excess := decide (s.ae.effective < s.ae.committed) } := by
  unfold State.evalExcess
  dsimp only
  split
  · rename_i h
    split
    · rename_i e; simp [h, ← e]
    · simp [h]
  · rename_i h
    split
    · simp [h]
    · rename_i e
      have e' : s.ae.excess = false := by simpa using e
      simp [h, ← e']

/-- After an evaluation the kept condition is committed > EB. -/
theorem evalExcess_right (s : State) : s.evalExcess.excessRight := by
  unfold State.excessRight
  rw [evalExcess_ae]
  rfl

@[simp] theorem evalExcess_slots (s : State) : s.evalExcess.slots = s.slots := by
  unfold State.evalExcess; dsimp only; split <;> split <;> rfl
@[simp] theorem evalExcess_links (s : State) : s.evalExcess.links = s.links := by
  unfold State.evalExcess; dsimp only; split <;> split <;> rfl
@[simp] theorem evalExcess_cu (s : State) : s.evalExcess.cu = s.cu := by
  unfold State.evalExcess; dsimp only; split <;> split <;> rfl
@[simp] theorem evalExcess_wu (s : State) : s.evalExcess.wu = s.wu := by
  unfold State.evalExcess; dsimp only; split <;> split <;> rfl
@[simp] theorem evalExcess_hp (s : State) : s.evalExcess.hp = s.hp := by
  unfold State.evalExcess; dsimp only; split <;> split <;> rfl
@[simp] theorem evalExcess_inputs (s : State) : s.evalExcess.inputs = s.inputs := by
  unfold State.evalExcess; dsimp only; split <;> split <;> rfl
@[simp] theorem evalExcess_pending (s : State) : s.evalExcess.pending = s.pending := by
  unfold State.evalExcess; dsimp only; split <;> split <;> rfl
@[simp] theorem evalExcess_resetLow (s : State) : s.evalExcess.resetLow = s.resetLow := by
  unfold State.evalExcess; dsimp only; split <;> split <;> rfl
@[simp] theorem evalExcess_freeIndex (s : State) : s.evalExcess.freeIndex = s.freeIndex := by
  unfold State.evalExcess; dsimp only; split <;> split <;> rfl

/-- With the kept condition right, an evaluation of an unchanged account changes nothing. -/
theorem evalExcess_idle {s : State} (h : s.excessRight) : s.evalExcess = s := by
  unfold State.excessRight at h
  unfold State.evalExcess
  dsimp only
  split <;> rename_i hc <;> simp [hc] at h <;> simp [h]

/-! ### Orders -/

/-- A slot whose claim is 0 takes no place in the grant order list. -/
theorem joinGrants_free {s : State} {i : SlotId} (place : List SlotId → List SlotId) (h : (s.entry i).claim = 0) :
    s.joinGrants i place = s := by
  simp [State.joinGrants, h]

/-- A slot with a claim takes the place given among the others. -/
theorem joinGrants_claimed {s : State} {i : SlotId} (place : List SlotId → List SlotId) (h : (s.entry i).claim ≠ 0) :
    (s.joinGrants i place).ae.grantOrder = place (s.ae.grantOrder.filter (· != i)) := by
  simp [State.joinGrants, h]

theorem mem_insertBySlot {i j : SlotId} {l : List SlotId} : j ∈ insertBySlot i l ↔ j = i ∨ j ∈ l := by
  induction l with
  | nil => simp [insertBySlot]
  | cons k l ih =>
    unfold insertBySlot
    split
    · simp only [List.mem_cons, ih]; tauto
    · simp

theorem nodup_insertBySlot {i : SlotId} {l : List SlotId} (hi : i ∉ l) (h : l.Nodup) : (insertBySlot i l).Nodup := by
  induction l with
  | nil => simp [insertBySlot]
  | cons k l ih =>
    unfold insertBySlot
    simp only [List.mem_cons, not_or, List.nodup_cons] at hi h
    split
    · exact List.nodup_cons.mpr ⟨by simp [mem_insertBySlot, h.1, Ne.symm hi.1], ih hi.2 h.2⟩
    · exact List.nodup_cons.mpr ⟨by simp [hi.1, hi.2], List.nodup_cons.mpr h⟩

theorem mem_shedding {s : State} {i : SlotId} (h : i ∈ s.shedding) : i ∈ s.ae.grantOrder := by
  simp only [State.shedding, State.ofClass, List.mem_flatMap, List.mem_filter, List.mem_reverse] at h
  obtain ⟨_, _, h, _⟩ := h
  exact h

theorem mem_raiseOrder {s : State} {i : SlotId} (h : i ∈ s.raiseOrder) : i ∈ s.ae.grantOrder := by
  simp only [State.raiseOrder, State.ofClass, List.mem_flatMap, List.mem_filter] at h
  obtain ⟨_, _, h, _⟩ := h
  exact h

theorem mem_queue {s : State} {i : SlotId} (h : i ∈ s.queue) : i ∈ s.ae.entryOrder := by
  simp only [State.queue, State.ofClass, List.mem_flatMap, List.mem_filter] at h
  obtain ⟨_, _, h, _⟩ := h
  exact h

/-- The first point found satisfies the test and is one of the list's. -/
theorem firstPoint_spec {p : Point → Bool} {l : List Point} {k n : Nat} {x : Point}
    (h : firstPoint p k l = some (n, x)) : x ∈ l ∧ p x = true ∧ k ≤ n ∧ l[n - k]? = some x := by
  induction l generalizing k with
  | nil => simp [firstPoint] at h
  | cons a l ih =>
    unfold firstPoint at h
    split at h
    · cases h; simpa using ‹_›
    · obtain ⟨h1, h2, h3, h4⟩ := ih h
      refine ⟨.tail _ h1, h2, by omega, ?_⟩
      rw [show n - k = (n - (k + 1)) + 1 by omega]
      simpa using h4

/-- The highest fitting point is available and within the limit. -/
theorem highestWithin_spec {l : DemandList} {limit n : Nat} {x : Point} (h : l.highestWithin limit = some (n, x)) :
    x ∈ l.points ∧ x.avail = true ∧ x.power ≤ limit := by
  obtain ⟨h1, h2, _, _⟩ := firstPoint_spec h
  simp only [Bool.and_eq_true, decide_eq_true_eq] at h2
  exact ⟨h1, h2⟩

/-- A raise point is available, above the one and within the other. -/
theorem highestBetween_spec {l : DemandList} {low high n : Nat} {x : Point}
    (h : l.highestBetween low high = some (n, x)) :
    x ∈ l.points ∧ x.avail = true ∧ low < x.power ∧ x.power ≤ high := by
  obtain ⟨h1, h2, _, _⟩ := firstPoint_spec h
  simp only [Bool.and_eq_true, decide_eq_true_eq, and_assoc] at h2
  exact ⟨h1, h2⟩

/-- Available power never reaches past the budget left. -/
theorem available_le (s : State) (i : SlotId) : s.available i ≤ s.ae.effective - s.ae.committed := by
  unfold State.available
  omega

end Sys2Proof.Machine
end

