-- ==== Sys2Proof/Laws/Engine.lean ====
section
/-! SUPPORT. What every operation of the Allocation Engine leaves alone, once for each (`EngineFrame`): the host's blocks,
the inputs, RESET_N, the queue of commands and the model's counter. Every decision of the AE, and every notice it takes,
keeps it. -/

namespace Sys2Proof.Machine

/-- From `s` to `t` nothing changed but the slot records, the link records, the AE and the events. -/
def EngineFrame (s t : State) : Prop :=
  t.pending = s.pending ∧ t.resetLow = s.resetLow ∧ t.inputs = s.inputs ∧ t.cu = s.cu ∧ t.wu = s.wu ∧ t.hp = s.hp ∧
    t.freeIndex = s.freeIndex

@[simp] theorem EngineFrame.refl (s : State) : EngineFrame s s := by simp [EngineFrame]

theorem EngineFrame.trans {s t u : State} (h : EngineFrame s t) (k : EngineFrame t u) : EngineFrame s u := by
  obtain ⟨a, b, c, d, e, f, g⟩ := h
  obtain ⟨a', b', c', d', e', f', g'⟩ := k
  exact ⟨a'.trans a, b'.trans b, c'.trans c, d'.trans d, e'.trans e, f'.trans f, g'.trans g⟩

theorem EngineFrame.symm {s t : State} (h : EngineFrame s t) : EngineFrame t s := by
  obtain ⟨a, b, c, d, e, f, g⟩ := h
  exact ⟨a.symm, b.symm, c.symm, d.symm, e.symm, f.symm, g.symm⟩

/-- An operation that keeps the frame may be read away on the right of it. -/
theorem EngineFrame.iff_of {s t u : State} (h : EngineFrame t u) : EngineFrame s u ↔ EngineFrame s t :=
  ⟨fun k => k.trans h.symm, fun k => k.trans h⟩

/-- The host's blocks, read through a frame. -/
theorem EngineFrame.host {s t : State} (h : EngineFrame s t) : sameHost s t :=
  ⟨h.1, h.2.1, h.2.2.2.1, h.2.2.2.2.1, h.2.2.2.2.2.1⟩

@[simp] theorem EngineFrame.ite {s a b : State} {c : Prop} [Decidable c] :
    EngineFrame s (if c then a else b) ↔ if c then EngineFrame s a else EngineFrame s b := by
  split <;> rfl

/-- Visits that each keep the frame keep it together. -/
theorem EngineFrame.foldl {α : Type} {f : State → α → State} (h : ∀ s a, EngineFrame s (f s a)) (l : List α)
    (s : State) : EngineFrame s (l.foldl f s) := by
  induction l generalizing s with
  | nil => exact .refl s
  | cons a l ih => exact (h s a).trans (ih (f s a))

/-! ### The small updates -/

@[simp] theorem EngineFrame.modSlot_iff {s t : State} (i : SlotId) (f : SlotRec → SlotRec) :
    EngineFrame s (t.modSlot i f) ↔ EngineFrame s t := Iff.rfl
@[simp] theorem EngineFrame.modLink_iff {s t : State} (i : SlotId) (f : LinkRec → LinkRec) :
    EngineFrame s (t.modLink i f) ↔ EngineFrame s t := Iff.rfl
@[simp] theorem EngineFrame.modEntry_iff {s t : State} (i : SlotId) (f : AeSlot → AeSlot) :
    EngineFrame s (t.modEntry i f) ↔ EngineFrame s t := Iff.rfl
@[simp] theorem EngineFrame.event_iff {s t : State} (k : EventKind) (o : Option SlotId) (a b : Nat) :
    EngineFrame s (t.event k o a b) ↔ EngineFrame s t := Iff.rfl
@[simp] theorem EngineFrame.leaveQueue_iff {s t : State} (i : SlotId) :
    EngineFrame s (t.leaveQueue i) ↔ EngineFrame s t := Iff.rfl
@[simp] theorem EngineFrame.ae_iff {s t : State} (a : Ae) :
    EngineFrame s { t with ae := a } ↔ EngineFrame s t := Iff.rfl

/-! ### The operations of the Allocation Engine -/

@[simp] theorem EngineFrame.evalExcess_iff {s t : State} :
    EngineFrame s (t.evalExcess) ↔ EngineFrame s t := by
  unfold State.evalExcess
  dsimp only
  repeat' split
  all_goals exact Iff.rfl

@[simp] theorem EngineFrame.claimFor_iff {s t : State} (i : SlotId) (p : Nat) (m : Mark) :
    EngineFrame s (t.claimFor i p m) ↔ EngineFrame s t := by
  simp [State.claimFor]

@[simp] theorem EngineFrame.zeroClaim_iff {s t : State} (i : SlotId) :
    EngineFrame s (t.zeroClaim i) ↔ EngineFrame s t := Iff.rfl

@[simp] theorem EngineFrame.takeHolding_iff {s t : State} (i : SlotId) (h : Nat) :
    EngineFrame s (t.takeHolding i h) ↔ EngineFrame s t := by
  simp [State.takeHolding]

@[simp] theorem EngineFrame.takeAnswer_iff {s t : State} (i : SlotId) (h : Nat) :
    EngineFrame s (t.takeAnswer i h) ↔ EngineFrame s t := by
  simp [State.takeAnswer]

@[simp] theorem EngineFrame.joinTail_iff {s t : State} (i : SlotId) :
    EngineFrame s (t.joinTail i) ↔ EngineFrame s t := Iff.rfl

@[simp] theorem EngineFrame.joinBySlot_iff {s t : State} (i : SlotId) :
    EngineFrame s (t.joinBySlot i) ↔ EngineFrame s t := Iff.rfl

@[simp] theorem EngineFrame.joinQueue_iff {s t : State} (i : SlotId) :
    EngineFrame s (t.joinQueue i) ↔ EngineFrame s t := by
  exact Iff.rfl

@[simp] theorem EngineFrame.admitDemand_iff {s t : State} (i : SlotId) :
    EngineFrame s (t.admitDemand i) ↔ EngineFrame s t := by
  unfold State.admitDemand
  split <;> exact Iff.rfl

@[simp] theorem EngineFrame.admitKept_iff {s t : State} (i : SlotId) :
    EngineFrame s (t.admitKept i) ↔ EngineFrame s t := by
  simp [State.admitKept]

@[simp] theorem EngineFrame.followFloor_iff {s t : State} (i : SlotId) :
    EngineFrame s (t.followFloor i) ↔ EngineFrame s t := by
  unfold State.followFloor
  dsimp only
  repeat' split
  all_goals exact Iff.rfl

@[simp] theorem EngineFrame.judgeNotice_iff {s t : State} (i : SlotId) (n : Notice) (c : Nat) :
    EngineFrame s (t.judgeNotice i n c) ↔ EngineFrame s t := Iff.rfl

@[simp] theorem EngineFrame.makeCurrent_iff {s t : State} (i : SlotId) (l : DemandList) :
    EngineFrame s (t.makeCurrent i l) ↔ EngineFrame s t := by
  simp [State.makeCurrent]

@[simp] theorem EngineFrame.enter_iff {s t : State} (i : SlotId) (st : SlotState) :
    EngineFrame s (t.enter i st) ↔ EngineFrame s t := by
  simp [State.enter]

@[simp] theorem EngineFrame.notify_iff {s t : State} (i : SlotId) (n : Notice) :
    EngineFrame s (t.notify i n) ↔ EngineFrame s t := by
  simp [State.notify]

@[simp] theorem EngineFrame.linkRequest_iff {s t : State} (i : SlotId) (f : Frame) :
    EngineFrame s (t.linkRequest i f) ↔ EngineFrame s t := by
  simp [State.linkRequest]

@[simp] theorem EngineFrame.linkAsk_iff {s t : State} (i : SlotId) (k : NoTurn) :
    EngineFrame s (t.linkAsk i k) ↔ EngineFrame s t := by
  simp [State.linkAsk]

@[simp] theorem EngineFrame.takeOffer_iff {s t : State} (i : SlotId) (o : Offered) :
    EngineFrame s (t.takeOffer i o) ↔ EngineFrame s t := by
  simp [State.takeOffer]

@[simp] theorem EngineFrame.takeRaise_iff {s t : State} (i : SlotId) (o : Offered) :
    EngineFrame s (t.takeRaise i o) ↔ EngineFrame s t := by
  simp [State.takeRaise]

@[simp] theorem EngineFrame.refuse_iff {s t : State} (i : SlotId) :
    EngineFrame s (t.refuse i) ↔ EngineFrame s t := by
  simp [State.refuse]

@[simp] theorem EngineFrame.dropPending_iff {s t : State} (i : SlotId) :
    EngineFrame s (t.dropPending i) ↔ EngineFrame s t := by
  simp [State.dropPending]

@[simp] theorem EngineFrame.beginReduce_iff {s t : State} (i : SlotId) (x y : Nat) (o : Origin) :
    EngineFrame s (t.beginReduce i x y o) ↔ EngineFrame s t := by
  simp [State.beginReduce]

@[simp] theorem EngineFrame.upgrade_iff {s t : State} (i : SlotId) (d : Reduction) (x y : Nat) (o : Origin) :
    EngineFrame s (t.upgrade i d x y o) ↔ EngineFrame s t := by
  simp [State.upgrade]

@[simp] theorem EngineFrame.owe_iff {s t : State} (i : SlotId) (o : Owed) :
    EngineFrame s (t.owe i o) ↔ EngineFrame s t := by
  simp [State.owe]

@[simp] theorem EngineFrame.takeReduce_iff {s t : State} (i : SlotId) (x y : Nat) (o : Origin) :
    EngineFrame s (t.takeReduce i x y o) ↔ EngineFrame s t := by
  unfold State.takeReduce
  repeat' split
  all_goals first | exact Iff.rfl | simp

@[simp] theorem EngineFrame.offer_iff {s t : State} (i : SlotId) (p : Nat × Point) :
    EngineFrame s (t.offer i p) ↔ EngineFrame s t := by
  simp [State.offer]

@[simp] theorem EngineFrame.requestReductions_iff {s t : State} (l : List Victim) :
    EngineFrame s (t.requestReductions l) ↔ EngineFrame s t := by
  exact EngineFrame.iff_of (.foldl (fun _ _ => by simp) l t)

@[simp] theorem EngineFrame.startReclaim_iff {s t : State} (k : ReclaimKind) (b : Option SlotId) (x y : Nat) (l : List Victim) :
    EngineFrame s (t.startReclaim k b x y l) ↔ EngineFrame s t := by
  unfold State.startReclaim
  dsimp only
  rw [EngineFrame.requestReductions_iff]
  exact Iff.rfl

@[simp] theorem EngineFrame.startAdmit_iff {s t : State} (b : SlotId) (n : Nat) :
    EngineFrame s (t.startAdmit b n) ↔ EngineFrame s t := by
  simp [State.startAdmit]

@[simp] theorem EngineFrame.startBudget_iff {s t : State} :
    EngineFrame s (t.startBudget) ↔ EngineFrame s t := by
  simp [State.startBudget]

@[simp] theorem EngineFrame.budgetTrigger_iff {s t : State} :
    EngineFrame s (t.budgetTrigger) ↔ EngineFrame s t := by
  simp [State.budgetTrigger]

@[simp] theorem EngineFrame.endReclaim_iff {s t : State} (c : Nat) :
    EngineFrame s (t.endReclaim c) ↔ EngineFrame s t := by
  exact Iff.rfl

@[simp] theorem EngineFrame.convert_iff {s t : State} :
    EngineFrame s (t.convert) ↔ EngineFrame s t := by
  unfold State.convert
  dsimp only
  rw [EngineFrame.event_iff, EngineFrame.requestReductions_iff]
  exact Iff.rfl

@[simp] theorem EngineFrame.admitRules_iff {s t : State} (b : SlotId) :
    EngineFrame s (t.admitRules b) ↔ EngineFrame s t := by
  unfold State.admitRules
  repeat' split
  all_goals first | exact Iff.rfl | simp

@[simp] theorem EngineFrame.budgetRules_iff {s t : State} :
    EngineFrame s (t.budgetRules) ↔ EngineFrame s t := by
  simp [State.budgetRules]

@[simp] theorem EngineFrame.endTests_iff {s t : State} :
    EngineFrame s (t.endTests) ↔ EngineFrame s t := by
  unfold State.endTests
  dsimp only
  repeat' split
  all_goals first | exact Iff.rfl | simp

@[simp] theorem EngineFrame.block_iff {s t : State} (h : SlotId) (r : Nat) :
    EngineFrame s (t.block h r) ↔ EngineFrame s t := by
  simp [State.block]

@[simp] theorem EngineFrame.settleHead_iff {s t : State} (h : SlotId) :
    EngineFrame s (t.settleHead h) ↔ EngineFrame s t := by
  unfold State.settleHead
  repeat' split
  all_goals first | exact Iff.rfl | simp

@[simp] theorem EngineFrame.backfill_iff {s t : State} (l : List SlotId) :
    EngineFrame s (t.backfill l) ↔ EngineFrame s t := by
  unfold State.backfill
  split
  · refine EngineFrame.iff_of (.foldl (fun u i => ?_) l t)
    repeat' split
    all_goals simp
  · exact Iff.rfl

@[simp] theorem EngineFrame.allocationPass_iff {s t : State} :
    EngineFrame s (t.allocationPass) ↔ EngineFrame s t := by
  suffices h : ∀ n u, EngineFrame u (State.passFrom n u) from EngineFrame.iff_of (h 9 t)
  intro n
  induction n with
  | zero => exact .refl
  | succ n ih =>
    intro u
    unfold State.passFrom
    repeat' split
    all_goals first | simp | exact .trans (by simp) (ih _)

@[simp] theorem EngineFrame.raise_iff {s t : State} (i : SlotId) (p : Nat × Point) :
    EngineFrame s (t.raise i p) ↔ EngineFrame s t := by
  simp [State.raise]

@[simp] theorem EngineFrame.raiseVisit_iff {s t : State} (i : SlotId) :
    EngineFrame s (t.raiseVisit i) ↔ EngineFrame s t := by
  unfold State.raiseVisit
  try dsimp only
  repeat' split
  all_goals first | exact Iff.rfl | simp

@[simp] theorem EngineFrame.raisePass_iff {s t : State} :
    EngineFrame s (t.raisePass) ↔ EngineFrame s t := by
  unfold State.raisePass
  split
  · exact EngineFrame.iff_of (.foldl (fun _ _ => by simp) _ t)
  · exact Iff.rfl

@[simp] theorem EngineFrame.aeRules_iff {s t : State} (due : Bool) :
    EngineFrame s (t.aeRules due) ↔ EngineFrame s t := by
  unfold State.aeRules
  dsimp only
  repeat' split
  all_goals first | exact Iff.rfl | simp

@[simp] theorem EngineFrame.resyncConcludes_iff {s t : State} (i : SlotId) (n : Notice) :
    EngineFrame s (t.resyncConcludes i n) ↔ EngineFrame s t := by
  unfold State.resyncConcludes
  try dsimp only
  repeat' split
  all_goals exact Iff.rfl

@[simp] theorem EngineFrame.takeDemand_iff {s t : State} (i : SlotId) :
    EngineFrame s (t.takeDemand i) ↔ EngineFrame s t := by
  unfold State.takeDemand
  try dsimp only
  repeat' split
  all_goals first | exact Iff.rfl | simp

@[simp] theorem EngineFrame.mapRestatement_iff {s t : State} (i : SlotId) :
    EngineFrame s (t.mapRestatement i) ↔ EngineFrame s t := by
  unfold State.mapRestatement
  try dsimp only
  repeat' split
  all_goals exact Iff.rfl

@[simp] theorem EngineFrame.takePowered_iff {s t : State} (i : SlotId) (h : Nat) :
    EngineFrame s (t.takePowered i h) ↔ EngineFrame s t := by
  unfold State.takePowered
  dsimp only
  repeat' split
  all_goals first | exact Iff.rfl | simp

@[simp] theorem EngineFrame.takeNotice_iff {s t : State} (i : SlotId) (n : Notice) :
    EngineFrame s (t.takeNotice i n) ↔ EngineFrame s t := by
  unfold State.takeNotice
  try dsimp only
  repeat' split
  all_goals first | exact Iff.rfl | simp

@[simp] theorem EngineFrame.account_iff {s t : State} (i : SlotId) (n : Notice) :
    EngineFrame s (t.account i n) ↔ EngineFrame s t := by
  simp [State.account]

@[simp] theorem EngineFrame.popNotice_iff {s t : State} (i : SlotId) :
    EngineFrame s (t.popNotice i) ↔ EngineFrame s t := by
  simp [State.popNotice]

@[simp] theorem EngineFrame.aeNotice_iff {s t : State} (i : SlotId) (n : Notice) :
    EngineFrame s (t.aeNotice i n) ↔ EngineFrame s t := by
  simp [State.aeNotice]

/-! ### An account that stands settled -/

/-- The end tests leave a settled account as it is (R129 to R133). -/
theorem State.endTests_settled {s : State} (h : aeSettled s) : s.endTests = s := by
  unfold State.endTests
  by_cases a : s.ae.reclaim.active
  · obtain ⟨c, ⟨k, e⟩ | ⟨k, e, b, hb, w, f⟩⟩ := h.2 a
    · simp [a, k, State.budgetRules, e, c]
    · simp [a, k, hb, State.admitRules, w, f, c, e]
  · simp [a]

/-- The BUDGET trigger leaves a settled account as it is (R118). -/
theorem State.budgetTrigger_settled {s : State} (h : aeSettled s) : s.budgetTrigger = s := by
  unfold State.budgetTrigger
  by_cases a : s.ae.reclaim.active
  · simp [a]
  · obtain e | e | e := h.1 (by simpa using a) <;> simp [e]

/-- An input that causes no pass leaves a settled account as it is (R91). -/
theorem State.aeRules_settled {s : State} (h : aeSettled s) : s.aeRules false = s := by
  simp [State.aeRules, State.endTests_settled h, State.budgetTrigger_settled h, reclaimCause]

/-- A restatement notice maps nothing for a dropped list, and else asks once for the point it maps to (R54). -/
theorem mapRestatement_cases (s : State) (i : SlotId) :
    s.mapRestatement i = s ∨
    ∃ l, (s.slot i).restated = some l ∧ (s.slot i).outbox.any Notice.isRestatement = false ∧
      (l.highestWithin (s.entry i).confirmed = none ∧
          s.mapRestatement i = s.modSlot i (fun r => { r with mapRequests := r.mapRequests ++ [none] }) ∨
        ∃ k x, l.highestWithin (s.entry i).confirmed = some (k, x) ∧
          s.mapRestatement i = (s.modEntry i fun e => { e with restating := true }).modSlot i fun r =>
            { r with mapRequests := r.mapRequests ++ [some { index := k, power := x.power, tag := x.tag }] }) := by
  unfold State.mapRestatement
  cases ho : (s.slot i).outbox.any Notice.isRestatement
  · cases hl : (s.slot i).restated with
    | none => exact .inl (by simp)
    | some l =>
      refine .inr ⟨l, rfl, rfl, ?_⟩
      cases hw : l.highestWithin (s.entry i).confirmed with
      | none => exact .inl ⟨rfl, by simp [hw]⟩
      | some p => exact .inr ⟨p.1, p.2, rfl, by simp [hw]⟩
  · exact .inl (by simp)

end Sys2Proof.Machine
end

