-- ==== Sys2Proof/Laws/Host.lean ====
section
/-! SUPPORT. What the Host Port's operations do while it holds neither a restart request nor staged bytes: the end of a
transfer, the opening of a write, and a host's whole write; and what it acknowledges. -/

namespace Sys2Proof.Machine

/-- A byte from the host is acknowledged in a write transfer (R184), ... -/
theorem heard_writing {s : State} (h : s.hp.phase = .writing ∨ s.hp.phase = .writeOffset) :
    s.heard = { s with hp := { s.hp with acked := true } } := by
  rcases h with h | h <;> simp [State.heard, Hp.acknowledge, h]

/-- ... and outside one it is not. -/
theorem heard_idle {s : State} (h : s.hp.phase = .idle ∨ s.hp.phase = .reading ∨ s.hp.phase = .readDone) :
    s.heard = { s with hp := { s.hp with acked := false } } := by
  rcases h with h | h | h <;> simp [State.heard, Hp.acknowledge, h]

/-- The end of a transfer at a clear port discards the copy alone. -/
theorem endTransfer_clear {s : State} (h : portClear s) :
    s.endTransfer = { s with hp := { s.hp with phase := .idle, staging := none, snapshot := none } } := by
  obtain ⟨h1, h2⟩ := h
  simp [State.endTransfer, h1, h2]

/-- A STOP at a clear port. -/
theorem stopBus_clear {s : State} (h : portClear s) :
    s.stopBus = if s.hp.phase = .idle then s
      else { s with hp := { s.hp with phase := .idle, staging := none, snapshot := none } } := by
  simp [State.stopBus, endTransfer_clear h]

/-- The port's own address byte is answered in its direction. -/
@[simp] theorem Hp.answer_own (h : Hp) (read : Bool) :
    h.answer (h.addressByte read) =
      { h with phase := if read then .reading else .writeOffset, acked := true } := by
  have k : ∀ a : BitVec 7, ∀ r : Bool,
      (((a.setWidth 8 <<< 1) ||| boolByte r).extractLsb' 1 7 = a) ∧
        ((a.setWidth 8 <<< 1) ||| boolByte r).getLsbD 0 = r := by decide +kernel
  obtain ⟨k1, k2⟩ := k h.address read
  simp only [Hp.answer, Hp.addressByte, k1, k2, if_true, beq_self_eq_true]

/-- Opening a write transfer at a clear port: the port stands before the first byte, at the offset. -/
theorem openWrite_clear {s : State} (h : portClear s) (off : Byte) :
    s.openWrite off = { s with hp := { s.hp with
      phase := .writing, offset := off, staging := none, acked := true
      snapshot := if s.hp.phase = .idle then s.hp.snapshot else none } } := by
  have h1 := h.1
  have h2 := h.2
  unfold State.openWrite
  rw [stopBus_clear h]
  by_cases hp : s.hp.phase = .idle
  · simp [hp, State.startBus, State.stopBus, h1, h2, State.setOffset, State.heard, Hp.acknowledge]
  · simp [hp, State.startBus, State.stopBus, h1, State.setOffset, State.heard, Hp.acknowledge]

/-- A host's whole write at a clear port: within the transfer in progress where it stands at the register, and else a
transfer of its own. -/
theorem hostWrite_clear {s : State} (h : portClear s) (off : Byte) (bytes : List Byte) :
    s.hostWrite off bytes =
      if s.hp.phase = .writing ∧ s.hp.offset = off then bytes.foldl State.writeByte s
      else (bytes.foldl State.writeByte { s with hp := { s.hp with
        phase := .writing, offset := off, staging := none, acked := true
        snapshot := if s.hp.phase = .idle then s.hp.snapshot else none } }).stopBus := by
  simp [State.hostWrite, h.1, openWrite_clear h]

end Sys2Proof.Machine
end

