-- ==== Sys2Proof/Laws/Link.lean ====
section
/-! SUPPORT. What each operation of a Link Engine does, once for each: requests, withdrawal, frames without turn, a quiet
LE's service, and a good reply. -/

namespace Sys2Proof.Machine

/-- A request to a DOWN link is lost; else it starts at once on an LE that is not busy, and becomes the pending request
on a busy one. -/
theorem LinkRec.request_cases (l : LinkRec) (f : Frame) (limit : Nat) :
    (l.link = .down ∧ l.request f limit = l) ∨
    (l.link ≠ .down ∧ l.busy = false ∧ l.request f limit = { l.begin f limit with pendingReq := none }) ∨
    (l.link ≠ .down ∧ l.busy = true ∧ l.request f limit = { l with pendingReq := some f }) := by
  unfold LinkRec.request
  by_cases hd : l.link = .down <;> cases hb : l.busy <;> simp [hd]

/-- At the end of a withdrawn frame its window opens; a QUERY that was due starts. -/
theorem LinkRec.completed_cases (l : LinkRec) (limit : Nat) :
    (l.queryDue = false ∧ l.completed limit = { l with stale := some .reply }) ∨
    (l.queryDue = true ∧
      l.completed limit = LinkRec.begin { l with stale := some .reply, queryDue := false } .query limit) := by
  unfold LinkRec.completed
  cases h : l.queryDue <;> simp

/-- A new exchange: its first attempt, with the toggle of the bit of the last turn frame begun, which stands; a POLL
takes the latch and the due follow-up with it. -/
theorem LinkRec.begin_eq (l : LinkRec) (f : Frame) (limit : Nat) :
    l.begin f limit = { l with
      exchange := some (.fresh f .waitLine limit (!l.seq))
      attention := l.attention && f != .poll, pollDue := l.pollDue && f != .poll } := rfl

/-- Only a frame that is begun moves the sequence bit (R63): to the bit of its exchange. -/
theorem LinkRec.transmit_cases (l : LinkRec) :
    l.transmit = l ∨ ∃ x, l.exchange = some x ∧ x.phase = .waitLine ∧
      l.transmit = { l with exchange := some { x with phase := .send }, seq := x.bit } := by
  unfold LinkRec.transmit
  split
  · rename_i x hx
    by_cases hp : x.phase = .waitLine
    · exact .inr ⟨x, hx, hp, by simp [hp, LinkRec.inPhase]⟩
    · exact .inl (by simp [hp])
  · exact .inl rfl

@[simp] theorem LinkRec.begin_seq (l : LinkRec) (f : Frame) (limit : Nat) : (l.begin f limit).seq = l.seq := rfl

/-- Withdrawal leaves neither an exchange, nor a pending request, nor a QUERY that is due. -/
@[simp] theorem LinkRec.withdraw_exchange (l : LinkRec) : l.withdraw.exchange = none := by
  unfold LinkRec.withdraw LinkRec.withdrawExchange
  split
  · assumption
  · split <;> rfl

@[simp] theorem LinkRec.withdraw_pendingReq (l : LinkRec) : l.withdraw.pendingReq = none := rfl

@[simp] theorem LinkRec.withdraw_queryDue (l : LinkRec) : l.withdraw.queryDue = false := rfl

/-- Withdrawal with no exchange held clears the pending request, and the QUERY that is due, alone. -/
theorem LinkRec.withdraw_free {l : LinkRec} (h : l.exchange = none) :
    l.withdraw = { l with pendingReq := none, queryDue := false } := by
  simp [LinkRec.withdraw, LinkRec.withdrawExchange, h]

/-- Withdrawal keeps the link state, the bit, the waiting frame, the latch and the flags. -/
theorem LinkRec.withdraw_keeps (l : LinkRec) :
    l.withdraw.link = l.link ∧ l.withdraw.seq = l.seq ∧ l.withdraw.waiting = l.waiting ∧
      l.withdraw.attention = l.attention ∧ l.withdraw.near = l.near ∧ l.withdraw.far = l.far ∧
      l.withdraw.followUp = l.followUp ∧ l.withdraw.pollDue = l.pollDue ∧ l.withdraw.lastReply = l.lastReply ∧
      l.withdraw.retriesUsed = l.retriesUsed ∧ l.withdraw.resends = l.resends ∧
      l.withdraw.sending = l.sending := by
  unfold LinkRec.withdraw LinkRec.withdrawExchange
  split
  · simp
  · split <;> simp

/-- A QUERY starts at once, or is due at the end of the withdrawn frame that is still being sent. -/
theorem LinkRec.query_cases (l : LinkRec) (limit : Nat) :
    ∃ k : LinkRec, k.exchange = none ∧ k.pendingReq = none ∧ k.link ≠ .down ∧ k.seq = l.seq ∧
      (k.completing = false ∧ l.query limit = k.begin .query limit ∨
        k.completing = true ∧ l.query limit = { k with queryDue := true }) := by
  refine ⟨{ l.withdraw with
    waiting := if l.waiting = some .refuse then none else l.waiting
    link := if l.link = .down then .up else l.link },
    l.withdraw_exchange, rfl, ?_, l.withdraw_keeps.2.1, ?_⟩
  · by_cases h : l.link = .down <;> simp [h]
  · unfold LinkRec.query
    dsimp only
    cases LinkRec.completing _ <;> simp [*]

/-- What a good reply leaves of the record. -/
@[simp] theorem LinkRec.goodReply_link (l : LinkRec) (x : Exchange) (r : Reply) : (l.goodReply x r).link = .up := rfl
@[simp] theorem LinkRec.goodReply_exchange (l : LinkRec) (x : Exchange) (r : Reply) :
    (l.goodReply x r).exchange = none := rfl
@[simp] theorem LinkRec.goodReply_seq (l : LinkRec) (x : Exchange) (r : Reply) :
    (l.goodReply x r).seq = l.seq := rfl

/-- The cut at an LE that has just had a good reply. -/
theorem LinkRec.cut_goodReply (l : LinkRec) (x : Exchange) (r : Reply) :
    (l.goodReply x r).cut = (l.goodReply x r).quieted := by
  simp [LinkRec.cut, LinkRec.quieted, LinkRec.withdraw, LinkRec.withdrawExchange, LinkRec.polling, LinkRec.ask,
    LinkRec.goodReply]

/-- Steps 1 to 3 of R67 change one link record and the events. -/
theorem linkGood_frame (s : State) (i : SlotId) (x : Exchange) (r : Reply) :
    (s.linkGood i x r).slots = s.slots ∧ (s.linkGood i x r).ae = s.ae ∧ (s.linkGood i x r).cu = s.cu ∧
      (s.linkGood i x r).wu = s.wu ∧ (s.linkGood i x r).hp = s.hp ∧ (s.linkGood i x r).inputs = s.inputs ∧
      (s.linkGood i x r).pending = s.pending ∧ (s.linkGood i x r).resetLow = s.resetLow ∧
      (s.linkGood i x r).links = updateAt s.links i fun l => l.goodReply x r := by
  unfold State.linkGood
  dsimp only
  split <;> split <;> simp

/-- The record of the LE after steps 1 to 3 of R67. -/
@[simp] theorem linkGood_link (s : State) (i : SlotId) (x : Exchange) (r : Reply) :
    (s.linkGood i x r).link i = (s.link i).goodReply x r := by
  unfold State.linkGood
  dsimp only
  split <;> split <;> simp

/-- A whole reply that the checks pass, ending in the window, is taken whole. -/
theorem receive_good {s : State} {i : SlotId} {x : Exchange} {r : Reply} (he : (s.link i).exchange = some x)
    (hp : x.phase = .reply) (ha : x.frame.allows r.kind = true) (hl : r.kind.allowsLength r.payload.length = true)
    (hn : r.payload.length ≤ 21) : s.receive i r = (s.linkGood i x r).onReply i x.frame r := by
  have h : judgeReply x.frame r = .good r := by simp [judgeReply, ha, hl, Nat.not_lt.mpr hn]
  simp [State.receive, LinkRec.awaiting, he, hp, State.judged, h]

end Sys2Proof.Machine
end

