-- ==== Sys2Proof/Laws/Sequencer.lean ====
section
/-! SUPPORT. What every operation of a Slot Sequencer and its Link Engine leaves alone, once for each: the host's blocks,
the inputs, the queue of commands, and the records of every other slot (`SlotFrame`). -/

namespace Sys2Proof.Machine

/-- From `s` to `t` nothing changed but slot `i`'s record, its link record and its AE entry, the AE's lists, and the
events. -/
def SlotFrame (i : SlotId) (s t : State) : Prop :=
  (t.pending = s.pending ∧ t.resetLow = s.resetLow ∧ t.inputs = s.inputs ∧ t.cu = s.cu ∧ t.wu = s.wu ∧ t.hp = s.hp ∧
    t.freeIndex = s.freeIndex) ∧
  ∀ j, j ≠ i → t.slot j = s.slot j ∧ t.link j = s.link j ∧ t.entry j = s.entry j

@[simp] theorem SlotFrame.refl (i : SlotId) (s : State) : SlotFrame i s s := by simp [SlotFrame]

theorem SlotFrame.trans {i : SlotId} {s t u : State} (h : SlotFrame i s t) (k : SlotFrame i t u) :
    SlotFrame i s u := by
  obtain ⟨⟨a, b, c, d, e, f, g⟩, p⟩ := h
  obtain ⟨⟨a', b', c', d', e', f', g'⟩, p'⟩ := k
  refine ⟨⟨by rw [a', a], by rw [b', b], by rw [c', c], by rw [d', d], by rw [e', e], by rw [f', f], by rw [g', g]⟩, ?_⟩
  intro j hj
  obtain ⟨x, y, z⟩ := p j hj
  obtain ⟨x', y', z'⟩ := p' j hj
  exact ⟨x'.trans x, y'.trans y, z'.trans z⟩

/-- The records of the other slots, read through a frame. -/
theorem SlotFrame.others {i : SlotId} {s t : State} (h : SlotFrame i s t) : othersSame i s t :=
  fun j hj => ⟨(h.2 j hj).1, (h.2 j hj).2.1⟩

@[simp] theorem SlotFrame.ite {i : SlotId} {s a b : State} {c : Prop} [Decidable c] :
    SlotFrame i s (if c then a else b) ↔ if c then SlotFrame i s a else SlotFrame i s b := by
  split <;> rfl

/-! ### The small updates -/

@[simp] theorem SlotFrame.modSlot_iff {i : SlotId} {s t : State} (f : SlotRec → SlotRec) :
    SlotFrame i s (t.modSlot i f) ↔ SlotFrame i s t := by
  unfold SlotFrame
  refine and_congr Iff.rfl (forall_congr' fun j => imp_congr_right fun hj => ?_)
  rw [slot_modSlot_other _ _ hj, link_modSlot, entry_modSlot]

@[simp] theorem SlotFrame.modLink_iff {i : SlotId} {s t : State} (f : LinkRec → LinkRec) :
    SlotFrame i s (t.modLink i f) ↔ SlotFrame i s t := by
  unfold SlotFrame
  refine and_congr Iff.rfl (forall_congr' fun j => imp_congr_right fun hj => ?_)
  rw [link_modLink_other _ _ hj, slot_modLink, entry_modLink]

@[simp] theorem SlotFrame.modEntry_iff {i : SlotId} {s t : State} (f : AeSlot → AeSlot) :
    SlotFrame i s (t.modEntry i f) ↔ SlotFrame i s t := by
  unfold SlotFrame
  refine and_congr Iff.rfl (forall_congr' fun j => imp_congr_right fun hj => ?_)
  rw [entry_modEntry_other _ _ hj, slot_modEntry, link_modEntry]

@[simp] theorem SlotFrame.event_iff {i : SlotId} {s t : State} (k : EventKind) (o : Option SlotId) (a b : Nat) :
    SlotFrame i s (t.event k o a b) ↔ SlotFrame i s t := Iff.rfl

@[simp] theorem SlotFrame.leaveQueue_iff {i : SlotId} {s t : State} :
    SlotFrame i s (t.leaveQueue i) ↔ SlotFrame i s t :=
  SlotFrame.modEntry_iff (fun e => { e with blocked := false })

/-! ### The operations of the Slot Sequencer -/

@[simp] theorem SlotFrame.notify_iff {i : SlotId} {s t : State} (n : Notice) :
    SlotFrame i s (t.notify i n) ↔ SlotFrame i s t := by
  simp [State.notify]

@[simp] theorem SlotFrame.enter_iff {i : SlotId} {s t : State} (st : SlotState) :
    SlotFrame i s (t.enter i st) ↔ SlotFrame i s t := by
  simp [State.enter]

@[simp] theorem SlotFrame.discard_iff {i : SlotId} {s t : State} :
    SlotFrame i s (t.discard i) ↔ SlotFrame i s t := by
  simp [State.discard]

@[simp] theorem SlotFrame.makeCurrent_iff {i : SlotId} {s t : State} (l : DemandList) :
    SlotFrame i s (t.makeCurrent i l) ↔ SlotFrame i s t := by
  simp [State.makeCurrent]

@[simp] theorem SlotFrame.linkRequest_iff {i : SlotId} {s t : State} (f : Frame) :
    SlotFrame i s (t.linkRequest i f) ↔ SlotFrame i s t := by
  simp [State.linkRequest]

@[simp] theorem SlotFrame.linkQuery_iff {i : SlotId} {s t : State} :
    SlotFrame i s (t.linkQuery i) ↔ SlotFrame i s t := by
  simp [State.linkQuery]

@[simp] theorem SlotFrame.linkWithdraw_iff {i : SlotId} {s t : State} :
    SlotFrame i s (t.linkWithdraw i) ↔ SlotFrame i s t := by
  simp [State.linkWithdraw]

@[simp] theorem SlotFrame.linkAsk_iff {i : SlotId} {s t : State} (k : NoTurn) :
    SlotFrame i s (t.linkAsk i k) ↔ SlotFrame i s t := by
  simp [State.linkAsk]

@[simp] theorem SlotFrame.cut_iff {i : SlotId} {s t : State} :
    SlotFrame i s (t.cut i) ↔ SlotFrame i s t := by
  simp [State.cut]

@[simp] theorem SlotFrame.fault_iff {i : SlotId} {s t : State} (c : FaultCause) :
    SlotFrame i s (t.fault i c) ↔ SlotFrame i s t := by
  simp [State.fault]

@[simp] theorem SlotFrame.remove_iff {i : SlotId} {s t : State} :
    SlotFrame i s (t.remove i) ↔ SlotFrame i s t := by
  simp [State.remove]

@[simp] theorem SlotFrame.settle_iff {i : SlotId} {s t : State} :
    SlotFrame i s (t.settle i) ↔ SlotFrame i s t := by
  simp [State.settle]

@[simp] theorem SlotFrame.identify_iff {i : SlotId} {s t : State} :
    SlotFrame i s (t.identify i) ↔ SlotFrame i s t := by
  simp [State.identify]

@[simp] theorem SlotFrame.takeOffer_iff {i : SlotId} {s t : State} (o : Offered) :
    SlotFrame i s (t.takeOffer i o) ↔ SlotFrame i s t := by
  simp [State.takeOffer]

@[simp] theorem SlotFrame.takeRaise_iff {i : SlotId} {s t : State} (o : Offered) :
    SlotFrame i s (t.takeRaise i o) ↔ SlotFrame i s t := by
  simp [State.takeRaise]

@[simp] theorem SlotFrame.refuse_iff {i : SlotId} {s t : State} :
    SlotFrame i s (t.refuse i) ↔ SlotFrame i s t := by
  simp [State.refuse]

@[simp] theorem SlotFrame.dropPending_iff {i : SlotId} {s t : State} :
    SlotFrame i s (t.dropPending i) ↔ SlotFrame i s t := by
  simp [State.dropPending]

@[simp] theorem SlotFrame.beginReduce_iff {i : SlotId} {s t : State} (index power : Nat) (o : Origin) :
    SlotFrame i s (t.beginReduce i index power o) ↔ SlotFrame i s t := by
  simp [State.beginReduce]

@[simp] theorem SlotFrame.upgrade_iff {i : SlotId} {s t : State} (d : Reduction) (index power : Nat) (o : Origin) :
    SlotFrame i s (t.upgrade i d index power o) ↔ SlotFrame i s t := by
  simp [State.upgrade]

@[simp] theorem SlotFrame.owe_iff {i : SlotId} {s t : State} (o : Owed) :
    SlotFrame i s (t.owe i o) ↔ SlotFrame i s t := by
  simp [State.owe]

@[simp] theorem SlotFrame.takeReduce_iff {i : SlotId} {s t : State} (index power : Nat) (o : Origin) :
    SlotFrame i s (t.takeReduce i index power o) ↔ SlotFrame i s t := by
  unfold State.takeReduce
  split <;> simp

@[simp] theorem SlotFrame.policyReduce_iff {i : SlotId} {s t : State} :
    SlotFrame i s (t.policyReduce i) ↔ SlotFrame i s t := by
  unfold State.policyReduce
  dsimp only
  repeat' split
  all_goals simp

@[simp] theorem SlotFrame.carryOwed_iff {i : SlotId} {s t : State} :
    SlotFrame i s (t.carryOwed i) ↔ SlotFrame i s t := by
  unfold State.carryOwed
  dsimp only
  split <;> simp

@[simp] theorem SlotFrame.carryHeld_iff {i : SlotId} {s t : State} (l : DemandList) (mapped : Nat) :
    SlotFrame i s (t.carryHeld i l mapped) ↔ SlotFrame i s t := by
  unfold State.carryHeld
  dsimp only
  repeat' split
  all_goals simp

@[simp] theorem SlotFrame.becomePowered_iff {i : SlotId} {s t : State} :
    SlotFrame i s (t.becomePowered i) ↔ SlotFrame i s t := by
  simp [State.becomePowered]

@[simp] theorem SlotFrame.poweringLevels_iff {i : SlotId} {s t : State} :
    SlotFrame i s (t.poweringLevels i) ↔ SlotFrame i s t := by
  simp [State.poweringLevels]

@[simp] theorem SlotFrame.acceptOffer_iff {i : SlotId} {s t : State} (o : Offered) :
    SlotFrame i s (t.acceptOffer i o) ↔ SlotFrame i s t := by
  simp [State.acceptOffer]

@[simp] theorem SlotFrame.dropOffer_iff {i : SlotId} {s t : State} :
    SlotFrame i s (t.dropOffer i) ↔ SlotFrame i s t := by
  simp [State.dropOffer]

@[simp] theorem SlotFrame.demandEvents_iff {i : SlotId} {s t : State} (l : DemandList) :
    SlotFrame i s (t.demandEvents i l) ↔ SlotFrame i s t := by
  simp [State.demandEvents]

@[simp] theorem SlotFrame.demandBad_iff {i : SlotId} {s t : State} (v : Verdict) :
    SlotFrame i s (t.demandBad i v) ↔ SlotFrame i s t := by
  cases v <;> simp [State.demandBad]

@[simp] theorem SlotFrame.takeList_iff {i : SlotId} {s t : State} (l : DemandList) :
    SlotFrame i s (t.takeList i l) ↔ SlotFrame i s t := by
  unfold State.takeList
  dsimp only
  rw [SlotFrame.notify_iff]
  split <;> simp

@[simp] theorem SlotFrame.beginRestatement_iff {i : SlotId} {s t : State} (l : DemandList) :
    SlotFrame i s (t.beginRestatement i l) ↔ SlotFrame i s t := by
  simp [State.beginRestatement]

@[simp] theorem SlotFrame.resyncPowered_iff {i : SlotId} {s t : State} (l : DemandList) (c : Nat) :
    SlotFrame i s (t.resyncPowered i l c) ↔ SlotFrame i s t := by
  simp [State.resyncPowered]

@[simp] theorem SlotFrame.resyncUnpowered_iff {i : SlotId} {s t : State} (l : DemandList) :
    SlotFrame i s (t.resyncUnpowered i l) ↔ SlotFrame i s t := by
  simp [State.resyncUnpowered]

@[simp] theorem SlotFrame.resyncDemand_iff {i : SlotId} {s t : State} (v : Verdict) :
    SlotFrame i s (t.resyncDemand i v) ↔ SlotFrame i s t := by
  cases v <;> simp [State.resyncDemand]

@[simp] theorem SlotFrame.onDemand_iff {i : SlotId} {s t : State} (payload : List Byte) :
    SlotFrame i s (t.onDemand i payload) ↔ SlotFrame i s t := by
  unfold State.onDemand
  dsimp only
  repeat' split
  all_goals simp

@[simp] theorem SlotFrame.acceptMapping_iff {i : SlotId} {s t : State} (l : DemandList) (o : Offered) :
    SlotFrame i s (t.acceptMapping i l o) ↔ SlotFrame i s t := by
  simp [State.acceptMapping]

@[simp] theorem SlotFrame.acceptRaise_iff {i : SlotId} {s t : State} (o : Offered) :
    SlotFrame i s (t.acceptRaise i o) ↔ SlotFrame i s t := by
  simp [State.acceptRaise]

@[simp] theorem SlotFrame.onAccept_iff {i : SlotId} {s t : State} :
    SlotFrame i s (t.onAccept i) ↔ SlotFrame i s t := by
  unfold State.onAccept
  repeat' split
  all_goals simp

@[simp] theorem SlotFrame.declineRaise_iff {i : SlotId} {s t : State} (o : Offered) :
    SlotFrame i s (t.declineRaise i o) ↔ SlotFrame i s t := by
  simp [State.declineRaise]

@[simp] theorem SlotFrame.releaseCut_iff {i : SlotId} {s t : State} (n : Notice) :
    SlotFrame i s (t.releaseCut i n) ↔ SlotFrame i s t := by
  simp [State.releaseCut]

@[simp] theorem SlotFrame.declineOffer_iff {i : SlotId} {s t : State} (o : Offered) (n : Notice) :
    SlotFrame i s (t.declineOffer i o n) ↔ SlotFrame i s t := by
  simp [State.declineOffer]

@[simp] theorem SlotFrame.onDecline_iff {i : SlotId} {s t : State} :
    SlotFrame i s (t.onDecline i) ↔ SlotFrame i s t := by
  unfold State.onDecline
  split <;> simp

@[simp] theorem SlotFrame.withdrawDemand_iff {i : SlotId} {s t : State} :
    SlotFrame i s (t.withdrawDemand i) ↔ SlotFrame i s t := by
  simp [State.withdrawDemand]

@[simp] theorem SlotFrame.onRelease_iff {i : SlotId} {s t : State} :
    SlotFrame i s (t.onRelease i) ↔ SlotFrame i s t := by
  unfold State.onRelease
  split <;> simp

@[simp] theorem SlotFrame.resyncIdle_iff {i : SlotId} {s t : State} :
    SlotFrame i s (t.resyncIdle i) ↔ SlotFrame i s t := by
  simp [State.resyncIdle]

@[simp] theorem SlotFrame.onIdle_iff {i : SlotId} {s t : State} :
    SlotFrame i s (t.onIdle i) ↔ SlotFrame i s t := by
  unfold State.onIdle
  split <;> simp

@[simp] theorem SlotFrame.onNoted_iff {i : SlotId} {s t : State} :
    SlotFrame i s (t.onNoted i) ↔ SlotFrame i s t := by
  simp [State.onNoted]

@[simp] theorem SlotFrame.completeAt_iff {i : SlotId} {s t : State} (index power : Nat) :
    SlotFrame i s (t.completeAt i index power) ↔ SlotFrame i s t := by
  simp [State.completeAt]

@[simp] theorem SlotFrame.completeZero_iff {i : SlotId} {s t : State} (d : Reduction) :
    SlotFrame i s (t.completeZero i d) ↔ SlotFrame i s t := by
  simp [State.completeZero]

@[simp] theorem SlotFrame.completePart_iff {i : SlotId} {s t : State} (index power : Nat) :
    SlotFrame i s (t.completePart i index power) ↔ SlotFrame i s t := by
  simp [State.completePart]

@[simp] theorem SlotFrame.onReduced_iff {i : SlotId} {s t : State} (b : Bool) (index : Nat) :
    SlotFrame i s (t.onReduced i b index) ↔ SlotFrame i s t := by
  unfold State.onReduced
  repeat' split
  all_goals simp

@[simp] theorem SlotFrame.restore_iff {i : SlotId} {s t : State} :
    SlotFrame i s (t.restore i) ↔ SlotFrame i s t := by
  simp [State.restore]

@[simp] theorem SlotFrame.onReply_iff {i : SlotId} {s t : State} (f : Frame) (r : Reply) :
    SlotFrame i s (t.onReply i f r) ↔ SlotFrame i s t := by
  unfold State.onReply
  dsimp only
  split <;> simp

@[simp] theorem SlotFrame.startGrace_iff {i : SlotId} {s t : State} :
    SlotFrame i s (t.startGrace i) ↔ SlotFrame i s t := by
  simp [State.startGrace]

@[simp] theorem SlotFrame.onFailure_iff {i : SlotId} {s t : State} :
    SlotFrame i s (t.onFailure i) ↔ SlotFrame i s t := by
  unfold State.onFailure
  split <;> simp

@[simp] theorem SlotFrame.linkFailed_iff {i : SlotId} {s t : State} (x : Exchange) :
    SlotFrame i s (t.linkFailed i x) ↔ SlotFrame i s t := by
  simp [State.linkFailed]

@[simp] theorem SlotFrame.badReply_iff {i : SlotId} {s t : State} (x : Exchange) (f : NearFlag) :
    SlotFrame i s (t.badReply i x f) ↔ SlotFrame i s t := by
  simp [State.badReply]

@[simp] theorem SlotFrame.linkGood_iff {i : SlotId} {s t : State} (x : Exchange) (r : Reply) :
    SlotFrame i s (t.linkGood i x r) ↔ SlotFrame i s t := by
  simp [State.linkGood]

@[simp] theorem SlotFrame.judged_iff {i : SlotId} {s t : State} (x : Exchange) (j : Judged) :
    SlotFrame i s (t.judged i x j) ↔ SlotFrame i s t := by
  cases j <;> simp [State.judged]

@[simp] theorem SlotFrame.receive_iff {i : SlotId} {s t : State} (r : Reply) :
    SlotFrame i s (t.receive i r) ↔ SlotFrame i s t := by
  unfold State.receive
  split <;> simp

@[simp] theorem SlotFrame.receiveBytes_iff {i : SlotId} {s t : State} (bytes : List Byte) :
    SlotFrame i s (t.receiveBytes i bytes) ↔ SlotFrame i s t := by
  unfold State.receiveBytes
  split <;> simp

@[simp] theorem SlotFrame.windowClosed_iff {i : SlotId} {s t : State} :
    SlotFrame i s (t.windowClosed i) ↔ SlotFrame i s t := by
  unfold State.windowClosed
  split <;> simp

@[simp] theorem SlotFrame.takeUpTimeout_iff {i : SlotId} {s t : State} :
    SlotFrame i s (t.takeUpTimeout i) ↔ SlotFrame i s t := by
  unfold State.takeUpTimeout
  dsimp only
  repeat' split
  all_goals simp

@[simp] theorem SlotFrame.attemptTimeout_iff {i : SlotId} {s t : State} :
    SlotFrame i s (t.attemptTimeout i) ↔ SlotFrame i s t := by
  unfold State.attemptTimeout
  split <;> simp

@[simp] theorem SlotFrame.lineTimeout_iff {i : SlotId} {s t : State} (attempt : Bool) :
    SlotFrame i s (t.lineTimeout i attempt) ↔ SlotFrame i s t := by
  simp [State.lineTimeout]

@[simp] theorem SlotFrame.answer_iff {i : SlotId} {s t : State} (k : Fin 4) (n : Byte) (r : CmdResult) (d : Nat) :
    SlotFrame i s (t.answer i k n r d) ↔ SlotFrame i s t := by
  simp [State.answer]

@[simp] theorem SlotFrame.setWatch_iff {i : SlotId} {s t : State} (w : Watch) :
    SlotFrame i s (t.setWatch i w) ↔ SlotFrame i s t := by
  simp [State.setWatch]

@[simp] theorem SlotFrame.watchCheck_iff {i : SlotId} {s t : State} :
    SlotFrame i s (t.watchCheck i) ↔ SlotFrame i s t := by
  simp [State.watchCheck]

@[simp] theorem SlotFrame.revokePowering_iff {i : SlotId} {s t : State} :
    SlotFrame i s (t.revokePowering i) ↔ SlotFrame i s t := by
  simp [State.revokePowering]

@[simp] theorem SlotFrame.revokeOffering_iff {i : SlotId} {s t : State} :
    SlotFrame i s (t.revokeOffering i) ↔ SlotFrame i s t := by
  simp [State.revokeOffering]

@[simp] theorem SlotFrame.revoke_iff {i : SlotId} {s t : State} :
    SlotFrame i s (t.revoke i) ↔ SlotFrame i s t := by
  unfold State.revoke
  split <;> simp

@[simp] theorem SlotFrame.takeRevoke_iff {i : SlotId} {s t : State} (k : Fin 4) (n : Byte) :
    SlotFrame i s (t.takeRevoke i k n) ↔ SlotFrame i s t := by
  simp [State.takeRevoke]

@[simp] theorem SlotFrame.takeReset_iff {i : SlotId} {s t : State} (k : Fin 4) (n : Byte) :
    SlotFrame i s (t.takeReset i k n) ↔ SlotFrame i s t := by
  simp [State.takeReset]

@[simp] theorem SlotFrame.takeRequery_iff {i : SlotId} {s t : State} (k : Fin 4) (n : Byte) :
    SlotFrame i s (t.takeRequery i k n) ↔ SlotFrame i s t := by
  simp [State.takeRequery]

@[simp] theorem SlotFrame.takeMap_iff {i : SlotId} {s t : State} (o : Option Offered) :
    SlotFrame i s (t.takeMap i o) ↔ SlotFrame i s t := by
  unfold State.takeMap
  repeat' split
  all_goals simp

@[simp] theorem SlotFrame.nextMap_iff {i : SlotId} {s t : State} :
    SlotFrame i s (t.nextMap i) ↔ SlotFrame i s t := by
  unfold State.nextMap
  split <;> simp

@[simp] theorem SlotFrame.settleExpires_iff {i : SlotId} {s t : State} :
    SlotFrame i s (t.settleExpires i) ↔ SlotFrame i s t := by
  simp [State.settleExpires]

@[simp] theorem SlotFrame.rampExpires_iff {i : SlotId} {s t : State} :
    SlotFrame i s (t.rampExpires i) ↔ SlotFrame i s t := by
  simp [State.rampExpires]

@[simp] theorem SlotFrame.reduceExpires_iff {i : SlotId} {s t : State} :
    SlotFrame i s (t.reduceExpires i) ↔ SlotFrame i s t := by
  simp [State.reduceExpires]

@[simp] theorem SlotFrame.graceExpires_iff {i : SlotId} {s t : State} :
    SlotFrame i s (t.graceExpires i) ↔ SlotFrame i s t := by
  simp [State.graceExpires]

@[simp] theorem SlotFrame.holdoffExpires_iff {i : SlotId} {s t : State} :
    SlotFrame i s (t.holdoffExpires i) ↔ SlotFrame i s t := by
  simp [State.holdoffExpires]

@[simp] theorem SlotFrame.cleanExpires_iff {i : SlotId} {s t : State} :
    SlotFrame i s (t.cleanExpires i) ↔ SlotFrame i s t := by
  simp [State.cleanExpires]

@[simp] theorem SlotFrame.sample_iff {i : SlotId} {s t : State} (presN pg fltN : Option Bool) :
    SlotFrame i s (t.sample i presN pg fltN) ↔ SlotFrame i s t := by
  simp [State.sample]

@[simp] theorem SlotFrame.resyncLevels_iff {i : SlotId} {s t : State} :
    SlotFrame i s (t.resyncLevels i) ↔ SlotFrame i s t := by
  simp [State.resyncLevels]

/-! The command that each sample's levels come with (R20). -/

theorem carries_presenceLow (i : SlotId) (pg fltN : Option Bool) :
    carries i (some false) pg fltN (.presenceLow ⟨i, pg, fltN⟩) := .inl ⟨rfl, rfl⟩
theorem carries_fltNLow (i : SlotId) (pg : Option Bool) : carries i none pg (some false) (.fltNLow i pg) :=
  .inr (.inl ⟨rfl, rfl, rfl⟩)
theorem carries_fltNHigh (i : SlotId) (pg : Option Bool) : carries i none pg (some true) (.fltNHigh ⟨i, pg⟩) :=
  .inr (.inr (.inl ⟨rfl, rfl, rfl⟩))
theorem carries_pgHigh (i : SlotId) : carries i none (some true) none (.pgHigh i) :=
  .inr (.inr (.inr (.inl ⟨rfl, rfl, rfl, rfl⟩)))
theorem carries_pgLow (i : SlotId) : carries i none (some false) none (.pgLow i) :=
  .inr (.inr (.inr (.inr ⟨rfl, rfl, rfl, rfl⟩)))

/-- The record at the end of a happening is the one before it, or that with its watch answered. -/
theorem SlotRec.answered_afterWatch (r : SlotRec) (maxPower : Nat) : afterWatch maxPower r (r.answered maxPower) := by
  unfold afterWatch SlotRec.answered
  split <;> simp_all

/-- A record with no command watch is left as it is. -/
theorem SlotRec.answered_unwatched {r : SlotRec} (maxPower : Nat) (h : r.watch = none) : r.answered maxPower = r := by
  simp [SlotRec.answered, h]

/-- A happening at one slot's SS keeps the frame whenever its effect does. -/
theorem SlotFrame.atSlot {i : SlotId} {s : State} {f : State → State} (h : SlotFrame i s (f s)) :
    SlotFrame i s (atSlot i f s) := by
  unfold Machine.atSlot
  simpa using h

/-- When a DEMAND taken in STANDBY awaits the entry to WAITING (R158). -/
theorem SlotRec.awaitsEntry_iff {r : SlotRec} :
    r.awaitsEntry = true ↔
      r.state = .standby ∧ (r.arriving ≠ none ∨ r.current ≠ none ∧ .demand false none ∈ r.outbox) := by
  simp [SlotRec.awaitsEntry, Option.isSome_iff_ne_none]

end Sys2Proof.Machine
end

