-- ==== Sys2Proof/Tests/Slice0.lean ====
section
/-! SUPPORT. Tests: the operand checks, values the manual works out, and a state that meets the hypotheses of each
statement of Certificates/Slice0/Obligations.lean. Expected results come from the manual, cited at each test. -/

namespace Sys2Proof.Tests

open Sys2Proof Sys2Proof.Machine

/- Each test waits for the kernel; one after another they need one thread. -/
set_option Elab.async false

/-! ### Operand checks: an ill-formed term for each -/

theorem test_demandReply_length_refused : (Instr.demandReply 0 0 [1, 1]).wellFormed = false := by decide
theorem test_badCode_of_a_command_refused :
    (Instr.badCode 1).wellFormed = false ∧ (Instr.badCode 7).wellFormed = false ∧
      (Instr.badCode 0).wellFormed = true ∧ (Instr.badCode 8).wellFormed = true := by decide
theorem test_replyEnd_length_refused : (Instr.replyEnd 0 (List.replicate 26 0)).wellFormed = false := by decide
theorem test_table_gives_no_words : decodeTableWord 8 0 = none := by decide

/-! ### Values the manual works out -/

def point (p : Nat) (t : BitVec 4) (avail : Bool := true) : Point := { power := p, tag := t, avail := avail }

def demandBytes (cls cur : Byte) (points : List (Nat × Byte)) : List Byte :=
  [cls, byteOf points.length, cur] ++ points.flatMap fun p => le16 p.1 ++ [p.2]

/-- Section 4.2, the example: 1Ch 00h 7Ch. -/
theorem test_query_frame : Frame.query.bytes true = [0x1C, 0x00, 0x7C] := by decide +kernel

/-- Section 3.6: against 350 the list (450, 260, 120) has the available mask 6h. -/
theorem test_trimmed_mask :
    readDemand (demandBytes 1 0 [(450, 5), (260, 6), (120, 7)]) 350 =
      .valid { cardClass := 1, currentIndex := 0, points := [point 450 5 false, point 260 6, point 120 7] } ∧
    availMask [point 450 5 false, point 260 6, point 120 7] = 6 := by decide +kernel

/-- Section 3.6: within the confirmed 300 it maps to point 2, and (450, 340, 310) to none. -/
theorem test_mapped_point :
    (DemandList.highestWithin
      { cardClass := 1, currentIndex := 0, points := [point 450 5 false, point 260 6, point 120 7] } 300) =
      some (2, point 260 6) ∧
    (DemandList.highestWithin
      { cardClass := 1, currentIndex := 0, points := [point 450 5 false, point 340 6, point 310 7] } 300) =
      none := by decide +kernel

/-- R46: one payload for each check. -/
theorem test_demand_checks :
    readDemand (demandBytes 4 0 [(100, 0)]) 400 = .malformed 1 ∧ readDemand [0, 0, 0] 400 = .malformed 2 ∧
      readDemand [0, 2, 0, 100, 0, 0] 400 = .malformed 3 ∧
      readDemand (demandBytes 0 0 [(1024, 0)]) 400 = .malformed 4 ∧
      readDemand (demandBytes 0 0 [(100, 0), (100, 0)]) 400 = .malformed 5 ∧
      readDemand (demandBytes 0 0 [(401, 0)]) 400 = .overMax := by decide +kernel

/-- R191: the ID register reads 5Bh, then 01h. -/
theorem test_id_register : State.reset.register 0 = some (0, [0x5B, 0x01]) := by decide +kernel

/-- Section 9.6, the example's walk: WIN_FIRST 6, WIN_LAST 1, descending: slots 1, 0, 7, 6. -/
theorem test_walk_wraps : (Wu.restarted 6 1 0x0E).walk = [1, 0, 7, 6] := by decide +kernel

/-! ### Small states -/

/-- The next state a command leaves. -/
def after (c : Instr) (s : State) : State :=
  match exec c s with
  | .next t => t
  | _ => s

/-- The list of a class-`cls` card with these powers, all available. -/
def listOf (cls : Nat) (powers : List Nat) : DemandList :=
  { cardClass := cls, currentIndex := 0, points := powers.map (point · 1) }

/-- A slot in this state, its card present, with a list of points 1 and 2. -/
def card (st : SlotState) (powers : List Nat := [300, 150]) : SlotRec :=
  { SlotRec.reset false true true 0 with
    state := st, en := st.enabled, current := some (listOf 0 powers), granted := if st.enabled then 1 else 0 }

/-- An LE in UP, its reply window open for the frame. -/
def asking (f : Frame) : LinkRec := { LinkRec.reset with link := .up, exchange := some (.fresh f .reply 3 false) }

/-- An LE in UP that holds nothing. -/
def idleLink : LinkRec := { LinkRec.reset with link := .up }

/-- After reset, with these records of slot 2. -/
def at2 (r : SlotRec) (l : LinkRec := idleLink) : State :=
  { State.reset with slots := updateAt State.reset.slots 2 fun _ => r, links := updateAt State.reset.links 2 fun _ => l }

/-- A slot whose reply window is open for `f`. -/
def talk (st : SlotState) (f : Frame) : State := at2 (card st) (asking f)

/-- An answer awaited for point 1 of 300 BU. -/
def offered (st : SlotState) (fltN pg : Bool) : State :=
  at2 { card st with offered := some { index := 1, power := 300, tag := 1 }, fltN := fltN, pg := pg }
    (asking (.offer 1 300 1 false))

/-- A state in which the AE makes no decision, with one notice at slot 2, which stands in `st` with claim `c`. -/
def notice (st : SlotState) (n : Notice) (c : Nat) (m : Mark := .none) : State :=
  let s := at2 { card st with outbox := [n] }
  { s with ae := { s.ae with
      hold := true, budget := 1000
      slots := updateAt s.ae.slots 2 fun e => { e with claim := c, confirmed := c, mark := m } } }

/-- Command tag 0 in this state. -/
def cmdAt (s : State) (st : CmdState) : State := s.modCmd 0 fun _ => { CmdSlot.free with state := st, code := 3 }

/-! ### Section 12.1: the first steps of a slot under a budget of 600 with reserve 50 -/

/-- H1: slot 1's DEMAND (300, 200) is offered point 1 at 300, and the claim is 300. -/
theorem test_offer_within_budget :
    let s := at2 { (card .identify) with current := none, arriving := some (listOf 1 [300, 200]), outbox := [.demand false none] }
    let s := { s with ae := { s.ae with budget := 600, reserve := 50, derated := 600 } }
    let t := after (.demandNotice 2) s
    (t.slot 2).state = .offering ∧ (t.entry 2).claim = 300 ∧ (t.entry 2).mark = .offer ∧
      (t.link 2).exchange = some (.fresh (.offer 1 300 1 false) .waitLine 3 true) := by decide +kernel

/-! ### Section 6.10: the victims of the budget reclaim -/

/-- The five slots of section 6.10, before DERATE_N is taken low. -/
def fivePowered : State :=
  let put (s : State) (i : SlotId) (cls : Nat) (st : SlotState) (powers : List Nat) : State :=
    { s with
      slots := updateAt s.slots i fun _ => { card st powers with current := some (listOf cls powers), effClass := cls }
      links := updateAt s.links i fun _ => idleLink
      ae := { s.ae with slots := updateAt s.ae.slots i fun e =>
        { e with claim := powers.headD 0, confirmed := powers.headD 0 } } }
  let s := put State.reset 1 0 .powered [400, 250]
  let s := put s 2 3 .powered [150]
  let s := put s 7 2 .powered [300, 200]
  let s := put s 4 3 .powered [200, 120]
  let s := put s 5 1 .powering [300]
  { s with ae := { s.ae with budget := 1400, derated := 950, grantOrder := [1, 2, 7, 4, 5] } }

/-- Happening 1: slot 4 REVOKE 200, slot 7 REDUCE to point 2 for 100, slot 1 REDUCE to point 2 for 150. -/
theorem test_victims_of_section_6_10 :
    let t := after (.derateNLevel false) fivePowered
    t.ae.reclaim.shortfall = 400 ∧ t.ae.excess = true ∧ (t.slot 2).state = .powered ∧ (t.slot 5).state = .powering ∧
      (t.ae.reclaim.victims.map fun v => (v.slot, v.revoke, v.targetIndex, v.expected)) =
        [(4, true, 0, 200), (7, false, 2, 100), (1, false, 2, 150)] := by decide +kernel

/-! ### Witnesses: the machine as a whole, resets -/

def heldLow : State := { State.reset with resetLow := true }

theorem witness_LowResetHoldsEveryBlock :
    heldLow.resetLow = true ∧ (∀ first, Instr.stop ≠ .pinReset first) ∧ Instr.stop ≠ .resetNLow :=
  ⟨rfl, nofun, nofun⟩

/-- A command waits, and every invariant holds: what the four step statements ask. -/
def waiting : State := { State.reset with pending := [.stop] }

theorem witness_StepKeepsEventQueueBounded : waiting.eventsBounded ∧ ∃ t, step waiting = .next t :=
  ⟨by unfold State.eventsBounded; decide +kernel, _, rfl⟩

/-- The lists of every slot, read off one by one. -/
theorem listsRight_of {s : State}
    (h : ∀ i, ∀ o ∈ [(s.slot i).current, (s.slot i).arriving, (s.slot i).restated], ∀ l ∈ o, ∀ p ∈ l.points, p.power ≠ 0) :
    s.listsRight := by
  rintro i l (e | e | e) p hp <;> exact h i _ (by simp) l e p hp

/-- Slot 2 is POWERED at 300 with a notice under way, and a command waits. -/
def poweredWaits : State := { notice .powered (.powered 300) 300 with pending := [.stop] }

theorem witness_StepKeepsSlotsSound :
    (waiting.queueRight ∧ waiting.enablesRight ∧ waiting.strikesRight) ∧ (∃ t, step waiting = .next t) ∧
      (poweredWaits.queueRight ∧ poweredWaits.enablesRight ∧ poweredWaits.policiesRight ∧ poweredWaits.listsRight ∧
        poweredWaits.powerRight) ∧ ∃ t, step poweredWaits = .next t := by
  refine ⟨by unfold State.queueRight State.enablesRight State.strikesRight; decide +kernel, ⟨_, rfl⟩,
    ⟨by unfold State.queueRight; decide +kernel, by unfold State.enablesRight; decide +kernel,
      by unfold State.policiesRight; decide +kernel, listsRight_of (by decide +kernel), ?_⟩, ⟨_, rfl⟩⟩
  intro i
  fin_cases i <;>
    exact ⟨by decide +kernel, by decide +kernel, by decide +kernel, fun h => absurd h (by decide +kernel),
      fun h => absurd h (by decide +kernel), fun _ h => nomatch h⟩

/-- A reclaim of slot 2, which stands in the grant order list. -/
def listedWaits : State :=
  let s := notice .reducing (.reduced 150) 300
  let v : Victim :=
    { slot := 2, revoke := false, targetIndex := 2, targetPower := 150, expected := 150, outcome := .pending }
  { s with
    pending := [.reducedNotice 2]
    ae := { s.ae with
      grantOrder := [2]
      reclaim := { s.ae.reclaim with active := true, kind := .admission, beneficiary := some 5, victims := [v] } } }

theorem witness_StepKeepsAccountSound :
    (waiting.excessRight ∧ waiting.earmarkRight) ∧ (∃ t, step waiting = .next t) ∧
      (listedWaits.grantsRight ∧ listedWaits.victimsRight ∧ listedWaits.policiesRight ∧ listedWaits.listsRight) ∧
      ∃ t, step listedWaits = .next t :=
  ⟨by unfold State.excessRight State.earmarkRight; decide +kernel, ⟨_, rfl⟩,
    ⟨by unfold State.grantsRight; decide +kernel, by unfold State.victimsRight; decide +kernel,
      by unfold State.policiesRight; decide +kernel, listsRight_of (by decide +kernel)⟩, ⟨_, rfl⟩⟩

theorem witness_StepKeepsHostSideSound :
    (waiting.oneRunning ∧ waiting.cursorRight) ∧ ∃ t, step waiting = .next t :=
  ⟨by unfold State.oneRunning State.cursorRight; decide +kernel, _, rfl⟩

theorem witness_restarts : State.reset.resetLow = false ∧ State.reset.hp.restart = none := by decide +kernel

/-- The three ways into RESYNC, and a slot that does not enter it. -/
theorem witness_KeepPowerRestartResynchronises :
    let s := at2 (card .powered)
    (s.slot 2).state.kept (s.slot 2).presN = .resync ∧ (s.slot 2).fltN = true ∧ (s.slot 2).pg = true ∧
      (s.slot 0).state.kept (s.slot 0).presN ≠ .resync ∧
      ((at2 { card .powered with fltN := false }).slot 2).fltN = false ∧
      ((at2 { card .powered with pg := false }).slot 2).pg = false ∧
      s.resetLow = false ∧ s.hp.restart = none := by decide +kernel

/-! ### Witnesses: pins and timers -/

/-- No command RUNNING, under HOLD; and a RUNNING SET_BUDGET under excess, which DERATE_N high ends. -/
theorem witness_DerateLevelRecomputesBudget :
    let s := notice .powered .released 300
    let c := s.modCmd 0 fun _ => { CmdSlot.free with state := .running, code := 1 }
    let e : State := { c with ae := { c.ae with derateN := false, derated := 200, excess := true } }
    s.resetLow = false ∧ s.ae.derateN ≠ false ∧ s.running = none ∧ s.excessRight ∧ s.ae.hold = true ∧
      s.ae.reclaim.active = false ∧ s.budgetCandidates = [] ∧ e.resetLow = false ∧ e.ae.derateN ≠ true ∧
      e.excessRight ∧ e.running = some 0 ∧ (e.cmd 0).code = 1 ∧ (∀ u, (e.cmd u).state ≠ .queued) ∧ e.ae.hold = true ∧
      e.ae.reclaim.active = false ∧ e.ae.excess = true ∧
      e.ae.committed ≤ (after (.derateNLevel true) e).ae.effective := by
  unfold State.excessRight; decide +kernel

/-- The five slots, slot 3 waiting as the beneficiary of an ADMIT reclaim that has slot 7 as its victim. -/
def fiveReclaimed : State :=
  let s := fivePowered
  let v : Victim :=
    { slot := 7, revoke := false, targetIndex := 2, targetPower := 200, expected := 100, outcome := .pending }
  { s with
    slots := updateAt s.slots 3 fun _ => card .waiting
    ae := { s.ae with
      hold := true
      reclaim := { active := true, kind := .admission, beneficiary := some 3, shortfall := 50, earmark := 150
                   victims := [v], yieldTaken := 0 } } }

theorem witness_DerateStartsBudgetReclaim :
    fiveReclaimed.listsRight ∧
    let s := fivePowered
    let r := fiveReclaimed
    s.resetLow = false ∧ s.ae.derateN = true ∧ s.running = none ∧ s.ae.grantOrder.Nodup ∧
      s.ae.reclaim.active = false ∧ s.ae.resyncActive = false ∧ s.budgetCandidates ≠ [] ∧
      min s.ae.budget s.ae.derated < s.ae.committed ∧
      r.resetLow = false ∧ r.ae.derateN = true ∧ r.running = none ∧ r.ae.grantOrder.Nodup ∧
      min r.ae.budget r.ae.derated < r.ae.committed ∧ r.ae.reclaim.beneficiary = some 3 ∧
      r.ae.reclaim.active = true ∧ r.ae.reclaim.kind = .admission ∧ r.ae.reclaim.concluded = false ∧
      (r.slot 3).state = .waiting ∧ r.ae.hold = true ∧ r.ae.excess = false ∧
      ∀ j, (r.slot j).restated = none :=
  ⟨listsRight_of (by decide +kernel), by decide +kernel⟩

theorem witness_PresenceStartsSettling :
    State.reset.resetLow = false ∧ (State.reset.slot 2).state = .empty ∧
      ((at2 (card .standby)).slot 2).state ≠ .empty := by decide +kernel

theorem witness_RemovalResetsSlot :
    (at2 (card .waiting)).resetLow = false ∧ ((at2 (card .waiting)).slot 2).state ≠ .empty ∧
      (State.reset.slot 2).state = .empty := by decide +kernel

/-- One state for each of the five faults: FLT_N, PG, ramp, reduce deadline and grace; and the samples that bring FLT_N
low, alone, with PG and with PRES_N, and PG low, alone and with FLT_N high. -/
theorem witness_FaultsCutThePoweredSlot :
    let up := (at2 (card .powered)).slot 2
    let ramp := (at2 { card .powering with timers := { Timers.stopped with ramp := some 50 } }).slot 2
    let red := (at2 { card .reducing with timers := { Timers.stopped with reduce := some 200 } }).slot 2
    let grace := (at2 { card .powered with timers := { Timers.stopped with grace := some 1000 }, linkHold := true }).slot 2
    State.reset.resetLow = false ∧
      (up.en = true ∧ up.state.enabled = true ∧ up.state ≠ .powering) ∧
      (ramp.en = true ∧ ramp.state = .powering ∧ ramp.timers.ramp.isSome = true) ∧
      (red.en = true ∧ red.state = .reducing ∧ red.timers.reduce.isSome = true) ∧
      (grace.en = true ∧ grace.state.poweredFamily = true ∧ grace.timers.grace.isSome = true) ∧
      carries 2 none none (some false) (.fltNLow 2 none) ∧
      carries 2 none (some true) (some false) (.fltNLow 2 (some true)) ∧
      carries 2 (some false) none (some false) (.presenceLow ⟨2, none, some false⟩) ∧
      carries 2 none (some false) none (.pgLow 2) ∧
      carries 2 none (some false) (some true) (.fltNHigh ⟨2, some false⟩) :=
  ⟨rfl, by decide +kernel, by decide +kernel, by decide +kernel, by decide +kernel, carries_fltNLow _ _,
    carries_fltNLow _ _, carries_presenceLow _ _ _, carries_pgLow _, carries_fltNHigh _ _⟩

theorem witness_PowerGoodEntersPowered :
    (at2 (card .powering)).resetLow = false ∧ ((at2 (card .powering)).slot 2).state = .powering ∧
      carries 2 none (some true) none (.pgHigh 2) ∧ carries 2 none (some true) (some true) (.fltNHigh ⟨2, some true⟩) :=
  ⟨rfl, by decide +kernel, carries_pgHigh _, carries_fltNHigh _ _⟩

/-- FLT_N high; FLT_N low and PG high in STANDBY; PG low in POWERING; PRES_N low in STANDBY. -/
theorem witness_OtherLevelsAreOnlyRecorded :
    ((at2 (card .standby)).slot 2).state ≠ .powering ∧ ((at2 (card .standby)).slot 2).state.enabled = false ∧
      ((at2 (card .standby)).slot 2).state ≠ .empty ∧ ((at2 (card .powering)).slot 2).state = .powering ∧
      carries 2 none none (some true) (.fltNHigh ⟨2, none⟩) ∧
      carries 2 none (some true) (some false) (.fltNLow 2 (some true)) ∧ carries 2 none (some false) none (.pgLow 2) ∧
      carries 2 (some false) none none (.presenceLow ⟨2, none, none⟩) :=
  ⟨by decide +kernel, by decide +kernel, by decide +kernel, by decide +kernel, carries_fltNHigh _ _,
    carries_fltNLow _ _, carries_pgLow _, carries_presenceLow _ _ _⟩

/-- An LE that holds nothing, and one whose frame is being sent. -/
theorem witness_ExpiryEntersIdentify :
    let s := at2 { card .settling with timers := { Timers.stopped with settle := some 50 } }
    let f := at2 { card .faulted with timers := { Timers.stopped with holdoff := some 2000 } }
      { idleLink with exchange := some (.fresh .poll .send 3 false) }
    s.resetLow = false ∧ (s.slot 2).state = .settling ∧ (s.slot 2).timers.settle.isSome = true ∧
      (s.link 2).completing = false ∧ (s.link 2).exchange = none ∧
      (f.slot 2).state = .faulted ∧ (f.slot 2).timers.holdoff.isSome = true ∧
      (f.link 2).exchange = some (.fresh .poll .send 3 false) ∧ (Exchange.fresh .poll .send 3 false).phase = .send := by
  decide +kernel

theorem witness_CleanTimeClearsStrikes :
    let s := at2 { card .powered with timers := { Timers.stopped with clean := some 30000 }, strikes := 2 }
    s.resetLow = false ∧ (s.slot 2).state.poweredFamily = true ∧ (s.slot 2).timers.clean.isSome = true := by
  decide +kernel

/-! ### Witnesses: the slot link -/

/-- 200 microseconds are heard, 99 are not; a DOWN link and a busy LE hear nothing. -/
theorem witness_AttentionSetsTheLatch :
    ((at2 (card .waiting)).link 2).link ≠ .down ∧ ((at2 (card .waiting)).link 2).quiet = true ∧ 200 ≤ 200 ∧ 99 < 100 ∧
      (State.reset.link 2).link = .down ∧ ((talk .waiting .poll).link 2).quiet = false := by decide +kernel

/-- One state for each item a quiet LE can serve, and one with none. -/
theorem witness_QuietLinkServesInOrder :
    let s (l : LinkRec) := (at2 (card .offering) l).link 2
    let frame := s { idleLink with waiting := some .refuse }
    let attempt := s { idleLink with exchange := some (.fresh .query .waitLine 3 true) }
    let request := s { idleLink with pendingReq := some .poll }
    let poll := s { idleLink with attention := true }
    let due := s { idleLink with pollDue := true }
    (frame.link ≠ .down ∧ frame.quiet = true ∧ frame.waiting = some .refuse) ∧
      (attempt.link ≠ .down ∧ attempt.quiet = true ∧ attempt.waiting = none ∧
        attempt.exchange = some (.fresh .query .waitLine 3 true)) ∧
      (request.quiet = true ∧ request.exchange = none ∧ request.pendingReq = some .poll) ∧
      (poll.quiet = true ∧ poll.exchange = none ∧ poll.pendingReq = none ∧ poll.attention = true) ∧
      (due.quiet = true ∧ due.pendingReq = none ∧ due.pollDue = true) ∧
      (idleLink.pendingReq = none ∧ idleLink.attention = false ∧ idleLink.pollDue = false) ∧
      (State.reset.link 2).link = .down := by decide +kernel

/-- The LINK record shows the bit of the last turn frame begun (R63, R181): an exchange that waits for the line, or is
withdrawn there, has begun none, and the next one carries the same bit (R68). -/
theorem test_bit_moves_with_the_frame :
    let waits := idleLink.request (.offer 1 300 1 false) 3
    waits.record.getLast? = some 0 ∧ waits.withdraw.record.getLast? = some 0 ∧
      (waits.withdraw.serve 3).record.getLast? = some 0 ∧ (waits.serve 3).record.getLast? = some 1 ∧
      (waits.serve 3).driven = some ((Frame.offer 1 300 1 false).bytes true) ∧
      ((waits.withdraw.request (.reduce 2 150) 3).serve 3).driven = some ((Frame.reduce 2 150).bytes true) := by
  decide +kernel

/-- A frame without turn, a turn frame, and a withdrawn one with and without a QUERY due. -/
theorem witness_SentFrameOpensWindow :
    ({ idleLink with sending := some (.cut, true) } : LinkRec).sending = some (.cut, true) ∧
      (let l : LinkRec := { idleLink with exchange := some (.fresh .poll .send 3 false) }
       l.sending = none ∧ l.completing = false ∧ l.exchange = some (.fresh .poll .send 3 false) ∧
         (Exchange.fresh .poll .send 3 false).phase = .send) ∧
      ∀ due, let l : LinkRec := { idleLink with stale := some (.send .poll true), queryDue := due }
        l.sending = none ∧ l.completing = true ∧ l.stale = some (.send .poll true) ∧ l.queryDue = due := by
  decide +kernel

/-- Silence on the last attempt but one, a re-sent exchange, and bytes that fail each check of R64. -/
theorem witness_BadReplyIsRetried :
    let x : Exchange := { Exchange.fresh .query .reply 3 false with attempts := 3 }
    let y : Exchange := { x with attempts := 4, resent := true }
    let s := at2 (card .identify) { idleLink with exchange := some x }
    s.resetLow = false ∧ (s.link 2).exchange = some x ∧ x.phase = .reply ∧ x.attempts ≤ x.limit ∧ y.resent = true ∧
      y.phase = .reply ∧
      judgeBytes .query false [0xF0] = .bad .lengthBad ∧ judgeBytes .query false [0xF0, 0, 0, 0] = .bad .crcBad ∧
      judgeBytes .query false (Reply.bytes { kind := .noted, status := 0, payload := [] } false) = .bad .kindBad ∧
      judgeBytes .query false (Reply.bytes { kind := .idle, status := 0, payload := [] } true) = .bad .staleReply := by
  decide +kernel

/-- After reset with a retry limit of 0, an OFFER pending at the free LE of slot 2. -/
def unretried : State :=
  let s := at2 (card .offering) { idleLink with pendingReq := some (.offer 1 300 1 false) }
  { s with cu := { s.cu with settings := { s.cu.settings with retryLimit := 0 } } }

/-- The fourth attempt under a retry limit of 3, in each kind of state, on an UP link and on one already LOST, in its
window and waiting for the line; and the one attempt under a limit of 0. -/
theorem witness_LastFailureLosesTheLink :
    let x : Exchange := { Exchange.fresh .query .reply 3 false with attempts := 4 }
    let w : Exchange := { x with phase := .waitLine }
    let s (st : SlotState) := at2 (card st) { idleLink with exchange := some x }
    let l := at2 (card .identify) { idleLink with exchange := some w, link := .lost }
    let z : Exchange := .fresh (.offer 1 300 1 false) .waitLine 0 true
    (∀ st, (s st).resetLow = false ∧ ((s st).link 2).exchange = some x ∧ ((s st).link 2).link = .up ∧
      ((s st).slot 2).state = st ∧ ((s st).slot 2).en = st.enabled) ∧
      judgeBytes x.frame x.bit [] = .bad .lengthBad ∧ l.resetLow = false ∧
      (l.link 2).exchange = some w ∧ w.phase = .waitLine ∧ w.resent = false ∧ w.limit < w.attempts ∧
      (l.link 2).link = .lost ∧ unretried.resetLow = false ∧ (unretried.link 2).link ≠ .down ∧
      (unretried.link 2).busy = false ∧ (unretried.link 2).pendingReq = some z.frame ∧
      unretried.cu.settings.retryLimit = 0 ∧ z.resent = false ∧ z.limit < z.attempts ∧
      z = .fresh z.frame .waitLine 0 (!(unretried.link 2).seq) ∧ x.phase = .reply ∧ x.resent = false ∧ x.limit < x.attempts ∧ SlotState.powered.poweredFamily = true ∧
      SlotState.offering.enabled = false ∧ SlotState.resync.enabled = true ∧ SlotState.identify.enabled = false := by
  refine ⟨fun st => ?_, by decide +kernel⟩
  cases st <;> decide +kernel

theorem witness_RetryAndResendRepeatTheFrame :
    let gap := (at2 (card .identify) { idleLink with exchange := some (.fresh .query .gap 3 false) }).link 2
    let held := (at2 (card .powered) { idleLink with exchange := some (.fresh .poll .held 3 false), link := .lost }).link 2
    gap.exchange = some (.fresh .query .gap 3 false) ∧ (Exchange.fresh .query .gap 3 false).phase = .gap ∧ gap.waiting = none ∧
      gap.sending = none ∧ gap.stale = none ∧ held.exchange = some (.fresh .poll .held 3 false) ∧
      (Exchange.fresh .poll .held 3 false).phase = .held ∧ held.waiting = none ∧ held.sending = none ∧ held.stale = none := by
  decide +kernel

/-- A REFUSE that waits; an attempt that waits beside it; and a pending request on a free LE. -/
theorem witness_BusyLineDropsOrCounts :
    let x : Exchange := { Exchange.fresh .poll .waitLine 3 true with attempts := 3 }
    let s := at2 (card .powered) { idleLink with waiting := some .refuse, exchange := some x }
    let r := at2 (card .powered) { idleLink with pendingReq := some (.reduce 2 150) }
    (s.resetLow = false ∧ (s.link 2).link ≠ .down ∧ (s.link 2).frameReady = true ∧
        (s.link 2).exchange = some x ∧ x.phase = .waitLine ∧ x.resent = false ∧ x.attempts ≤ x.limit) ∧
      r.resetLow = false ∧ (r.link 2).link ≠ .down ∧ (r.link 2).pendingReq = some (.reduce 2 150) ∧
      (r.link 2).busy = false ∧ Frame.reduce 2 150 ≠ .poll ∧ 1 ≤ r.cu.settings.retryLimit := by decide +kernel

/-- A payload of the longest length, and an exchange whose window is open for the bit. -/
theorem witness_ReplyBytesReadAsTheReply :
    ((talk .powered .poll).link 2).exchange = some (.fresh .poll .reply 3 false) ∧
      (Exchange.fresh .poll .reply 3 false).phase = .reply ∧ (Exchange.fresh .poll .reply 3 false).bit = false ∧
      (demandBytes 3 0 [(6, 0), (5, 0), (4, 0), (3, 0), (2, 0), (1, 0)]).length ≤ 21 := by decide +kernel

/-! ### Witnesses: replies -/

theorem talks (st : SlotState) (f : Frame) : awaits 2 (.fresh f .reply 3 false) (talk st f) := ⟨rfl, rfl, rfl⟩

def goodDemand : List Byte := demandBytes 1 0 [(300, 1), (150, 2)]

theorem witness_DemandAwaitsEntryOrReplaces :
    (∀ st, awaits 2 (.fresh .query .reply 3 false) (talk st .query)) ∧ Frame.query.allows .demand = true ∧
      demandLengths.contains goodDemand.length = true ∧
      readDemand goodDemand ((talk .waiting .query).policy 2).maxPower =
        .valid { cardClass := 1, currentIndex := 0, points := [point 300 1, point 150 2] } ∧
      ((talk .identify .query).slot 2).state = .identify ∧ ((talk .waiting .query).slot 2).state = .waiting ∧
      ((talk .parked .query).slot 2).state = .parked ∧
      (let r := (at2 { card .standby with current := none } (asking .poll)).slot 2
       r.state = .standby ∧ r.current = none) ∧
      ((talk .standby .poll).slot 2).state = .standby ∧ ((talk .standby .poll).slot 2).current ≠ none ∧
      Frame.poll.allows .demand = true :=
  ⟨fun st => talks st .query, by decide +kernel⟩

theorem witness_BadDemandFaultsOrIsRefused :
    (∀ st, awaits 2 (.fresh .poll .reply 3 false) (talk st .poll)) ∧ Frame.poll.allows .demand = true ∧
      demandLengths.contains [0, 0, 0].length = true ∧
      readDemand [0, 0, 0] ((talk .waiting .poll).policy 2).maxPower = .malformed 2 ∧
      demandLengths.contains (demandBytes 0 0 [(401, 0)]).length = true ∧
      readDemand (demandBytes 0 0 [(401, 0)]) ((talk .waiting .poll).policy 2).maxPower = .overMax ∧
      ((talk .waiting .poll).slot 2).en = false ∧ ((talk .waiting .poll).slot 2).state = .waiting ∧
      ((talk .powered .poll).slot 2).state = .powered ∧ ((talk .powered .poll).slot 2).restated = none ∧
      awaits 2 (.fresh .query .reply 3 false) (talk .resync .query) ∧ Frame.query.allows .demand = true ∧
      ((talk .resync .query).slot 2).state = .resync :=
  ⟨fun st => talks st .poll, by decide +kernel, by decide +kernel, by decide +kernel, by decide +kernel,
    by decide +kernel, by decide +kernel, by decide +kernel, by decide +kernel, by decide +kernel, talks _ _,
    by decide +kernel⟩

/-- The states that restate, refuse and discard; and in RESYNC the current indexes 1, 0, 3 of two, and 1 trimmed, and an
owed revoke. -/
theorem witness_DemandRestatesOrIsRefused :
    (∀ st, awaits 2 (.fresh .poll .reply 3 false) (talk st .poll)) ∧ Frame.poll.allows .demand = true ∧
      demandLengths.contains goodDemand.length = true ∧
      readDemand goodDemand ((talk .powered .poll).policy 2).maxPower =
        .valid { cardClass := 1, currentIndex := 0, points := [point 300 1, point 150 2] } ∧
      ((talk .powered .poll).slot 2).state = .powered ∧ ((talk .powered .poll).slot 2).restated = none ∧
      ((talk .offering .poll).slot 2).state = .offering ∧ ((talk .faulted .poll).slot 2).state = .faulted ∧
      (let r := (at2 { card .powered with restated := some (listOf 0 [100]) } (asking .poll)).slot 2
       r.state = .powered ∧ r.restated.isSome = true) ∧
      (let s := talk .resync .query
       let l (c : Byte) : DemandList := { cardClass := 1, currentIndex := c, points := [point 300 1, point 150 2] }
       (s.slot 2).state = .resync ∧ (s.slot 2).owed = none ∧
         (∀ c ∈ [0, 1, 3], readDemand (demandBytes 1 c [(300, 1), (150, 2)]) (s.policy 2).maxPower = .valid (l c)) ∧
         (l 1).point 1 = some (point 300 1) ∧ (point 300 1).avail = true ∧ (l 0).currentIndex = 0 ∧
         (l 3).currentIndex ≠ 0 ∧ (l 3).point 3 = none ∧
         readDemand (demandBytes 1 1 [(450, 1), (150, 2)]) (s.policy 2).maxPower =
           .valid { cardClass := 1, currentIndex := 1, points := [point 450 1 false, point 150 2] }) ∧
      (let r := (at2 { card .resync with owed := some { origin := .host, targetPower := 0 } } (asking .query)).slot 2
       r.owed = some { origin := .host, targetPower := 0 }) :=
  ⟨fun st => talks st .poll, by decide +kernel⟩

/-- A slot in a raise or a mapping, its answer awaited, that owes a reduction; max power 400, granted 300. -/
def owing (st : SlotState) (w : Owed) : State :=
  at2 { card st [450, 300] with
      granted := 2, offered := some { index := 1, power := 450, tag := 1 }, owed := some w
      restated := if st = .restating then some (listOf 1 [450, 300]) else none }
    (asking (.offer 1 450 1 (st == .restating)))

/-- The offer under good levels with PG low and high, the offer under FLT_N low, the raise and the mapping; with a
reduction owed to the host, to a max power of 400 below and above the point, and a REDUCE held in RESTATING: to a power
that the mapped point meets, to one below it, and to 0. -/
theorem witness_AcceptActsByState :
    (∀ st f g, awaits 2 (.fresh (.offer 1 300 1 false) .reply 3 false) (offered st f g)) ∧
      (Frame.offer 1 300 1 false).allows .accept = true ∧
      (∀ f g, ((offered .offering f g).slot 2).offered = some { index := 1, power := 300, tag := 1 }) ∧
      (∀ f g, ((offered .offering f g).slot 2).state = .offering ∧ ((offered .offering f g).slot 2).fltN = f ∧
        ((offered .offering f g).slot 2).pg = g) ∧
      (((offered .raising true true).slot 2).state = .raising ∧ ((offered .raising true true).slot 2).owed = none) ∧
      (let r := (at2 { card .restating with
          restated := some (listOf 1 [260]), offered := some { index := 1, power := 260, tag := 1 } }).slot 2
       r.restated = some (listOf 1 [260]) ∧ r.state = .restating ∧ r.owed = none) ∧
      (∀ st w, awaits 2 (.fresh (.offer 1 450 1 (st == .restating)) .reply 3 false) (owing st w)) ∧
      (let r (w : Owed) := (owing .raising w).slot 2
       ∀ o, (r { origin := o, targetPower := 0 }).owed = some { origin := o, targetPower := 0 } ∧
         (r { origin := o, targetPower := 0 }).current = some (listOf 0 [450, 300]) ∧
         (r { origin := o, targetPower := 0 }).restated = none) ∧
      Origin.policy ≠ .host ∧ ((owing .raising { origin := .policy, targetPower := 400 }).policy 2).maxPower = 400 ∧
      400 < (listOf 0 [450, 300]).powerAt 1 ∧ (listOf 0 [300, 150]).powerAt 1 ≤ 400 ∧
      ((owing .restating { origin := .host, targetPower := 450 }).slot 2).restated = some (listOf 1 [450, 300]) ∧
      450 ≤ 450 ∧ 449 < 450 := by
  refine ⟨fun _ _ _ => ⟨rfl, rfl, rfl⟩, by decide +kernel, by decide +kernel, by decide +kernel, by decide +kernel,
    by decide +kernel, fun st _ => ⟨rfl, rfl, rfl⟩, ?_, by decide +kernel⟩
  intro r o
  cases o <;> decide +kernel

/-- The offer, the raise and the mapping; a raise that owes a reduction: to the host, and to a max power that the
granted point of 300 meets; and one that stands above it. -/
theorem witness_DeclineActsByState :
    (∀ st f g, awaits 2 (.fresh (.offer 1 300 1 false) .reply 3 false) (offered st f g)) ∧
      (Frame.offer 1 300 1 false).allows .decline = true ∧
      ((offered .offering true true).slot 2).offered = some { index := 1, power := 300, tag := 1 } ∧
      ((offered .offering true true).slot 2).state = .offering ∧
      ((offered .raising true true).slot 2).state = .raising ∧ ((offered .raising true true).slot 2).owed = none ∧
      ((offered .restating true true).slot 2).state = .restating ∧
      (let s := owing .raising { origin := .policy, targetPower := 400 }
       (s.slot 2).owed = some { origin := .policy, targetPower := 400 } ∧
         (s.slot 2).current = some (listOf 0 [450, 300]) ∧ (s.slot 2).restated = none ∧
         (s.slot 2).grantedPower ≤ (s.policy 2).maxPower) ∧
      (let s := at2 { card .raising [450, 300] with owed := some { origin := .policy, targetPower := 400 } }
       (s.policy 2).maxPower < (s.slot 2).grantedPower) :=
  ⟨fun _ _ _ => ⟨rfl, rfl, rfl⟩, by decide +kernel⟩

/-- NOTED to a REDUCE, before and after follow-up polling starts, REDUCED at the held point to a POLL, and the notice.
-/
theorem witness_NotedKeepsReducing :
    (let r := (at2 { card .reducing with reduction := some (.entered 2 150 .reclaim) } (asking (.reduce 2 150))).slot 2
     (1 : Byte).toNat = r.granted ∧ r.reduction.isSome = true ∧ r.current.isSome = true) ∧
    awaits 2 (.fresh (.reduce 2 150) .reply 3 false) (talk .reducing (.reduce 2 150)) ∧
      ((talk .reducing (.reduce 2 150)).slot 2).state = .reducing ∧ (Frame.reduce 2 150).allows .noted = true ∧
      ((talk .reducing (.reduce 2 150)).link 2).followUp = false ∧
      ((at2 (card .reducing) { asking (.reduce 2 150) with followUp := true }).link 2).followUp = true ∧
      awaits 2 (.fresh .poll .reply 3 false) (talk .reducing .poll) ∧
      (1 : Byte).toNat = ((talk .reducing .poll).slot 2).granted ∧ aeStill (notice .reducing .noted 300) ∧
      ((notice .reducing .noted 300).slot 2).outbox = [.noted] :=
  ⟨by decide +kernel, talks _ _, by decide +kernel, by decide +kernel, by decide +kernel, by decide +kernel,
    talks _ _, by decide +kernel, by unfold aeStill; decide +kernel, by decide +kernel⟩

/-- Point 2 at the target, index 0 from a host's revoke and from a reclaim's, and index 3 of a list of two; and, of a
reduction entered toward 150 and upgraded to 0, point 2, below the held point 1 and at the entry power. -/
theorem witness_ReducedCompletesTheReduction :
    let s (o : Origin) := at2 { card .reducing with reduction := some (.entered 2 150 o) } (asking (.reduce 2 150))
    let up : Reduction := { Reduction.entered 2 150 .policy with targetIndex := 0, targetPower := 0 }
    let part := at2 { card .reducing with reduction := some up } (asking (.reduce 2 150))
    (∀ o, awaits 2 (.fresh (.reduce 2 150) .reply 3 false) (s o)) ∧ (Frame.reduce 2 150).allows .reduced = true ∧
      ((s .host).slot 2).state = .reducing ∧ ((s .host).slot 2).reduction = some (.entered 2 150 .host) ∧
      ((s .reclaim).slot 2).reduction = some (.entered 2 150 .reclaim) ∧
      ((s .host).slot 2).current = some (listOf 0 [300, 150]) ∧ (2 : Byte).toNat ≠ ((s .host).slot 2).granted ∧
      (0 : Byte).toNat ≠ ((s .host).slot 2).granted ∧ (listOf 0 [300, 150]).point 2 = some (point 150 1) ∧
      150 ≤ 150 ∧ Origin.host ≠ .reclaim ∧ (listOf 0 [300, 150]).anyAvail = true ∧
      (listOf 0 [300, 150]).count < (3 : Byte).toNat ∧
      (part.slot 2).reduction = some up ∧ up.targetPower < 150 ∧ 150 ≤ up.entryPower ∧
      150 < (part.slot 2).grantedPower :=
  ⟨fun _ => ⟨rfl, rfl, rfl⟩, by decide +kernel⟩

/-- IDLE to a POLL and to the QUERY, in IDENTIFY and in RESYNC, and RELEASE to an offer. -/
theorem witness_ReleaseAndIdleGiveUpPower :
    (∀ st f, awaits 2 (.fresh f .reply 3 false) (talk st f)) ∧ Frame.poll.allows .release = true ∧
      Frame.poll.allows .idle = true ∧ Frame.query.allows .idle = true ∧
      ((talk .powered .poll).slot 2).state.poweredFamily = true ∧ ((talk .waiting .poll).slot 2).state = .waiting ∧
      ((talk .identify .query).slot 2).state = .identify ∧
      (let r := (at2 { card .standby with current := none } (asking .poll)).slot 2
       r.state = .standby ∧ r.current = none ∧ r.arriving = none ∧ r.restated = none ∧
         r.effClass = ((talk .standby .poll).policy 2).classLimit) ∧
      ((talk .resync .query).slot 2).state = .resync ∧
      ((offered .offering true true).slot 2).offered = some { index := 1, power := 300, tag := 1 } ∧
      (Frame.offer 1 300 1 false).allows .release = true ∧ ((offered .offering true true).slot 2).state = .offering :=
  ⟨talks, by decide +kernel⟩

/-- A mapped point, a request that names none, an LE that is free and one that is not, and a request with no list. -/
theorem witness_RestateMapOffersTheMappedPoint :
    let m : Offered := { index := 1, power := 260, tag := 1 }
    let s := at2 { card .powered with restated := some (listOf 1 [260]), mapRequests := [some m] }
    let n := at2 { card .powered with restated := some (listOf 1 [260]), mapRequests := [none] } (asking .poll)
    let d := at2 { card .powered with mapRequests := [some m] }
    s.resetLow = false ∧ (s.slot 2).mapRequests = [some m] ∧ (s.slot 2).restated = some (listOf 1 [260]) ∧
      (s.slot 2).state = .powered ∧ (listOf 1 [260]).point m.index = some (point 260 1) ∧ (s.link 2).link ≠ .down ∧
      (s.link 2).busy = false ∧ (n.slot 2).mapRequests = [none] ∧
      (n.slot 2).restated = some (listOf 1 [260]) ∧ (n.link 2).busy = true ∧ (d.slot 2).restated = none := by
  decide +kernel

/-! ### Witnesses: notices -/

theorem stillAt (st : SlotState) (n : Notice) :
    aeStill (notice st n 300) ∧ ((notice st n 300).slot 2).outbox = [n] ∧ (notice st n 300).resetLow = false ∧
      ((notice st n 300).entry 2).resync = false ∧ ((notice st n 300).entry 2).claim = 300 := by
  exact ⟨⟨rfl, rfl, rfl, show 300 ≤ 1000 by decide, rfl, rfl⟩, rfl, rfl, rfl, rfl⟩

/-- R5 and R54: the notice of a dropped list maps nothing for the newer one; that is mapped at its own notice, within the
power that the REDUCED before it has left. -/
theorem test_newer_list_is_mapped_within_the_claim :
    let s : State := (notice .powered (.demand true none) 300).modSlot 2 fun r =>
      { r with
        granted := 2, restated := some (listOf 0 [280, 120])
        outbox := [.demand true none, .reduced 150, .demand true none] }
    let t := after (.demandNotice 2) s
    let u := after (.demandNotice 2) (after (.reducedNotice 2) t)
    (t.slot 2).mapRequests = [] ∧ (t.entry 2).restating = false ∧ (u.entry 2).claim = 150 ∧
      (u.slot 2).mapRequests = [some { index := 2, power := 120, tag := 1 }] := by decide +kernel

/-- A list that has arrived, a replacement in WAITING, and a restatement. -/
theorem witness_DemandNoticeEntersWaiting :
    let arriving : State := (notice .identify (.demand false none) 0).modSlot 2 fun r =>
      { r with arriving := some (listOf 0 [300]) }
    let restated : State := (notice .powered (.demand true none) 300).modSlot 2 fun r =>
      { r with restated := some (listOf 0 [300]) }
    aeStill arriving ∧ (arriving.slot 2).outbox = [.demand false none] ∧ (arriving.entry 2).resync = false ∧
      (arriving.slot 2).arriving = some (listOf 0 [300]) ∧ ([] : List Notice).any Notice.isDemand = false ∧
      (arriving.slot 2).state = .identify ∧ (arriving.policy 2).admits = true ∧
      ((notice .waiting (.demand false none) 0).slot 2).arriving = none ∧
      ((notice .waiting (.demand false none) 0).slot 2).state = .waiting ∧ aeStill restated ∧
      (restated.slot 2).outbox = [.demand true none] ∧ (restated.slot 2).restated = some (listOf 0 [300]) ∧
      ([] : List Notice).any Notice.isRestatement = false ∧
      [Notice.demand true none].any Notice.isRestatement = true ∧ aeStill (notice .powered (.demand true none) 300) ∧
      ((notice .powered (.demand true none) 300).slot 2).restated = none := by
  unfold aeStill; decide +kernel

/-- Slot 2's list (300, 200) has arrived under this budget, slot 5 standing POWERED at `c` in class 3. -/
def arrives (budget c : Nat) (auto : Bool := true) : State :=
  let s := at2 { card .identify with
    current := none, arriving := some (listOf 1 [300, 200]), outbox := [.demand false none] }
  { s with
    slots := updateAt s.slots 5 fun _ => { card .powered [c] with effClass := 3 }
    ae := { s.ae with
      budget := budget, derated := budget, grantOrder := [5]
      slots := updateAt s.ae.slots 5 fun e => { e with claim := c, confirmed := c } }
    cu := { s.cu with settings := { s.cu.settings with autoRaise := auto } } }

/-- Slot 3 heads the queue with a floor of 900, blocked behind slot 6's exchange mark, under BACKFILL. -/
def arrivesBehind : State :=
  let s := arrives 600 250
  { s with
    slots := updateAt s.slots 3 fun _ => card .waiting [900]
    ae := { s.ae with
      entryOrder := [3]
      slots := updateAt (updateAt s.ae.slots 3 fun e => { e with blocked := true }) 6 fun e => { e with mark := .offer } }
    cu := { s.cu with settings := { s.cu.settings with backfill := true } } }

/-- With the decisions open: a point that fits, exactly; a shortfall of 100 over an eligible yield of 99; one that the
yield just covers; and a point under BACKFILL. -/
theorem witness_DemandNoticeEntersWaiting_open :
    (aeOpen (arrives 550 250 false) ∧ aeOpen (arrives 199 99) ∧ aeOpen (arrives 200 100) ∧ aeOpen arrivesBehind) ∧
      (let s := arrives 550 250 false
       (s.slot 2).outbox = [.demand false none] ∧ (s.entry 2).resync = false ∧ (s.policy 2).admits = true ∧
         (s.slot 2).arriving = some (listOf 1 [300, 200]) ∧ (s.slot 2).state = .identify ∧ s.ae.entryOrder = [] ∧
         s.cu.settings.autoRaise = false ∧ s.ae.effective - (s.ae.committed + s.ae.reserve) = 300 ∧
         (listOf 1 [300, 200]).highestWithin 300 = some (1, point 300 1)) ∧
      (listOf 1 [300, 200]).highestWithin 100 = none ∧ (listOf 1 [300, 200]).floorPower - 100 = 100 ∧
      (∀ c ∈ [99, 100], ((arrives 200 c).candidates fun j => decide (1 < ((arrives 200 c).slot j).effClass) &&
        ((arrives 200 c).slot j).restated.isNone) = [5]) ∧
      (arrives 200 100).ae.grantOrder.Nodup ∧ ((arrives 200 100).ae.slots.toList.any fun e => e.mark != .none) = false ∧
      (arrivesBehind.ae.entryOrder = [3] ∧ (arrivesBehind.slot 3).current = some (listOf 0 [900]) ∧
        (arrivesBehind.slot 3).effClass ≤ 1 ∧ (listOf 0 [900]).highestWithin 350 = none ∧
        (arrivesBehind.entry 3).blocked = true ∧
        (arrivesBehind.ae.slots.toList.any fun e => e.mark != .none) = true ∧
        arrivesBehind.cu.settings.backfill = true) :=
  ⟨by unfold aeOpen; decide +kernel, by decide +kernel⟩

/-- Each of the six notices, the holding at the claim of 300, and a raise outstanding. -/
theorem witness_HoldingNoticesSetTheClaim :
    (∀ n ∈ [Notice.accepted .offer 300, .accepted .raise 300, .accepted .mapping 300, .declined .raise 300,
        .reduced 300, .powered 300],
      aeStill (notice .powered n 300) ∧ ((notice .powered n 300).slot 2).outbox = [n] ∧
        (notice .powered n 300).resetLow = false ∧ ((notice .powered n 300).entry 2).resync = false ∧
        300 ≤ ((notice .powered n 300).entry 2).claim) ∧ 300 ≠ 0 ∧
      ((notice .powered (.powered 300) 300 .raise).entry 2).mark = .raise ∧
      ((notice .powered (.powered 300) 300).entry 2).mark ≠ .raise :=
  ⟨fun n _ => ⟨(stillAt _ n).1, rfl, rfl, rfl, Nat.le_refl _⟩, by decide, by decide +kernel, by decide +kernel⟩

/-- A slot with no list, and one in STANDBY that keeps it. -/
theorem witness_ZeroHoldingsFreeTheClaim :
    (∀ n ∈ [Notice.declined .offer 0, .declined .mapping 0, .reduced 0, .released, .faulted .switchFault, .removed],
      aeStill (notice .standby n 300) ∧ ((notice .standby n 300).slot 2).outbox = [n] ∧
        ((notice .standby n 300).entry 2).resync = false) ∧
      ((notice .faulted (.faulted .switchFault) 300).slot 2).state ≠ .standby ∧
      ((notice .standby (.reduced 0) 300).slot 2).state = .standby ∧
      ((notice .standby (.reduced 0) 300).slot 2).current ≠ none :=
  ⟨fun n _ => ⟨(stillAt _ n).1, rfl, rfl⟩, by decide +kernel⟩

/-- The freed 300 lets slot 3 rise from 200 to 350, its preferred point: the budget is 500, and 200 stay committed. -/
def freedBeside : State :=
  let s := notice .faulted (.faulted .switchFault) 300
  { s with
    slots := updateAt s.slots 3 fun _ => { card .powered [350, 200] with granted := 2 }
    ae := { s.ae with
      hold := false, budget := 500, grantOrder := [2, 3]
      slots := updateAt s.ae.slots 3 fun e => { e with claim := 200, confirmed := 200 } } }

theorem witness_ZeroHoldingsFreeTheClaim_raise :
    aeOpen freedBeside ∧
      (let s := freedBeside
       (s.slot 2).outbox = [.faulted .switchFault] ∧ (s.entry 2).resync = false ∧ (s.slot 2).state ≠ .standby ∧
         (s.entry 2).claim ≠ 0 ∧ s.ae.entryOrder = [] ∧ s.cu.settings.autoRaise = true ∧
         s.ae.grantOrder.filter (· != 2) = [3] ∧ (s.slot 3).state = .powered ∧ (s.entry 3).mark = .none ∧
         (s.entry 3).restating = false ∧ (s.slot 3).raiseDeclined = false ∧ (s.slot 3).restated = none ∧
         (s.slot 3).effClass ≤ 3 ∧ (s.slot 3).current = some (listOf 0 [350, 200]) ∧
         (listOf 0 [350, 200]).preferred = some (1, point 350 1) ∧ 1 < (s.slot 3).granted ∧
         (listOf 0 [350, 200]).highestBetween (s.slot 3).grantedPower
           (s.ae.effective - (s.ae.committed - (s.entry 2).claim) + (s.entry 3).claim) = some (1, point 350 1)) :=
  ⟨by unfold aeOpen; decide +kernel, by decide +kernel⟩

/-- A BUDGET reclaim of slot 2, from 300 to 150, with slot 3 as its other victim. -/
def victims (n : Notice) (budget : Nat) : State :=
  let s := notice .powered n 300
  let v : Victim :=
    { slot := 2, revoke := false, targetIndex := 2, targetPower := 150, expected := 150, outcome := .pending }
  { s with ae := { s.ae with
      budget := budget, excess := true
      reclaim := { s.ae.reclaim with active := true, kind := .budget, victims := [v, { v with slot := 3 }] } } }

/-- The reclaim's record with slot 3's entry concluded. -/
def lastOf (s : State) : State :=
  { s with ae := { s.ae with reclaim := { s.ae.reclaim with
    victims := s.ae.reclaim.victims.map fun w => if w.slot = 3 then { w with outcome := .gone } else w } } }

/-- An ADMIT reclaim for slot 5, in this state, with this list. -/
def victimsFor (n : Notice) (budget : Nat) (st : SlotState) (powers : List Nat) : State :=
  let s := victims n budget
  { s with
    slots := updateAt s.slots 5 fun _ => card st powers
    ae := { s.ae with excess := false, reclaim := { s.ae.reclaim with kind := .admission, beneficiary := some 5 } } }

/-- NOTED; REDUCED to the target while excess goes on, with another victim and as the last; and REDUCED that clears it,
at EB exactly. -/
theorem witness_VictimNoticesAreJudged :
    let s (n : Notice) := victims n 100
    (∀ n, (s n).resetLow = false ∧ (s n).ae.hold = true ∧ (s n).ae.excess = true ∧
      (s n).ae.reclaim.active = true ∧ (s n).ae.reclaim.kind = .budget ∧ (s n).cu.policyWait = [] ∧
      (s n).running = none ∧ ((s n).entry 2).resync = false ∧ ((s n).slot 2).outbox = [n] ∧
      ((s n).entry 2).mark = .none ∧ 150 < ((s n).entry 2).claim) ∧
      (∃ v ∈ (s .noted).ae.reclaim.victims, v.slot = 2 ∧ v.outcome = .pending ∧ v.targetPower = 150) ∧
      ((s .noted).ae.reclaim.victims.map Victim.slot).Nodup ∧
      (let t := after (.reducedNotice 2) (s (.reduced 150))
       (s (.reduced 150)).ae.effective < t.ae.committed ∧ t.ae.reclaim.concluded = false) ∧
      (let t := after (.reducedNotice 2) (victims (.reduced 150) 150)
       t.ae.committed ≤ (victims (.reduced 150) 150).ae.effective) ∧
      (let l := lastOf (s (.reduced 150))
       (∀ w ∈ l.ae.reclaim.victims, w.slot = 2 ∨ w.outcome = .gone) ∧ l.budgetCandidates = [] ∧
         l.ae.resyncActive = false ∧ (∀ j, (l.slot j).restated = none) ∧
         ({ l with ae := { l.ae with grantOrder := [2] } } : State).budgetCandidates ≠ []) :=
  ⟨fun _ => ⟨rfl, rfl, rfl, rfl, rfl, rfl, rfl, rfl, rfl, rfl, show 150 < 300 by decide⟩, by decide +kernel, by decide +kernel,
    by decide +kernel, by decide +kernel, by decide +kernel⟩

/-- The beneficiary gone from the queue; waiting with a floor that just fits 150 left of 300, and with one that does
not, before and at the last victim's conclusion. -/
theorem witness_VictimNoticesAreJudged_admission :
    let s := victimsFor (.reduced 150) 300 .waiting [150]
    let n := victimsFor (.reduced 150) 300 .waiting [151]
    s.ae.hold = true ∧ s.ae.reclaim.active = true ∧ s.ae.reclaim.beneficiary = some 5 ∧
      s.ae.reclaim.kind = .admission ∧ s.ae.excess = false ∧ s.ae.committed ≤ s.ae.effective ∧
      (s.slot 5).state = .waiting ∧ (s.slot 5).current = some (listOf 0 [150]) ∧
      (listOf 0 [150]).highestWithin (300 - (300 - 150)) = some (1, point 150 1) ∧
      (n.slot 5).current = some (listOf 0 [151]) ∧ (listOf 0 [151]).highestWithin (300 - (300 - 150)) = none ∧
      (after (.reducedNotice 2) n).ae.reclaim.concluded = false ∧
      (∀ w ∈ (lastOf n).ae.reclaim.victims, w.slot = 2 ∨ w.outcome = .gone) ∧
      ((victimsFor (.reduced 150) 300 .standby [150]).slot 5).state ≠ .waiting := by decide +kernel

theorem witness_LastNoticeEndsResync :
    let s0 := notice .powered (.powered 250) 400
    let s : State := { s0.modEntry 2 fun e => { e with resync := true } with
      ae := { (s0.modEntry 2 fun e => { e with resync := true }).ae with resyncActive := true } }
    aeStill s ∧ s.resetLow = false ∧ (s.slot 2).outbox = [.powered 250] ∧ s.ae.resyncActive = true ∧
      (s.entry 2).resync = true ∧ (∀ j, j ≠ 2 → (s.entry j).resync = false) ∧ (s.entry 2).mark = .none ∧ 250 ≠ 0 ∧
      250 ≤ (s.entry 2).claim := by
  unfold aeStill; decide +kernel

/-- An ANSWER to the RUNNING command, and one whose number is another's. -/
theorem witness_AnswerConcludesTheCommand :
    let s (num : Byte) := cmdAt (notice .waiting (.answer 0 num .ok 4) 0) .running
    (∀ num, (s num).resetLow = false ∧ (s num).ae.hold = true ∧ (s num).ae.reclaim.active = false ∧
      (s num).ae.excess = false ∧ (s num).cu.policyWait = [] ∧ ((s num).slot 2).outbox = [.answer 0 num .ok 4]) ∧
      (∀ u, ((s 0).cmd u).state ≠ .queued) ∧ ((s 0).cmd 0).state = .running ∧ ((s 0).cmd 0).num = 0 ∧
      (s 0).oneRunning ∧ ((s 1).cmd 0).num ≠ 1 :=
  ⟨fun _ => ⟨rfl, rfl, rfl, rfl, rfl, rfl⟩, by unfold State.oneRunning; decide +kernel⟩

/-! ### Witnesses: host commands -/

/-- After reset tag 0 is taken next, and the port is clear: what every host command's statement asks. -/
theorem witness_hostCommands :
    State.reset.resetLow = false ∧ portClear State.reset ∧ cuIdle State.reset 0 := by
  unfold portClear cuIdle; decide +kernel

/-- A value above 4000; values within it under HOLD, leaving excess or not. -/
theorem witness_SetBudgetInstallsTheBudgets :
    let s := notice .powered (.powered 300) 300
    portClear s ∧ cuIdle s 0 ∧ s.ae.hold = true ∧ s.ae.reclaim.active = false ∧ s.budgetCandidates = [] ∧
      4000 < (4001 : Half).toNat ∧ (4000 : Half).toNat ≤ 4000 ∧
      (after (.setBudget 4000 0 4000) s).ae.excess = false ∧ (after (.setBudget 299 0 299) s).ae.excess = true := by
  unfold portClear cuIdle; decide +kernel

/-- After reset under HOLD, with slot 2 as given. -/
def underHold (r : SlotRec) : State := { at2 r with ae := { State.reset.ae with hold := true } }

/-- After reset under HOLD, slot 2 in `st`, its list (300, 150), offered or granted point 1, with a claim of 500. -/
def policyAt (st : SlotState) (restated : Option DemandList := none) : State :=
  let s := underHold { card st with
    offered := some { index := 1, power := 300, tag := 1 }, restated := restated
    reduction := if st = .reducing then some (.entered 2 150 .reclaim) else none }
  { s with ae := { s.ae with
    budget := 1000, slots := updateAt s.ae.slots 2 fun e => { e with claim := 500, confirmed := 500 } } }

/-- Slot 2 in RESYNC during the period, its claim at 500. -/
def resyncing : State :=
  let s := policyAt .resync
  { s with ae := { s.ae with resyncActive := true } }

/-- R7: a raised max power raises the claim of a RESYNC slot without a fit test, and BUDGET_EXCESS is appended. -/
theorem test_policy_raises_resync_claim :
    let t := after (.setSlotPolicy 2 0 1023 1) resyncing
    (t.entry 2).claim = 1023 ∧ t.ae.excess = true ∧
      (t.eu.queue.getLast?.map fun e => (e.kind, e.b)) = some (.budgetExcess, 23) := by decide +kernel

/-- Each range end, and each state: a max power of 300, that of the point held, leaves it, 299 does not, and below 150
no point is left. -/
theorem witness_SetSlotPolicyActsByState :
    let s := policyAt
    (∀ st, aeStill (s st) ∧ portClear (s st) ∧ cuIdle (s st) 0 ∧ ((s st).slot 2).outbox = [] ∧
      ((s st).slot 2).state = st ∧ (s st).leftAt 2 150 = true ∧ (s st).leftAt 2 149 = false ∧
      ((s st).slot 2).current = some (listOf 0 [300, 150]) ∧ ((s st).slot 2).standing 300 ≤ 300) ∧
      aeStill resyncing ∧ portClear resyncing ∧ cuIdle resyncing 0 ∧ 7 < (8 : Byte).toNat ∧ 3 < (4 : Byte).toNat ∧ (0 : Half).toNat = 0 ∧ 1023 < (1024 : Half).toNat ∧
      1 < (2 : Byte).toNat ∧ (2 : Byte) = byteOf (2 : SlotId).val ∧ (3 : Byte).toNat ≤ 3 ∧
      (1023 : Half).toNat ≤ 1023 ∧ (1 : Byte).toNat ≤ 1 ∧ 500 ≤ ((s .resync).entry 2).claim ∧
      (∀ st ∈ [SlotState.offering, .powering, .raising, .restating, .powered, .reducing],
        299 < ((s st).slot 2).standing 299) ∧
      ((s .powering).entry 2).resync = false ∧ ((s .offering).entry 2).resync = false ∧
      resyncing.ae.resyncActive = true ∧ ((resyncing.slot 2).state = .resync ∧ (resyncing.slot 2).outbox = []) ∧
      (resyncing.entry 2).claim < (1023 : Half).toNat ∧ 299 < ((s .powered).slot 2).grantedPower ∧
      ((policyAt .powered (some (listOf 0 [100]))).slot 2).restated.isSome = true ∧
      ((s .reducing).slot 2).reduction = some (.entered 2 150 .reclaim) ∧
      ((listOf 0 [300, 150]).trim 299).policyTarget = (2, 150) ∧ ((listOf 0 [300, 150]).trim 149).policyTarget = (0, 0) := by
  refine ⟨fun st => ?_, ?_⟩
  · unfold aeStill portClear cuIdle
    cases st <;> decide +kernel
  · unfold aeStill portClear cuIdle; decide +kernel

/-- Section 7.5: a revoke that finds the beneficiary of an ADMIT reclaim gone ends it with 13h. -/
theorem test_revoke_is_an_input_of_the_ae :
    let s := { fiveReclaimed with slots := updateAt fiveReclaimed.slots 3 fun _ => card .standby }
    let t := after (.revokeSlot 3) s
    t.ae.reclaim.active = false ∧ t.ae.reclaim.earmark = 0 ∧
      (t.eu.queue.getLast?.map fun e => (e.kind, e.slot, e.a)) = some (.reclaimEnd, some 3, 0x13) := by decide +kernel

/-- Section 7.7: an ADMIT reclaim that ends in the happening that sets HOLD is followed by its pass, which offers slot 6;
where HOLD was set before, no pass runs. -/
theorem test_hold_stops_passes_from_the_next_input :
    let left (held : Bool) : State := { fiveReclaimed with
      slots := updateAt (updateAt fiveReclaimed.slots 3 fun _ => card .standby) 6 fun _ => card .waiting [100]
      ae := { fiveReclaimed.ae with hold := held, budget := 2000, entryOrder := [6] } }
    let t := after (.hold 1) (left false)
    let u := after (.hold 1) (left true)
    t.ae.hold = true ∧ t.ae.reclaim.active = false ∧ (t.slot 6).state = .offering ∧
      u.ae.hold = true ∧ u.ae.reclaim.active = false ∧ (u.slot 6).state = .waiting := by decide +kernel

/-- Each state; a pending list in POWERED; REDUCING toward 150 and toward 0; and reclaims that the AE's rules leave as
they are, or whose beneficiary is gone. -/
theorem witness_RevokeSlotActsByState :
    aeSettled (at2 (card .powered)) ∧
    (let s := fiveReclaimed
     aeSettled s ∧ portClear s ∧ cuIdle s 0 ∧ s.resetLow = false) ∧
    (let s := { fiveReclaimed with slots := updateAt fiveReclaimed.slots 3 fun _ => card .standby }
     portClear s ∧ cuIdle s 0 ∧ s.resetLow = false ∧ s.ae.reclaim.active = true ∧ s.ae.reclaim.kind = .admission ∧
      s.ae.excess = false ∧ s.ae.hold = true ∧ s.ae.reclaim.beneficiary = some 3 ∧ (s.slot 3).state ≠ .waiting ∧
      (s.slot 3).state.unpowered = true) ∧
    let red (d : Reduction) := (at2 { card .reducing with reduction := some d }).slot 2
    portClear (at2 (card .powered)) ∧ cuIdle (at2 (card .powered)) 0 ∧ 7 < (8 : Byte).toNat ∧
      (2 : Byte) = byteOf (2 : SlotId).val ∧ ((at2 (card .standby)).slot 2).state.unpowered = true ∧
      ((at2 (card .offering)).slot 2).state = .offering ∧ ((at2 (card .offering)).link 2).link ≠ .down ∧
      ((at2 (card .powering)).slot 2).state = .powering ∧ ((at2 (card .powered)).slot 2).state = .powered ∧
      ((at2 (card .powered)).slot 2).restated = none ∧ ((at2 (card .powered)).slot 2).grantedPower ≠ 0 ∧
      ((at2 { card .powered with restated := some (listOf 0 [100]) }).slot 2).restated.isSome = true ∧
      (red (.entered 2 150 .policy)).reduction = some (.entered 2 150 .policy) ∧
      (red (.entered 2 150 .policy)).grantedPower ≠ 0 ∧ (Reduction.entered 2 150 .policy).targetPower ≠ 0 ∧
      (Reduction.entered 0 0 .policy).targetPower = 0 ∧ ((at2 (card .raising)).slot 2).state = .raising := by
  refine ⟨?_, ⟨?_, ?_⟩, ?_⟩
  · exact ⟨fun _ => .inl rfl, nofun⟩
  · exact ⟨nofun, fun _ => ⟨by decide +kernel, .inr ⟨rfl, rfl, 3, rfl, by decide +kernel, by decide +kernel⟩⟩⟩
  all_goals unfold portClear cuIdle; decide +kernel

/-- R158: a DEMAND that replaces a list kept from a cut is taken once; REQUERY_SLOT behind it answers WRONG_STATE. -/
theorem test_requery_behind_a_demand :
    let s := after (.demandReply 2 0 goodDemand) (at2 { card .standby with outbox := [.reduced 0] } (asking .poll))
    let t := after (.requerySlot 2) s
    (t.slot 2).current = (s.slot 2).current ∧ (t.slot 2).state = .standby ∧
      (t.slot 2).outbox = [.reduced 0, .demand false none, .answer 0 0 .wrongState 4] := by decide +kernel

/-- The two states that return to IDENTIFY, an LE that holds nothing and one that is sending; a DEMAND taken; and a
state that is neither. -/
theorem witness_ResetAndRequeryIdentify :
    portClear (at2 (card .lockedOut)) ∧ cuIdle (at2 (card .lockedOut)) 0 ∧ 7 < (8 : Byte).toNat ∧
      (2 : Byte) = byteOf (2 : SlotId).val ∧ ((at2 (card .lockedOut)).slot 2).state = .lockedOut ∧
      ((at2 (card .standby)).slot 2).state = .standby ∧ ((at2 (card .standby)).slot 2).arriving = none ∧
      ((at2 (card .standby)).link 2).completing = false ∧
      ((at2 (card .standby) { idleLink with exchange := some (.fresh .poll .send 3 false) }).link 2).exchange =
        some (.fresh .poll .send 3 false) ∧ (Exchange.fresh .poll .send 3 false).phase = .send ∧
      .demand false none ∉ ((at2 (card .standby)).slot 2).outbox ∧
      ((at2 { card .standby with current := none }).slot 2).current = none ∧
      ((at2 { card .standby with arriving := some (listOf 0 [300]) }).slot 2).arriving ≠ none ∧
      (let r := (at2 { card .standby with outbox := [.reduced 0, .demand false none] }).slot 2
       r.state = .standby ∧ r.current ≠ none ∧ .demand false none ∈ r.outbox) ∧
      (Instr.resetSlot 2 ≠ .requerySlot 2 ∧ ((at2 (card .powered)).slot 2).state ≠ .faulted ∧
        ((at2 (card .powered)).slot 2).state ≠ .lockedOut ∧ ((at2 (card .powered)).slot 2).state ≠ .standby) := by
  unfold portClear cuIdle; decide +kernel

/-- After reset no pass finds anything to do; the range ends of HOLD and of each timing byte. -/
theorem witness_HoldAndTimingInstall :
    let s := State.reset
    portClear s ∧ cuIdle s 0 ∧ s.ae.reclaim.active = false ∧ s.ae.excess = false ∧ s.ae.entryOrder = [] ∧
      s.ae.grantOrder = [] ∧ 1 < (2 : Byte).toNat ∧ (1 : Byte).toNat ≤ 1 ∧ 7 < (8 : Byte).toNat ∧ (9 : Byte).toNat < 10 ∧
      250 < (251 : Byte).toNat ∧ 3 < (4 : Byte).toNat ∧ (1 : Byte) ≠ 0 ∧ (7 : Byte).toNat ≤ 7 ∧
      10 ≤ (10 : Byte).toNat ∧ (250 : Byte).toNat ≤ 250 ∧ (3 : Byte).toNat ≤ 3 := by
  unfold portClear cuIdle; decide +kernel

/-- Codes 00h and 08h on an idle CU and on a full one; a concluded tag, a free one and tag 4; a RUNNING command. -/
theorem witness_CommandSlotsAreBookkept :
    let full : State := { State.reset with cu := { State.reset.cu with
      cmds := .replicate 4 { CmdSlot.free with state := .done } } }
    let run := cmdAt State.reset .running
    portClear full ∧ (0 : Byte).toNat = 0 ∧ 7 < (8 : Byte).toNat ∧ full.freeTag = none ∧ cuIdle State.reset 0 ∧
      (3 : Byte) = byteOf (3 : Fin 4).val ∧ (full.cmd 3).state = .done ∧ 3 < (4 : Byte).toNat ∧
      ((State.reset.cmd 3).state ≠ .done ∧ (State.reset.cmd 3).state ≠ .failed ∧ (State.reset.cmd 3).state ≠ .running) ∧
      (0 : Byte) = byteOf (0 : Fin 4).val ∧ (run.cmd 0).state = .running ∧ run.oneRunning ∧
      ∀ u, (run.cmd u).state ≠ .queued := by
  unfold portClear cuIdle State.oneRunning; decide +kernel

/-! ### Witnesses: the window, the bus and the rules -/

/-- One captured record group of each kind, and a cursor before and at the last byte. -/
theorem witness_CaptureAndReadTheWindow :
    portClear State.reset ∧ State.reset.wu.buffer = [] ∧ groupField State.reset.wu.group = 0 ∧
      groupField 1 = 1 ∧ groupField 2 = 2 ∧ groupField 3 = 3 ∧
      (let l : State := { State.reset with wu := .restarted 6 1 0x0E }
       groupField l.wu.group = 2 ∧ groupClears l.wu.group = true ∧ (6 : SlotId) ∈ l.wu.walk ∧ (2 : SlotId) ∉ l.wu.walk) ∧
      (let w : Wu := { Wu.restarted 0 7 0 with buffer := [1, 2], cursor := 1 }
       w.buffer ≠ [] ∧ w.cursor + 1 = w.buffer.length ∧ ({ w with cursor := 0 } : Wu).cursor + 1 ≠ w.buffer.length) := by
  unfold portClear; decide +kernel

/-- The port in a write transfer at an offset. -/
def writingAt (off : Byte) (staging : Option Staging := none) : State :=
  { State.reset with hp := { State.reset.hp with phase := .writing, offset := off, staging := staging } }

/-- The port in a read transfer at an offset. -/
def readingAt (off : Byte) : State :=
  { State.reset with hp := { State.reset.hp with phase := .reading, offset := off } }

/-- After reset, with a START and this address byte on the bus. -/
def openedWrite (address : Byte) : State := after (.start address) State.reset

/-- Every byte of a write transfer is acknowledged, one to a read-only register too; another target's is not (R184). -/
theorem test_ignored_bytes_are_acknowledged :
    (openedWrite 0x74).hp.acked = true ∧ (after (.registerWrite 0) (writingAt 0x19)).hp.acked = true ∧
      (openedWrite 0x76).hp.acked = false ∧ (after (.registerWrite 0) (openedWrite 0x76)).hp.acked = false := by
  decide +kernel

/-- Offsets at the ends of their ranges; CMD_PARAM staged from its first byte and from its second; a restart requested;
a copy held, a register of one byte, of two, and none. -/
theorem witness_TransferBytesReachTheRegisters :
    (∀ off, portClear (writingAt off) ∧ (writingAt off).hp.phase = .writing ∧ (writingAt off).hp.offset = off ∧
      (readingAt off).hp.phase = .reading ∧ (readingAt off).hp.snapshot = none) ∧
      (0x01 : Byte).toNat ≤ 0x01 ∧ 0x0A ≤ (0x0A : Byte).toNat ∧ (0x11 : Byte).toNat ≤ 0x11 ∧
      0x1C ≤ (0x1C : Byte).toNat ∧ (0x41 : Byte).toNat ≤ 0x41 ∧ 0x4A ≤ (0x4A : Byte).toNat ∧
      (0x4F : Byte).toNat ≤ 0x4F ∧ 0x50 ≤ (0x50 : Byte).toNat ∧ 7 < (8 : Byte).toNat ∧ (7 : Byte).toNat ≤ 7 ∧ 15 < (16 : Byte).toNat ∧
      (15 : Byte).toNat ≤ 15 ∧ 0x14 ≤ (0x14 : Byte).toNat ∧ (0x17 : Byte).toNat ≤ 0x17 ∧
      (writingAt 0x18 (some { first := 0x13, bytes := [1, 2, 3, 4, 5] })).hp.staging =
        some { first := 0x13, bytes := [1, 2, 3, 4, 5] } ∧
      (writingAt 0x18 (some { first := 0x14, bytes := [2, 3, 4, 5] })).hp.staging =
        some { first := 0x14, bytes := [2, 3, 4, 5] } ∧ (0x14 : Byte) ≠ 0x13 ∧
      (∀ k, ({ writingAt 4 with hp := { (writingAt 4).hp with restart := some k } } : State).hp.restart = some k) ∧
      (readingAt 0x49).register 0x49 = none ∧ (readingAt 0x50).register 0x50 = none ∧
      (readingAt 0x19).register 0x19 = some (0x19, [0xFE]) ∧ ((0x49 : Byte) ≠ 0x48) ∧
      (readingAt 0x35).register 0x35 = some (0x34, [0, 0]) :=
  ⟨fun _ => ⟨⟨rfl, rfl⟩, rfl, rfl, rfl, rfl⟩, by decide, by decide, by decide, by decide, by decide, by decide,
    by decide, by decide, by decide, by decide, by decide, by decide, by decide, by decide, rfl, rfl, by decide, fun _ => rfl, by decide +kernel⟩

/-- The host's writes, a transfer ended with bytes staged, an address matched and not, the offset byte, and a byte that
belongs to no write transfer. -/
theorem witness_hostAccesses :
    State.reset.resetLow = false ∧ portClear State.reset ∧ State.reset.hp.phase = .idle ∧
      (writingAt 0x14 (some { first := 0x13, bytes := [1] })).hp.staging.isSome = true ∧
      (0x74 : Byte).extractLsb' 1 7 = State.reset.hp.address ∧ (0x76 : Byte).extractLsb' 1 7 ≠ State.reset.hp.address ∧
      (openedWrite 0x74).hp.phase = .writeOffset ∧ (openedWrite 0x74).hp.restart = none ∧
      (readingAt 0).hp.phase = .reading := by
  unfold portClear; decide +kernel

/-- Committed at EB exactly. -/
theorem witness_DecisionsStayWithinBudget :
    let s := { fivePowered with ae := { fivePowered.ae with budget := 1350 } }
    s.ae.committed ≤ s.ae.effective ∧ s.ae.committed = 1350 := by decide +kernel

/-- The shedding order of section 6.10, with a victim revoked. -/
theorem witness_VictimsCoverTheShortfall :
    ([4, 2, 7, 1] : List SlotId).Nodup ∧
      ∃ v ∈ fivePowered.selectVictims 400 [4, 2, 7, 1], v.revoke = true := by decide +kernel

/-- The wrapped walk of section 9.6, both ways, and a group of each kind of record. -/
theorem witness_CaptureWalksTheRange :
    (Wu.restarted 6 1 0x0E).first = byteOf (6 : SlotId).val ∧ (Wu.restarted 6 1 0x0E).last = byteOf (1 : SlotId).val ∧
      groupDescending 0x0E = true ∧ groupDescending 0x0A = false ∧ groupField 0x0E = 2 ∧ groupField 1 = 1 ∧
      groupField 0 = 0 ∧ (State.reset.slot 2).current = (State.reset.slot 3).current ∧
      State.reset.link 2 = State.reset.link 3 := by decide +kernel

/-- A queue of `n` RESTART records. -/
def held (n : Nat) (last : List Event) : Eu :=
  { State.reset.eu with queue := List.replicate n (Event.restarted 0 0) ++ last }

/-- 30 records; 31 with no OVERFLOW at the tail; 31 and 32 behind one. -/
theorem witness_AppendActsByRecordsHeld :
    let o : Event := { Event.restarted 0 0 with kind := .overflow }
    (held 30 []).queue.length ≤ 30 ∧ (held 30 [.restarted 0 0]).queue.length = 31 ∧
      (held 30 [.restarted 0 0]).queue = List.replicate 30 (.restarted 0 0) ++ [.restarted 0 0] ∧
      (Event.restarted 0 0).kind ≠ .overflow ∧ (held 30 [o]).queue.length = 31 ∧ (held 31 [o]).queue.length = 32 ∧
      o.kind = .overflow ∧ ((held 31 [o]).queue.getLast?.map Event.kind) = some .overflow := by decide +kernel

end Sys2Proof.Tests
end

section
/-! The demand checks of section 3.1: `demandCheck` as the five checks of R46 in the manual's words and order, then the
verdict of `readDemand`, which hangs on these checks before the max power is looked at. -/

namespace Sys2Proof.Machine

/-- R46, check 2: the count is from 1 to 6. -/
abbrev CountInRange (count : Nat) : Prop := 1 ≤ count ∧ count ≤ 6

/-- R46, check 4: every power is from 1 to 1023 BU. -/
abbrev PowersInRange (points : List Point) : Prop := ∀ p ∈ points, 1 ≤ p.power ∧ p.power ≤ 1023

/-- R46, check 5: every point's power is above that of each point listed after it. -/
abbrev PowersDescend (points : List Point) : Prop := points.Pairwise fun p q => q.power < p.power

theorem count_out_of_range_iff (count : Nat) : count = 0 ∨ 6 < count ↔ ¬CountInRange count := by omega

/-- The search of check 4 finds a point exactly when some power is out of range. -/
theorem any_power_out_of_range_iff (points : List Point) :
    points.any (fun x => x.power = 0 || decide (Config.maxPointPower < x.power)) = true ↔ ¬PowersInRange points := by
  have out_of_range (p : Point) :
      p.power = 0 ∨ Config.maxPointPower < p.power ↔ ¬(1 ≤ p.power ∧ p.power ≤ 1023) := by
    unfold Config.maxPointPower
    omega
  simp only [List.any_eq_true, Bool.or_eq_true, decide_eq_true_eq, out_of_range, PowersInRange, not_forall, exists_prop]

/-- Comparing neighbours is enough for check 5, as the order of powers is transitive. -/
theorem descending_iff (points : List Point) : descending points = true ↔ PowersDescend points := by
  induction points using descending.induct with
  | case1 x y rest ih =>
    have below_head (h : y.power < x.power) (hy : ∀ p ∈ rest, p.power < y.power) : ∀ p ∈ rest, p.power < x.power :=
      fun p hp => (hy p hp).trans h
    simp only [descending, Bool.and_eq_true, decide_eq_true_eq, ih, List.pairwise_cons, List.forall_mem_cons]
    tauto
  | case2 points short =>
    match points, short with
    | [], _ => simp [descending]
    | [x], _ => simp [descending]
    | x :: y :: rest, short => exact (short x y rest rfl).elim

/-- The checks of R46 in the order listed. -/
theorem demandCheck_eq (cls count : Nat) (points : List Point) :
    demandCheck cls count points =
      if ¬cls ≤ 3 then some 1
      else if ¬CountInRange count then some 2
      else if count ≠ points.length then some 3
      else if ¬PowersInRange points then some 4
      else if ¬PowersDescend points then some 5
      else none := by
  simp only [demandCheck, count_out_of_range_iff, any_power_out_of_range_iff, ← descending_iff, not_le,
    Bool.not_eq_true', Bool.not_eq_true]

/-- R46 read as a whole: no number when all five checks hold, else the number of the first that fails. -/
theorem demandCheck_iff (cls count : Nat) (points : List Point) :
    (demandCheck cls count points = none ↔
      cls ≤ 3 ∧ CountInRange count ∧ count = points.length ∧ PowersInRange points ∧ PowersDescend points) ∧
    (demandCheck cls count points = some 1 ↔ ¬cls ≤ 3) ∧
    (demandCheck cls count points = some 2 ↔ cls ≤ 3 ∧ ¬CountInRange count) ∧
    (demandCheck cls count points = some 3 ↔ cls ≤ 3 ∧ CountInRange count ∧ count ≠ points.length) ∧
    (demandCheck cls count points = some 4 ↔
      cls ≤ 3 ∧ CountInRange count ∧ count = points.length ∧ ¬PowersInRange points) ∧
    (demandCheck cls count points = some 5 ↔
      cls ≤ 3 ∧ CountInRange count ∧ count = points.length ∧ PowersInRange points ∧ ¬PowersDescend points) := by
  rw [demandCheck_eq]
  -- In each branch the number is known, and so is the outcome of every check up to the one that gives it.
  split_ifs <;> tauto

/-- A DEMAND reply is malformed by check `n` exactly when check `n` of R46 is the first to fail: trimming to the max
power comes after (R47). -/
theorem readDemand_eq_malformed_iff (payload : List Byte) (maxPower n : Nat) :
    readDemand payload maxPower = .malformed n ↔
      demandCheck (payload.getD 0 0).toNat (payload.getD 1 0).toNat (readPoints (payload.drop 3)) = some n := by
  unfold readDemand
  dsimp only
  split
  case h_1 m failed => rw [failed, Verdict.malformed.injEq, Option.some.injEq]
  case h_2 passed => rw [passed]; split <;> simp only [reduceCtorEq]

/-- A malformed record's DEMAND_BAD event: cause 1, then the number of the check (R46). -/
theorem State.demandBad_malformed_eu (s : State) (i : SlotId) (n : Nat) :
    (s.demandBad i (.malformed n)).eu = s.eu.append .demandBad (some i) 1 (BitVec.ofNat 16 n) := rfl

/-- Settles O58: the verdict by `readDemand_eq_malformed_iff`, which names the max power on one side alone, the number
by `demandCheck_iff`. -/
theorem demandChecksNameTheFirstFailure : Obligations.DemandChecksNameTheFirstFailure := by
  refine ⟨fun payload maxPower maxPower' n => ?_, fun cls count points => ?_, State.demandBad_malformed_eu⟩
  · have malformed_iff := readDemand_eq_malformed_iff payload maxPower n
    exact ⟨malformed_iff.trans (readDemand_eq_malformed_iff payload maxPower' n).symm, malformed_iff⟩
  · simpa only [not_le, and_assoc] using demandCheck_iff cls count points

end Sys2Proof.Machine
end

section
/-! The append of section 8.3: the table of R166 as one equation per row, the class bits of a dropped event (R169), and
the queue's bound, which hangs on the rows alone. -/

namespace Sys2Proof.Machine

@[simp] theorem Eu.keep_queue (e : Eu) (k : EventKind) (slot : Option SlotId) (a : Byte) (b : Half) :
    (e.keep k slot a b).queue =
      e.queue ++ [{ seq := e.nextSeq, kind := k, slot := slot, a := a, b := b, time := e.timeMs }] := rfl
@[simp] theorem Eu.keep_nextSeq (e : Eu) (k : EventKind) (slot : Option SlotId) (a : Byte) (b : Half) :
    (e.keep k slot a b).nextSeq = e.nextSeq + 1 := rfl
@[simp] theorem Eu.keep_intStatus (e : Eu) (k : EventKind) (slot : Option SlotId) (a : Byte) (b : Half) :
    (e.keep k slot a b).intStatus = e.intStatus := rfl
@[simp] theorem Eu.raiseBits_queue (e : Eu) (mask : Half) : (e.raiseBits mask).queue = e.queue := rfl
@[simp] theorem Eu.raiseBits_nextSeq (e : Eu) (mask : Half) : (e.raiseBits mask).nextSeq = e.nextSeq := rfl
@[simp] theorem Eu.raiseBits_intStatus (e : Eu) (mask : Half) :
    (e.raiseBits mask).intStatus = e.intStatus ||| mask := rfl
@[simp] theorem Event.counted_kind (r : Event) : r.counted.kind = r.kind := rfl

/-- What a dropped event leaves: its class bit and that of OVERFLOW (R166, R169). -/
def Eu.dropping (e : Eu) (k : EventKind) : Eu := e.raiseBits (k.classMask ||| EventKind.overflow.classMask)

@[simp] theorem Eu.dropping_queue (e : Eu) (k : EventKind) : (e.dropping k).queue = e.queue := rfl
@[simp] theorem Eu.dropping_nextSeq (e : Eu) (k : EventKind) : (e.dropping k).nextSeq = e.nextSeq := rfl
@[simp] theorem Eu.dropping_timeMs (e : Eu) (k : EventKind) : (e.dropping k).timeMs = e.timeMs := rfl
@[simp] theorem Eu.dropping_intStatus (e : Eu) (k : EventKind) :
    (e.dropping k).intStatus = e.intStatus ||| k.classMask ||| 0x0100 :=
  (BitVec.or_assoc ..).symm

/-- The bound of R166 on the queue: at most 32 records, a queue of 32 ending in OVERFLOW. -/
def Eu.Bounded (e : Eu) : Prop :=
  e.queue.length ≤ 32 ∧ (e.queue.length = 32 → (e.queue.getLast?.map Event.kind) = some .overflow)

theorem State.eventsBounded_iff (s : State) : s.eventsBounded ↔ s.eu.Bounded := Iff.rfl

variable {e : Eu} {older : List Event} {r : Event}

theorem Eu.bounded_of_length_le (short : e.queue.length ≤ 31) : e.Bounded :=
  ⟨by omega, fun full => by omega⟩

theorem Eu.bounded_of_queue_eq (queue_eq : e.queue = older ++ [r]) (overflow : r.kind = .overflow)
    (short : older.length ≤ 31) : e.Bounded := by
  have length_eq : e.queue.length = older.length + 1 := by simp [queue_eq]
  exact ⟨by omega, fun _ => by simp [queue_eq, overflow]⟩

/-! ### The rows of R166 -/

theorem Eu.append_of_length_le (k : EventKind) (slot : Option SlotId) (a : Byte) (b : Half)
    (room : e.queue.length ≤ 30) : e.append k slot a b = (e.keep k slot a b).raiseBits k.classMask :=
  if_pos (Nat.lt_succ_of_le room)

/-- The rows of 31 and 32 records, told apart by the last one. -/
theorem Eu.append_of_le_length (k : EventKind) (slot : Option SlotId) (a : Byte) (b : Half)
    (queue_eq : e.queue = older ++ [r]) (full : 31 ≤ e.queue.length) :
    e.append k slot a b =
      if r.kind = .overflow then { e.dropping k with queue := older ++ [r.counted] }
      else if e.queue.length = 31 then (e.dropping k).keep .overflow none 0 1
      else e.dropping k := by
  have last : e.queue.getLast? = some r := by simp [queue_eq]
  have front : e.queue.dropLast = older := by simp [queue_eq]
  unfold Eu.append
  rw [if_neg (Nat.not_lt.mpr full), last, front]
  rfl

theorem Eu.append_behind_overflow (k : EventKind) (slot : Option SlotId) (a : Byte) (b : Half)
    (queue_eq : e.queue = older ++ [r]) (full : 31 ≤ e.queue.length) (overflow : r.kind = .overflow) :
    e.append k slot a b = { e.dropping k with queue := older ++ [r.counted] } := by
  rw [Eu.append_of_le_length k slot a b queue_eq full, if_pos overflow]

theorem Eu.append_takes_last_place (k : EventKind) (slot : Option SlotId) (a : Byte) (b : Half)
    (queue_eq : e.queue = older ++ [r]) (full : e.queue.length = 31) (other : r.kind ≠ .overflow) :
    e.append k slot a b = (e.dropping k).keep .overflow none 0 1 := by
  rw [Eu.append_of_le_length k slot a b queue_eq full.ge, if_neg other, if_pos full]

/-- A dropped event sets its class bit and that of OVERFLOW, whatever the last record (R169). -/
theorem Eu.append_intStatus_of_le_length (k : EventKind) (slot : Option SlotId) (a : Byte) (b : Half)
    (queue_eq : e.queue = older ++ [r]) (full : 31 ≤ e.queue.length) :
    (e.append k slot a b).intStatus = e.intStatus ||| k.classMask ||| 0x0100 := by
  rw [Eu.append_of_le_length k slot a b queue_eq full]
  split_ifs <;> exact Eu.dropping_intStatus e k

/-- A bounded queue stays bounded: a new record makes at most 31, counting keeps the length and the OVERFLOW at the
tail, and the 32nd record is an OVERFLOW. -/
theorem Eu.Bounded.append (bounded : e.Bounded) (k : EventKind) (slot : Option SlotId) (a : Byte) (b : Half) :
    (e.append k slot a b).Bounded := by
  obtain ⟨at_most, ends_in_overflow⟩ := bounded
  by_cases room : e.queue.length ≤ 30
  · apply Eu.bounded_of_length_le
    simpa [Eu.append_of_length_le k slot a b room] using Nat.lt_succ_of_le room
  have full : 31 ≤ e.queue.length := by omega
  have nonempty : e.queue ≠ [] := List.ne_nil_of_length_pos (by omega)
  obtain ⟨older, r, queue_eq⟩ := (List.eq_nil_or_concat' e.queue).resolve_left nonempty
  have length_eq : e.queue.length = older.length + 1 := by simp [queue_eq]
  by_cases overflow : r.kind = .overflow
  · rw [Eu.append_behind_overflow k slot a b queue_eq full overflow]
    exact Eu.bounded_of_queue_eq rfl (r.counted_kind.trans overflow) (by omega)
  · have not_32 : e.queue.length ≠ 32 := fun is_32 => overflow (by simpa [queue_eq] using ends_in_overflow is_32)
    have is_31 : e.queue.length = 31 := by omega
    rw [Eu.append_takes_last_place k slot a b queue_eq is_31 overflow]
    exact Eu.bounded_of_queue_eq (Eu.keep_queue ..) rfl is_31.le

/-- Settles O60: each row by its equation, the bound by `Eu.Bounded.append`. -/
theorem appendActsByRecordsHeld : Obligations.AppendActsByRecordsHeld := by
  intro e k slot a b
  refine ⟨fun room => ?_, fun older r queue_eq full _ => ⟨?_, fun overflow => ?_, fun other is_31 => ?_⟩,
    fun bounded => Eu.Bounded.append bounded k slot a b⟩
  · simp [Eu.append_of_length_le k slot a b room]
  · exact Eu.append_intStatus_of_le_length k slot a b queue_eq full
  · rw [Eu.append_behind_overflow k slot a b queue_eq full overflow]
    exact ⟨rfl, rfl⟩
  · simp [Eu.append_takes_last_place k slot a b queue_eq is_31 other]

end Sys2Proof.Machine
end

section
/-! The walk of section 9.1: each slot of the ascending walk by its place, so that its ends, its length and its reverse
are facts about places, then the records a capture copies along it (R175). -/

namespace Sys2Proof.Machine

/-! ### The steps of a walk -/

/-- The slot `k` steps up lies at place `k`. -/
theorem slotsFrom_eq_map_range (n : Nat) (i : SlotId) :
    slotsFrom n i = (List.range n).map fun k => i + Fin.ofNat 8 k := by
  induction n generalizing i with
  | zero => rfl
  | succ n ih =>
    have step_first (k : Nat) : i + 1 + Fin.ofNat 8 k = i + Fin.ofNat 8 (k + 1) := by
      apply Fin.ext
      simp only [Fin.val_add, Fin.val_ofNat, Fin.val_one]
      omega
    simp only [slotsFrom, ih, step_first, List.range_succ_eq_map, List.map_cons, List.map_map, Function.comp_def,
      Nat.succ_eq_add_one, Fin.ofNat_zero, add_zero]

/-- Up to eight steps from a slot reach no slot twice. -/
theorem slotsFrom_nodup {n : Nat} (atMost : n ≤ 8) (i : SlotId) : (slotsFrom n i).Nodup := by
  rw [slotsFrom_eq_map_range]
  refine List.nodup_range.map_on fun j hj k hk same_slot => ?_
  have same_steps : j % 8 = k % 8 := congrArg Fin.val (add_left_cancel same_slot)
  have := List.mem_range.mp hj
  have := List.mem_range.mp hk
  omega

section
variable (first last : SlotId)

/-- The places of the range less one, by whether it wraps. -/
theorem val_last_sub_first :
    (last - first).val = if first.val ≤ last.val then last.val - first.val else 8 - first.val + last.val := by
  rw [Fin.val_sub]
  split_ifs <;> omega

@[simp] theorem ascending_length : (ascending first last).length = (last - first).val + 1 := by
  simp [ascending, slotsFrom_eq_map_range]

theorem ascending_nodup : (ascending first last).Nodup := slotsFrom_nodup (by omega) first

variable {first last}

theorem ascending_getElem? {k : Nat} (inside : k < (ascending first last).length) :
    (ascending first last)[k]? = some (first + Fin.ofNat 8 k) := by
  rw [ascending_length] at inside
  simp [ascending, slotsFrom_eq_map_range, List.getElem?_range inside]

/-- The slot `k` places before the end of the ascending walk is `k` steps down from `last`. -/
theorem ascending_reverse_getElem? {k : Nat} (inside : k < (ascending first last).length) :
    (ascending first last).reverse[k]? = some (last - Fin.ofNat 8 k) := by
  have steps_from_both_ends : first + Fin.ofNat 8 ((last - first).val - k) = last - Fin.ofNat 8 k := by
    rw [ascending_length, Fin.val_sub] at inside
    apply Fin.ext
    simp only [Fin.val_add, Fin.val_sub, Fin.val_ofNat]
    omega
  rw [List.getElem?_reverse inside, ascending_getElem? (by omega), ascending_length, Nat.add_sub_cancel,
    steps_from_both_ends]

variable (first last)

theorem ascending_head? : (ascending first last).head? = some first := rfl

theorem ascending_getLast? : (ascending first last).getLast? = some last := by
  have at_start := ascending_reverse_getElem? (first := first) (last := last) (k := 0) (by simp)
  rw [← List.head?_reverse, List.head?_eq_getElem?, at_start]
  simp

end

/-! ### The walk of the selection registers -/

theorem selected_byteOf (i : SlotId) : selected (byteOf i.val) = i := by
  apply Fin.ext
  simp only [selected, byteOf, BitVec.toNat_ofNat]
  omega

section
variable {w : Wu}

theorem Wu.walk_of_not_descending (up : groupDescending w.group = false) :
    w.walk = ascending (selected w.first) (selected w.last) := by
  simp [Wu.walk, up]

theorem Wu.walk_of_descending (down : groupDescending w.group = true) :
    w.walk = (ascending (selected w.first) (selected w.last)).reverse := by
  simp [Wu.walk, down]

variable (w)

/-- The group bits alone set the direction: group 0 ascends. -/
theorem Wu.walk_group_zero : ({ w with group := 0 } : Wu).walk = ascending (selected w.first) (selected w.last) :=
  Wu.walk_of_not_descending (show groupDescending 0 = false by decide)

/-- Both directions visit the same slots, in one order or the other. -/
theorem Wu.walk_perm_ascending : w.walk.Perm (ascending (selected w.first) (selected w.last)) := by
  cases direction : groupDescending w.group with
  | false => rw [Wu.walk_of_not_descending direction]
  | true => rw [Wu.walk_of_descending direction]; exact List.reverse_perm _

end

/-! ### The records along the walk -/

section
variable {s : State}

theorem State.captured_of_summary_group (group : groupField s.wu.group = 0) :
    s.captured = s.wu.walk.flatMap s.summary :=
  if_pos group

theorem State.captured_of_demand_group (group : groupField s.wu.group = 1) :
    s.captured = s.wu.walk.flatMap s.demandRecord := by
  simp [State.captured, group]

theorem State.captured_of_link_group (group : groupField s.wu.group = 2) :
    s.captured = s.wu.walk.flatMap fun i => (s.link i).record := by
  simp [State.captured, group]

/-- A SUMMARY record begins with its slot number (R180). -/
theorem State.summary_head? (s : State) (i : SlotId) : (s.summary i).head? = some (byteOf i.val) := rfl

/-- A DEMAND record shows the current list and nothing else of its slot (R181). -/
theorem State.demandRecord_congr {i j : SlotId} (same_list : (s.slot i).current = (s.slot j).current) :
    s.demandRecord i = s.demandRecord j := by
  simp only [State.demandRecord, same_list]

end

/-- Settles O59: each direction's walk as the ascending one or its reverse, whose slots are known by place; the records
by group. -/
theorem captureWalksTheRange : Obligations.CaptureWalksTheRange := by
  refine ⟨fun w first last first_eq last_eq => ?_,
    fun s => ⟨State.captured_of_summary_group, State.captured_of_demand_group, State.captured_of_link_group⟩,
    fun s i j => ⟨s.summary_head? i, State.demandRecord_congr, congrArg LinkRec.record⟩⟩
  have perm := w.walk_perm_ascending
  have up_eq := Wu.walk_of_not_descending (w := w)
  have down_eq := Wu.walk_of_descending (w := w)
  rw [first_eq, last_eq, selected_byteOf, selected_byteOf] at perm up_eq down_eq
  refine ⟨?_, perm.nodup_iff.mpr (ascending_nodup first last), fun up => ?_, fun down => ?_⟩
  · rw [perm.length_eq, ascending_length, val_last_sub_first]
    split_ifs <;> rfl
  · rw [up_eq up]
    exact ⟨ascending_head? first last, ascending_getLast? first last, fun k => ascending_getElem?⟩
  · rw [w.walk_group_zero, first_eq, last_eq, selected_byteOf, selected_byteOf, down_eq down]
    refine ⟨?_, ?_, fun k inside => ?_, rfl⟩
    · rw [List.head?_reverse, ascending_getLast?]
    · rw [List.getLast?_reverse, ascending_head?]
    · exact ascending_reverse_getElem? (by simpa using inside)

end Sys2Proof.Machine
end

section
/-! Every command as a composition of a few kinds of act: what a Slot Sequencer does, what the Allocation Engine does, and
small changes of the Command Unit, the Window Unit, the Event Unit and the Host Port. A property that each kind of act
keeps (`ActClosed`) is kept by every happening (`exec_cases`), so an invariant is proved act by act and no more. -/

namespace Sys2Proof.Machine

/-- The acts of slot `i`'s Slot Sequencer that a happening, or a command of the CU, brings about. -/
inductive SlotAct (i : SlotId) : (State → State) → Prop
  | sample (presN pg fltN : Option Bool) : SlotAct i fun s => s.sample i presN pg fltN
  | settleExpires : SlotAct i fun s => s.settleExpires i
  | rampExpires : SlotAct i fun s => s.rampExpires i
  | reduceExpires : SlotAct i fun s => s.reduceExpires i
  | graceExpires : SlotAct i fun s => s.graceExpires i
  | holdoffExpires : SlotAct i fun s => s.holdoffExpires i
  | cleanExpires : SlotAct i fun s => s.cleanExpires i
  | lineTimeout (attempt : Bool) : SlotAct i fun s => s.lineTimeout i attempt
  | windowClosed : SlotAct i fun s => s.windowClosed i
  | receive (r : Reply) : SlotAct i fun s => s.receive i r
  | receiveBytes (bytes : List Byte) : SlotAct i fun s => s.receiveBytes i bytes
  | nextMap : SlotAct i fun s => s.nextMap i
  | takeRevoke (k : Fin 4) (num : Byte) : SlotAct i fun s => s.takeRevoke i k num
  | takeReset (k : Fin 4) (num : Byte) : SlotAct i fun s => s.takeReset i k num
  | takeRequery (k : Fin 4) (num : Byte) : SlotAct i fun s => s.takeRequery i k num
  | unwatch (k : Fin 4) (num : Byte) : SlotAct i fun s => s.modSlot i fun r => r.unwatch k num
  | watchCheck : SlotAct i fun s => s.watchCheck i

/-- An act of one slot's SS touches that slot alone, the AE's lists and the events. -/
theorem SlotAct.frame {i : SlotId} {f : State → State} (act : SlotAct i f) (s : State) : SlotFrame i s (f s) := by
  cases act <;> simp

/-- The window cursor of R177, read off the WU's record. -/
def Wu.CursorRight (w : Wu) : Prop :=
  if w.buffer.isEmpty then w.cursor = 0 ∧ w.wrap = false else w.cursor < w.buffer.length

theorem Wu.CursorRight.advance {w : Wu} (right : w.CursorRight) : w.advance.CursorRight := by
  unfold Wu.CursorRight at right ⊢
  unfold Wu.advance
  by_cases empty : w.buffer.isEmpty
  · simpa [empty] using right
  · simp only [empty, Bool.false_eq_true, if_false] at right ⊢
    split
    · simp; omega
    · simp only; omega

theorem Wu.CursorRight.capture (w : Wu) (bytes : List Byte) : (w.capture bytes).CursorRight := by
  cases bytes <;> simp [Wu.CursorRight, Wu.capture]

/-- A property that no act of a command of the CU breaks, kind by kind. The premises of a kind are what the place it is
called from has checked. -/
structure CommandClosed (P : State → Prop) : Prop where
  slot : ∀ i f s, SlotAct i f → P s → P (f s)
  rules : ∀ s due, P s → P (s.aeRules due)
  budgets : ∀ s b r d, P s → P (s.installBudgets b r d)
  hold : ∀ s b, P s → P (s.setHold b)
  policyWait : ∀ s l, P s → P { s with cu := { s.cu with policyWait := l } }
  timing : ∀ s c, P s → P { s with cu := { s.cu with settings := s.cu.settings.timed c } }
  policy : ∀ s i p, p.maxPower ≠ 0 → P s → P (s.installPolicy i p)
  policyStep : ∀ s q, (s.slot q.slot).outbox = [] → P s → P (s.policyStep q)
  start : ∀ s t, s.running = none → P s → P (s.modCmd t fun c => { c with state := .running })
  conclude : ∀ s t r d, P s → P (s.conclude t r d)

/-- A property that no act of the running part breaks, kind by kind. -/
structure ActClosed (P : State → Prop) : Prop extends CommandClosed P where
  link : ∀ s i f, P s → P (s.modLink i f)
  hp : ∀ s h, P s → P { s with hp := h }
  inputs : ∀ s v, P s → P { s with inputs := v }
  wu : ∀ s w, (s.wu.CursorRight → w.CursorRight) → P s → P { s with wu := w }
  evtPop : ∀ s, P s → P s.pop
  interrupts : ∀ s status enable, P s → P { s with eu := { s.eu with intStatus := status, intEnable := enable } }
  notice : ∀ s i n rest, (s.slot i).outbox = n :: rest → P s → P ((s.popNotice i).aeNotice i n)
  derate : ∀ s high k n, P s →
    P ((({ s with ae := { s.ae with derateN := high } } : State).event k none 0 n).evalExcess)
  port : ∀ s count result param, P s →
    P { s with cu := { s.cu with count := count, submitResult := result, param := param } }
  submit : ∀ s t c, c.state = .queued → P s → P (s.modCmd t fun _ => c)
  retire : ∀ s t, P s → P (s.modCmd t fun _ => CmdSlot.free)
  coldStart : ∀ s first a, P s → P (s.coldStart first a)
  warmStart : ∀ s, P s → P s.warmStart

theorem restartAs_full (s : State) : s.restartAs .full = s.coldStart s.inputs 1 := rfl

theorem restartAs_keepPower (s : State) : s.restartAs .keepPower = s.warmStart := rfl

namespace CommandClosed

variable {P : State → Prop} (closed : CommandClosed P) {s : State}
include closed

/-! ### The Command Unit -/

theorem checked (t : Fin 4) {bad : Option Nat} {run : State → State} (h : P s)
    (passed : bad = none → P (run s)) : P (s.checked t bad run) := by
  unfold State.checked
  split
  · exact closed.conclude _ _ _ _ h
  · exact passed rfl

theorem toSlot (c : CmdSlot) {f : SlotId → State → State} (act : ∀ i, SlotAct i (f i)) (h : P s) :
    P (s.toSlot c f) := by
  unfold State.toSlot
  split
  · exact closed.slot _ _ _ (act _) h
  · exact h

theorem runBudget (t : Fin 4) (c : CmdSlot) (h : P s) : P (s.runBudget t c) := by
  have ruled := closed.rules _ (passCause s (s.installBudgets (c.half 1) (c.half 3) (c.half 5)))
    (closed.budgets _ (c.half 1) (c.half 3) (c.half 5) h)
  unfold State.runBudget
  dsimp only
  split
  · exact ruled
  · exact closed.conclude _ _ _ _ ruled

theorem runPolicy (t : Fin 4) (c : CmdSlot) (passed : badPolicy c = none) (h : P s) : P (s.runPolicy t c) := by
  have positive : c.policy.maxPower ≠ 0 := by
    unfold badPolicy at passed
    split_ifs at passed
    simp only [CmdSlot.policy]
    omega
  unfold State.runPolicy
  split
  · exact h
  · dsimp only
    split
    next i _ idle => exact closed.policyStep _ _ (List.isEmpty_iff.mp idle) (closed.policy _ _ _ positive h)
    next i _ _ => exact closed.policyWait _ _ (closed.policy _ _ _ positive h)

theorem runHold (t : Fin 4) (c : CmdSlot) (h : P s) : P (s.runHold t c) := by
  unfold State.runHold
  dsimp only
  refine closed.conclude _ _ _ _ ?_
  split
  · exact closed.hold _ _ (closed.rules _ _ h)
  · exact closed.rules _ _ (closed.hold _ _ h)

theorem runTiming (t : Fin 4) (c : CmdSlot) (h : P s) : P (s.runTiming t c) :=
  closed.conclude _ _ _ _ (closed.rules _ _ (closed.timing _ c h))

theorem runCommand (t : Fin 4) (h : P s) : P (s.runCommand t) := by
  unfold State.runCommand
  dsimp only
  split
  · exact closed.checked t h fun _ => closed.runBudget _ _ h
  · exact closed.checked t h fun passed => closed.runPolicy _ _ passed h
  · exact closed.checked t h fun _ => closed.rules _ _ (closed.toSlot _ (fun _ => .takeRevoke _ _) h)
  · exact closed.checked t h fun _ => closed.toSlot _ (fun _ => .takeReset _ _) h
  · exact closed.checked t h fun _ => closed.toSlot _ (fun _ => .takeRequery _ _) h
  · exact closed.checked t h fun _ => closed.runHold _ _ h
  · exact closed.checked t h fun _ => closed.runTiming _ _ h
  · exact closed.conclude _ _ _ _ h

theorem cuRun (n : Nat) (h : P s) : P (State.cuRun n s) := by
  induction n generalizing s with
  | zero => exact h
  | succ n ih =>
    unfold State.cuRun
    split
    · exact h
    next idle =>
      split
      · exact h
      · exact ih (closed.runCommand _ (closed.start _ _ idle h))

theorem startNext (h : P s) : P s.startNext := closed.cuRun 4 h

theorem excessExit (before : Bool) (h : P s) : P (s.excessExit before) := by
  unfold State.excessExit
  split
  · split
    · exact closed.startNext (closed.conclude _ _ _ _ h)
    · exact h
  · exact h

end CommandClosed

namespace ActClosed

variable {P : State → Prop} (closed : ActClosed P) {s : State}
include closed

/-! ### The Command Unit's registers and notices -/

theorem submitCode (code : Byte) (h : P s) : P (s.submit code) := by
  unfold State.submit
  split
  · exact closed.port s _ _ _ h
  · exact closed.startNext (closed.port _ _ _ s.cu.param (closed.submit s _ _ rfl h))

theorem badValue (h : P s) : P s.badValue := closed.hp _ _ h

theorem retireByte (b : Byte) (h : P s) : P (s.retire b) := by
  unfold State.retire
  split
  · exact closed.badValue h
  · split
    · exact closed.retire _ _ h
    · exact closed.badValue h

theorem unwatch (t : Fin 4) (h : P s) : P (s.unwatch t) := by
  unfold State.unwatch
  split
  · exact closed.slot _ _ _ (.unwatch _ _) h
  · exact h

theorem abort (b : Byte) (h : P s) : P (s.abort b) := by
  unfold State.abort
  split
  · exact closed.badValue h
  · split
    · exact closed.startNext (closed.conclude _ _ _ _ (closed.unwatch _ h))
    · exact closed.badValue h

theorem relay (n : Notice) (h : P s) : P (s.relay n) := by
  unfold State.relay
  split
  · split
    · exact closed.startNext (closed.conclude _ _ _ _ h)
    · exact h
  · exact h

theorem policyRun (i : SlotId) (q : PolicyReq) (h : P s) : P (State.policyRun i s q) := by
  unfold State.policyRun
  split
  next due =>
    simp only [Bool.and_eq_true, beq_iff_eq, List.isEmpty_iff] at due
    obtain ⟨rfl, idle⟩ := due
    exact closed.excessExit _ (closed.policyStep _ _ idle (closed.policyWait _ _ h))
  · exact h

omit closed in
theorem foldl {α : Type} {f : State → α → State} (visit : ∀ s a, P s → P (f s a)) (l : List α) (h : P s) :
    P (l.foldl f s) := by
  induction l generalizing s with
  | nil => exact h
  | cons a l ih => exact ih (visit s a h)

theorem noticeOf (kind : Notice → Bool) (i : SlotId) (h : P s) : P (State.noticeOf kind i s) := by
  unfold State.noticeOf
  split
  · exact h
  next n rest outbox_eq =>
    split
    · exact ActClosed.foldl (fun _ _ => closed.policyRun i _) _
        (closed.relay _ (closed.excessExit _ (closed.notice s i n rest outbox_eq h)))
    · exact h

theorem takeDerate (high : Bool) (h : P s) : P (s.takeDerate high) := by
  unfold State.takeDerate
  split
  · exact h
  · exact closed.excessExit _ (closed.rules _ _ (closed.derate s high _ _ h))

/-! ### The Host Port -/

theorem endTransfer (h : P s) : P s.endTransfer := by
  unfold State.endTransfer
  split
  next k _ =>
    have ended := closed.hp s { s.hp with phase := .idle, staging := none } h
    cases k with
    | full => rw [restartAs_full]; exact closed.coldStart _ _ _ ended
    | keepPower => rw [restartAs_keepPower]; exact closed.warmStart _ ended
  · exact closed.hp _ _ h

theorem stopBus (h : P s) : P s.stopBus := by
  unfold State.stopBus
  split
  · exact h
  · exact closed.endTransfer h

theorem startBus (address : Byte) (h : P s) : P (s.startBus address) := by
  unfold State.startBus
  split
  · exact closed.stopBus h
  · exact closed.hp _ _ (closed.stopBus h)

theorem setOffset (b : Byte) (h : P s) : P (s.setOffset b) := by
  have heard : P s.heard := closed.hp _ _ h
  unfold State.setOffset
  dsimp only
  split
  · exact closed.hp _ _ heard
  · exact heard

theorem deliverStaged (base : Nat) (bytes : List Byte) (h : P s) : P (s.deliverStaged base bytes) := by
  unfold State.deliverStaged
  dsimp only
  split
  · exact closed.interrupts s _ _ h
  · split
    · exact closed.interrupts s _ _ h
    · exact closed.port s _ _ _ h

theorem stageByte (base last : Nat) (b : Byte) (h : P s) : P (s.stageByte base last b) := by
  unfold State.stageByte
  dsimp only
  split
  · split
    · exact closed.deliverStaged _ _ (closed.hp _ _ h)
    · exact closed.hp _ _ (closed.hp _ _ h)
  · exact closed.hp _ _ h

theorem setWindow (off : Nat) (b : Byte) (h : P s) : P (s.setWindow off b) := by
  unfold State.setWindow
  split_ifs
  · exact closed.wu _ _ id h
  · exact closed.badValue h
  · exact closed.badValue h
  · exact closed.wu _ _ id h
  · exact closed.wu _ _ id h

theorem capture (h : P s) : P s.capture := by
  refine closed.wu s.clearCaptured _ (fun _ => Wu.CursorRight.capture _ _) ?_
  unfold State.clearCaptured
  split
  · exact ActClosed.foldl (fun _ _ => closed.link _ _ _) _ h
  · exact h

theorem requestRestart (b : Byte) (h : P s) : P (s.requestRestart b) := by
  unfold State.requestRestart
  split_ifs
  · exact closed.hp _ _ h
  · exact closed.hp _ _ h
  · exact closed.badValue h

theorem deliverByte (off : Nat) (b : Byte) (h : P s) : P (s.deliverByte off b) := by
  unfold State.deliverByte
  split_ifs
  · exact closed.hp _ _ h
  · exact closed.requestRestart b h
  · exact closed.evtPop _ h
  · exact closed.submitCode b h
  · exact closed.retireByte b h
  · exact closed.abort b h
  · exact closed.setWindow _ _ h
  · exact closed.capture h
  · exact closed.badValue h
  · exact closed.hp _ _ h
  · exact closed.hp _ _ h

theorem writeByte (b : Byte) (h : P s) : P (s.writeByte b) := by
  have heard : P s.heard := closed.hp _ _ h
  unfold State.writeByte
  dsimp only
  split
  · exact heard
  · split
    · exact closed.hp _ _ (closed.stageByte _ _ _ heard)
    · exact closed.hp _ _ (closed.deliverByte _ _ heard)

theorem openWrite (off : Byte) (h : P s) : P (s.openWrite off) :=
  closed.setOffset _ (closed.startBus _ (closed.stopBus h))

theorem hostWrite (off : Byte) (bytes : List Byte) (h : P s) : P (s.hostWrite off bytes) := by
  unfold State.hostWrite
  split
  · exact ActClosed.foldl (fun _ _ => closed.writeByte _) _ h
  · exact closed.stopBus (ActClosed.foldl (fun _ _ => closed.writeByte _) _ (closed.openWrite off h))

theorem readByte (ack : Bool) (h : P s) : P (s.readByte ack) := by
  unfold State.readByte
  split
  · exact closed.wu { s with hp := s.hp.sentByte s.wu.dataByte none ack } _ Wu.CursorRight.advance (closed.hp _ _ h)
  · split
    · exact closed.hp _ _ h
    · exact closed.hp _ _ h

theorem hostReadData (ack : Bool) (h : P s) : P (s.hostReadData ack) := by
  unfold State.hostReadData
  split
  · exact closed.readByte ack h
  · exact closed.stopBus (closed.readByte ack (closed.startBus _ (closed.openWrite _ h)))

theorem hostCommand (code : Byte) (params : List Byte) (h : P s) : P (s.hostCommand code params) :=
  closed.hostWrite _ _ (closed.hostWrite _ _ h)

theorem hostRestart (b : Byte) (h : P s) : P (s.hostRestart b) := closed.stopBus (closed.hostWrite _ _ h)

/-! ### The commands -/

theorem atSlot {i : SlotId} {f : State → State} (act : SlotAct i f) (h : P s) : P (atSlot i f s) :=
  closed.slot i _ (f s) .watchCheck (closed.slot i f s act h)

theorem levels (i : SlotId) (presN pg fltN : Option Bool) (h : P s) : P (s.levels i presN pg fltN) :=
  closed.atSlot (.sample presN pg fltN) (closed.inputs _ _ h)

omit closed in
theorem happening {f : State → State} {t : State} (answer : Machine.happening f s = .next t)
    (effect : P s.elapse → P (f s.elapse)) : (s.resetLow = true ∧ t = s) ∨ (s.resetLow = false ∧ (P s.elapse → P t)) := by
  cases low : s.resetLow with
  | true => rw [happening_low f low] at answer; cases answer; exact .inl ⟨rfl, rfl⟩
  | false => rw [happening_running f low] at answer; cases answer; exact .inr ⟨rfl, effect⟩

/-- What a command does: the two of RESET_N aside, nothing while RESET_N is low, and else only acts of the running part
once time has passed. -/
theorem exec_cases {c : Instr} {t : State} (answer : exec c s = .next t) :
    (∃ first, c = .pinReset first ∧ t = s.coldStart first 0) ∨ (c = .resetNLow ∧ t = s.rest) ∨
      (s.resetLow = true ∧ t = s) ∨ (s.resetLow = false ∧ (P s.elapse → P t)) := by
  cases c <;> rw [exec] at answer
  case pinReset first => exact .inl ⟨first, rfl, (Host.Outcome.next.inj answer).symm⟩
  case resetNLow => exact .inr (.inl ⟨rfl, (Host.Outcome.next.inj answer).symm⟩)
  case fullRestart first =>
    refine .inr (.inr (ActClosed.happening answer fun h => ?_))
    have sampled := closed.inputs _ first h
    dsimp only
    split
    · exact closed.stopBus sampled
    · exact closed.hostRestart _ sampled
  case keepPowerRestart =>
    refine .inr (.inr (ActClosed.happening answer fun h => ?_))
    split
    · exact closed.stopBus h
    · exact closed.hostRestart _ h
  case derateNLevel high =>
    exact .inr (.inr (ActClosed.happening answer fun h => closed.takeDerate high (closed.inputs _ _ h)))
  case presenceLow v => exact .inr (.inr (ActClosed.happening answer (closed.levels _ _ _ _)))
  case removal i pg fltN => exact .inr (.inr (ActClosed.happening answer (closed.levels _ _ _ _)))
  case fltNLow i pg => exact .inr (.inr (ActClosed.happening answer (closed.levels _ _ _ _)))
  case pgHigh i => exact .inr (.inr (ActClosed.happening answer (closed.levels _ _ _ _)))
  case pgLow i => exact .inr (.inr (ActClosed.happening answer (closed.levels _ _ _ _)))
  case fltNHigh v => exact .inr (.inr (ActClosed.happening answer (closed.levels _ _ _ _)))
  case settleExpiry i => exact .inr (.inr (ActClosed.happening answer (closed.atSlot .settleExpires)))
  case rampExpiry i => exact .inr (.inr (ActClosed.happening answer (closed.atSlot .rampExpires)))
  case reduceDeadlineExpiry i => exact .inr (.inr (ActClosed.happening answer (closed.atSlot .reduceExpires)))
  case graceExpiry i => exact .inr (.inr (ActClosed.happening answer (closed.atSlot .graceExpires)))
  case holdoffExpiry i => exact .inr (.inr (ActClosed.happening answer (closed.atSlot .holdoffExpires)))
  case cleanTimeExpiry i => exact .inr (.inr (ActClosed.happening answer (closed.atSlot .cleanExpires)))
  case attention i us => exact .inr (.inr (ActClosed.happening answer (closed.link _ _ _)))
  case serveWork i => exact .inr (.inr (ActClosed.happening answer (closed.link _ _ _)))
  case frameSent i => exact .inr (.inr (ActClosed.happening answer (closed.link _ _ _)))
  case linkRetry i lineFree => exact .inr (.inr (ActClosed.happening answer (closed.link _ _ _)))
  case resend i lineFree => exact .inr (.inr (ActClosed.happening answer (closed.link _ _ _)))
  case followUpPoll i => exact .inr (.inr (ActClosed.happening answer (closed.link _ _ _)))
  case lineWaitTimeout w => exact .inr (.inr (ActClosed.happening answer (closed.atSlot (.lineTimeout _))))
  case replyWindowClosed i => exact .inr (.inr (ActClosed.happening answer (closed.atSlot .windowClosed)))
  case replyEnd i bytes => exact .inr (.inr (ActClosed.happening answer (closed.atSlot (.receiveBytes _))))
  case demandReply i status payload => exact .inr (.inr (ActClosed.happening answer (closed.atSlot (.receive _))))
  case accept i status => exact .inr (.inr (ActClosed.happening answer (closed.atSlot (.receive _))))
  case decline i status => exact .inr (.inr (ActClosed.happening answer (closed.atSlot (.receive _))))
  case notedReply i status => exact .inr (.inr (ActClosed.happening answer (closed.atSlot (.receive _))))
  case reducedReply i status index => exact .inr (.inr (ActClosed.happening answer (closed.atSlot (.receive _))))
  case release i status => exact .inr (.inr (ActClosed.happening answer (closed.atSlot (.receive _))))
  case idle i status => exact .inr (.inr (ActClosed.happening answer (closed.atSlot (.receive _))))
  case restateMap i => exact .inr (.inr (ActClosed.happening answer (closed.atSlot .nextMap)))
  case demandNotice i => exact .inr (.inr (ActClosed.happening answer (closed.noticeOf _ i)))
  case acceptedNotice i => exact .inr (.inr (ActClosed.happening answer (closed.noticeOf _ i)))
  case declinedNotice i => exact .inr (.inr (ActClosed.happening answer (closed.noticeOf _ i)))
  case notedNotice i => exact .inr (.inr (ActClosed.happening answer (closed.noticeOf _ i)))
  case reducedNotice i => exact .inr (.inr (ActClosed.happening answer (closed.noticeOf _ i)))
  case releasedNotice i => exact .inr (.inr (ActClosed.happening answer (closed.noticeOf _ i)))
  case faultedNotice i => exact .inr (.inr (ActClosed.happening answer (closed.noticeOf _ i)))
  case removedNotice i => exact .inr (.inr (ActClosed.happening answer (closed.noticeOf _ i)))
  case poweredNotice i => exact .inr (.inr (ActClosed.happening answer (closed.noticeOf _ i)))
  case answerNotice i => exact .inr (.inr (ActClosed.happening answer (closed.noticeOf _ i)))
  case setBudget budget reserve derated => exact .inr (.inr (ActClosed.happening answer (closed.hostCommand _ _)))
  case setSlotPolicy slot cls power admits => exact .inr (.inr (ActClosed.happening answer (closed.hostCommand _ _)))
  case revokeSlot slot => exact .inr (.inr (ActClosed.happening answer (closed.hostCommand _ _)))
  case resetSlot slot => exact .inr (.inr (ActClosed.happening answer (closed.hostCommand _ _)))
  case requerySlot slot => exact .inr (.inr (ActClosed.happening answer (closed.hostCommand _ _)))
  case hold value => exact .inr (.inr (ActClosed.happening answer (closed.hostCommand _ _)))
  case setTiming a b c d e f => exact .inr (.inr (ActClosed.happening answer (closed.hostCommand _ _)))
  case badCode code => exact .inr (.inr (ActClosed.happening answer (closed.hostWrite _ _)))
  case cmdRetire tag => exact .inr (.inr (ActClosed.happening answer (closed.hostWrite _ _)))
  case cmdAbort tag => exact .inr (.inr (ActClosed.happening answer (closed.hostWrite _ _)))
  case evtPop value => exact .inr (.inr (ActClosed.happening answer (closed.hostWrite _ _)))
  case intStatusClear value => exact .inr (.inr (ActClosed.happening answer (closed.hostWrite _ _)))
  case intEnable value => exact .inr (.inr (ActClosed.happening answer (closed.hostWrite _ _)))
  case hostStatusClear value => exact .inr (.inr (ActClosed.happening answer (closed.hostWrite _ _)))
  case winCapture value => exact .inr (.inr (ActClosed.happening answer (closed.hostWrite _ _)))
  case winData ack => exact .inr (.inr (ActClosed.happening answer (closed.hostReadData ack)))
  case registerWrite value =>
    refine .inr (.inr (ActClosed.happening answer fun h => ?_))
    split
    · exact closed.writeByte _ h
    · exact closed.hp _ _ h
  case start address => exact .inr (.inr (ActClosed.happening answer (closed.startBus _)))
  case stop => exact .inr (.inr (ActClosed.happening answer closed.stopBus))
  case offsetSet value => exact .inr (.inr (ActClosed.happening answer (closed.setOffset _)))
  case registerRead ack =>
    refine .inr (.inr (ActClosed.happening answer fun h => ?_))
    split
    · exact closed.readByte _ h
    · exact h

end ActClosed
end Sys2Proof.Machine
end

section
/-! What the policy step and the restarts leave alone, and the invariants of the host's side: the queue of commands, the
one RUNNING command (R141) and the window cursor (R177). -/

namespace Sys2Proof.Machine

/-! ### The policy step (R150) -/

theorem SlotFrame.engine {i : SlotId} {s t : State} (h : SlotFrame i s t) : EngineFrame s t := h.1

@[simp] theorem SlotFrame.reTrim_iff {i : SlotId} {s t : State} : SlotFrame i s (t.reTrim i) ↔ SlotFrame i s t := by
  simp [State.reTrim]

@[simp] theorem SlotFrame.overMax_iff {i : SlotId} {s t : State} : SlotFrame i s (t.overMax i) ↔ SlotFrame i s t := by
  simp [State.overMax]

@[simp] theorem SlotFrame.undoOffer_iff {i : SlotId} {s t : State} :
    SlotFrame i s (t.undoOffer i) ↔ SlotFrame i s t := by
  simp [State.undoOffer]

@[simp] theorem SlotFrame.undoPowering_iff {i : SlotId} {s t : State} :
    SlotFrame i s (t.undoPowering i) ↔ SlotFrame i s t := by
  simp [State.undoPowering]

@[simp] theorem SlotFrame.reEvaluate_iff {i : SlotId} {s t : State} :
    SlotFrame i s (t.reEvaluate i) ↔ SlotFrame i s t := by
  unfold State.reEvaluate
  dsimp only
  split <;> simp

@[simp] theorem SlotFrame.reClass_iff {i : SlotId} {s t : State} : SlotFrame i s (t.reClass i) ↔ SlotFrame i s t := by
  simp [State.reClass]

@[simp] theorem SlotFrame.joinQueue_iff {i : SlotId} {s t : State} :
    SlotFrame i s (t.joinQueue i) ↔ SlotFrame i s t :=
  Iff.trans (b := SlotFrame i s ((t.leaveQueue i).enter i .waiting)) Iff.rfl (by simp)

@[simp] theorem SlotFrame.applyAdmit_iff {i : SlotId} {s t : State} :
    SlotFrame i s (t.applyAdmit i) ↔ SlotFrame i s t := by
  simp [State.applyAdmit]

@[simp] theorem EngineFrame.takePolicy_iff {s t : State} (i : SlotId) :
    EngineFrame s (t.takePolicy i) ↔ EngineFrame s t := by
  refine EngineFrame.iff_of ?_
  unfold State.takePolicy
  dsimp only
  refine .trans ?_ (.foldl (fun _ _ => by simp) _ _)
  split <;> simp

/-- The shared step of SET_SLOT_POLICY leaves the host's blocks alone. -/
theorem EngineFrame.policyStep (s : State) (q : PolicyReq) : EngineFrame s (s.policyStep q) := by
  have parted : EngineFrame s (((s.reEvaluate q.slot).reClass q.slot).applyAdmit q.slot) :=
    SlotFrame.engine (i := q.slot) (by simp)
  have reduced (t : State) : EngineFrame t (t.policyReduce q.slot) := SlotFrame.engine (i := q.slot) (by simp)
  have watched (t : State) (w : Watch) : EngineFrame t ((t.setWatch q.slot w).watchCheck q.slot) :=
    SlotFrame.engine (i := q.slot) (by simp)
  have ordered := (parted.trans (by simp)).trans (reduced (((( s.reEvaluate q.slot).reClass q.slot).applyAdmit
    q.slot).takePolicy q.slot))
  unfold State.policyStep
  dsimp only
  rw [EngineFrame.aeRules_iff]
  split
  · exact ordered.trans (watched _ _)
  · exact ordered

/-! ### The restarts (R193, R195) -/

theorem EngineFrame.settlePresent (s : State) : EngineFrame s s.settlePresent := by
  refine .foldl (fun t i => ?_) _ _
  split
  · exact .refl t
  · exact SlotFrame.engine (i := i) (by simp)

theorem EngineFrame.coldStart (s : State) (first : Inputs) (a : Byte) :
    EngineFrame (s.defaults first a) (s.coldStart first a) := by
  refine .trans ?_ (.settlePresent _)
  unfold State.firstDerate
  split <;> simp

theorem EngineFrame.warmStart (s : State) : EngineFrame s.keptPower s.warmStart := by
  unfold State.warmStart
  refine .trans (.trans (t := s.keptPower.evalExcess) (by simp) ?_) (.foldl (fun t i => ?_) _ _)
  · refine .foldl (fun t i => ?_) _ _
    split <;> simp
  · refine SlotFrame.engine (i := i) ?_
    simp [State.enterResync]

/-! ### The queue of commands -/

theorem actClosed_pending (waiting : List Instr) : ActClosed fun s => s.pending = waiting where
  link _ _ _ h := h
  hp _ _ h := h
  inputs _ _ h := h
  wu _ _ _ h := h
  evtPop _ h := h
  interrupts _ _ _ h := h
  slot _ _ s act h := (act.frame s).1.1.trans h
  notice s i n _ _ h := EngineFrame.host (t := (s.popNotice i).aeNotice i n) (by simp) |>.1.trans h
  rules s due h := EngineFrame.host (t := s.aeRules due) (by simp) |>.1.trans h
  derate _ _ _ _ h := (evalExcess_pending _).trans h
  budgets _ _ _ _ h := (evalExcess_pending _).trans h
  hold _ _ h := h
  port _ _ _ _ h := h
  policyWait _ _ h := h
  timing _ _ h := h
  policy _ _ _ _ h := h
  policyStep s q _ h := (EngineFrame.policyStep s q).1.trans h
  submit _ _ _ _ h := h
  start _ _ _ h := h
  conclude _ _ _ _ h := h
  retire _ _ h := h
  coldStart s first a h := (EngineFrame.coldStart s first a).1.trans h
  warmStart s h := (EngineFrame.warmStart s).1.trans h

/-- Every command answers a next state. -/
theorem exec_next (c : Instr) (s : State) : ∃ t, exec c s = .next t := by
  cases c <;> exact ⟨_, rfl⟩

/-- Settles O4: `exec_cases` for the queue as it stands. -/
theorem commandsKeepQueue : Obligations.CommandsKeepQueue := by
  intro s c
  obtain ⟨t, answer⟩ := exec_next c s
  refine ⟨t, answer, ?_⟩
  obtain ⟨first, -, started⟩ | ⟨-, rfl⟩ | ⟨-, rfl⟩ | ⟨-, kept⟩ := (actClosed_pending s.pending).exec_cases answer
  · rw [started]
    exact (EngineFrame.coldStart s first 0).1
  · rfl
  · rfl
  · exact kept rfl

/-! ### One RUNNING command -/

theorem cmd_modCmd (s : State) (t u : Fin 4) (f : CmdSlot → CmdSlot) :
    (s.modCmd t f).cmd u = if u = t then f (s.cmd u) else s.cmd u := by
  by_cases h : u = t
  · subst h; simp
  · simp [h, cmd_modCmd_other]

/-- No command is RUNNING exactly when the CU finds none. -/
theorem running_eq_none_iff (s : State) : s.running = none ↔ ∀ u, (s.cmd u).state ≠ .running := by
  simp only [State.running, List.find?_eq_none, allTags]
  refine ⟨fun h u => ?_, fun h u _ => by simpa using h u⟩
  have := h u (by fin_cases u <;> simp)
  simpa using this

theorem State.oneRunning.of_cu {s t : State} (one : s.oneRunning) (same : t.cu = s.cu) : t.oneRunning := by
  have cmd_eq (u : Fin 4) : t.cmd u = s.cmd u := by simp [State.cmd, same]
  simpa only [State.oneRunning, cmd_eq] using one

/-- A command slot that leaves RUNNING, or does not come to it, adds none. -/
theorem State.oneRunning.modCmd {s : State} (one : s.oneRunning) {t : Fin 4} {f : CmdSlot → CmdSlot}
    (stops : (f (s.cmd t)).state ≠ .running) : (s.modCmd t f).oneRunning := by
  have still {u : Fin 4} (h : ((s.modCmd t f).cmd u).state = .running) : (s.cmd u).state = .running := by
    rw [cmd_modCmd] at h
    split at h
    next same => subst same; exact (stops h).elim
    · exact h
  exact fun u v hu hv => one u v (still hu) (still hv)

/-- The first command to run, none running, is the one that runs. -/
theorem oneRunning_start {s : State} (t : Fin 4) (f : CmdSlot → CmdSlot) (idle : s.running = none) :
    (s.modCmd t f).oneRunning := by
  have only {u : Fin 4} (h : ((s.modCmd t f).cmd u).state = .running) : u = t := by
    by_contra other
    rw [cmd_modCmd_other _ _ other] at h
    exact (running_eq_none_iff s).mp idle u h
  exact fun u v hu hv => (only hu).trans (only hv).symm

theorem CmdResult.concludes_ne_running (r : CmdResult) : r.concludes ≠ .running := by cases r <;> decide

theorem State.cursorRight_iff (s : State) : s.cursorRight ↔ s.wu.CursorRight := Iff.rfl

theorem hostSide_of_engine {s t : State} (frame : EngineFrame s t) (h : s.oneRunning ∧ s.cursorRight) :
    t.oneRunning ∧ t.cursorRight := by
  obtain ⟨-, -, -, cu_eq, wu_eq, -, -⟩ := frame
  exact ⟨h.1.of_cu cu_eq, by rw [State.cursorRight_iff, wu_eq]; exact h.2⟩

theorem hostSide_restarted {s : State} {settings : Settings} {first last group : Byte}
    (cu_eq : s.cu = .restarted settings) (wu_eq : s.wu = .restarted first last group) :
    s.oneRunning ∧ s.cursorRight := by
  refine ⟨fun u v hu _ => ?_, by rw [State.cursorRight_iff, wu_eq]; exact ⟨rfl, rfl⟩⟩
  have free : s.cmd u = .free := by simp [State.cmd, cu_eq, Cu.restarted]
  rw [free] at hu
  cases hu

theorem hostSide_coldStart (s : State) (first : Inputs) (a : Byte) :
    (s.coldStart first a).oneRunning ∧ (s.coldStart first a).cursorRight :=
  hostSide_of_engine (.coldStart s first a) (hostSide_restarted rfl rfl)

theorem actClosed_hostSide : ActClosed fun s => s.oneRunning ∧ s.cursorRight where
  link _ _ _ h := h
  hp _ _ h := h
  inputs _ _ h := h
  wu _ _ keeps h := ⟨h.1, keeps h.2⟩
  evtPop _ h := h
  interrupts _ _ _ h := h
  slot _ _ s act h := hostSide_of_engine (act.frame s).engine h
  notice _ _ _ _ _ h := hostSide_of_engine (by simp) h
  rules _ _ h := hostSide_of_engine (by simp) h
  derate _ _ _ _ h := ⟨h.1.of_cu (by simp), by simpa [State.cursorRight] using h.2⟩
  budgets _ _ _ _ h := ⟨h.1.of_cu (by simp [State.installBudgets]), by
    simpa [State.cursorRight, State.installBudgets] using h.2⟩
  hold _ _ h := h
  port _ _ _ _ h := h
  policyWait _ _ h := h
  timing _ _ h := h
  policy _ _ _ _ h := h
  policyStep s q _ h := hostSide_of_engine (.policyStep s q) h
  submit s t c queued h := ⟨h.1.modCmd (by simp [queued]), h.2⟩
  start _ t idle h := ⟨oneRunning_start t _ idle, h.2⟩
  conclude s t r d h := ⟨State.oneRunning.of_cu
    (h.1.modCmd (t := t) (f := fun c => { c with state := r.concludes, result := r, detail := d }) r.concludes_ne_running)
    rfl, h.2⟩
  retire _ _ h := ⟨h.1.modCmd (by simp [CmdSlot.free]), h.2⟩
  coldStart s first a _ := hostSide_coldStart s first a
  warmStart s _ := hostSide_of_engine (.warmStart s) (hostSide_restarted rfl rfl)

/-- A step is a command on the state with the queue's rest, or nothing. -/
theorem step_cases {s t : State} (answer : step s = .next t) :
    t = s ∨ ∃ c rest, s.pending = c :: rest ∧ exec c { s with pending := rest } = .next t := by
  unfold step at answer
  split at answer
  · exact .inl (Host.Outcome.next.inj answer).symm
  next c rest pending_eq => exact .inr ⟨c, rest, pending_eq, answer⟩

/-- Settles O9: both are kept by every act, and a restart starts both afresh. -/
theorem stepKeepsHostSideSound : Obligations.StepKeepsHostSideSound := by
  intro s t sound answer
  obtain rfl | ⟨c, rest, -, answer⟩ := step_cases answer
  · exact sound
  obtain ⟨first, -, started⟩ | ⟨-, rfl⟩ | ⟨-, rfl⟩ | ⟨-, kept⟩ := actClosed_hostSide.exec_cases answer
  · rw [started]
    exact hostSide_coldStart _ first 0
  · exact sound
  · exact sound
  · exact kept sound

end Sys2Proof.Machine
end

section
/-! The event queue's bound (R166) is neither broken nor mended by any act of a Slot Sequencer or the Allocation Engine,
and no act of a Slot Sequencer touches the account: claims, marks, grant order, reclaim and excess (`AccountFrame`). The
bound then holds along every step. -/

namespace Sys2Proof.Machine

/-- An append keeps the bound, and a queue out of bounds it cannot bring back: it only counts or drops. -/
theorem Eu.append_bounded_iff (e : Eu) (k : EventKind) (slot : Option SlotId) (a : Byte) (b : Half) :
    (e.append k slot a b).Bounded ↔ e.Bounded := by
  by_cases short : e.queue.length ≤ 31
  · have bounded := Eu.bounded_of_length_le short
    exact iff_of_true (bounded.append k slot a b) bounded
  have nonempty : e.queue ≠ [] := List.ne_nil_of_length_pos (by omega)
  obtain ⟨older, r, queue_eq⟩ := (List.eq_nil_or_concat' e.queue).resolve_left nonempty
  rw [Eu.append_of_le_length k slot a b queue_eq (by omega), if_neg (by omega : e.queue.length ≠ 31)]
  split
  · simp [Eu.Bounded, queue_eq]
  · exact Iff.rfl

/-- The AE's record with the admission queue, and the blocked flags that go with it, left out. -/
def Ae.account (a : Ae) : Ae :=
  { a with entryOrder := [], slots := a.slots.map fun e => { e with blocked := false } }

/-- From `s` to `t` the account stands, the admission queue aside, and the event queue is within its bound as before. -/
def AccountFrame (s t : State) : Prop := t.ae.account = s.ae.account ∧ (t.eu.Bounded ↔ s.eu.Bounded)

theorem map_updateAt {α β : Type} (v : Slots α) (i : SlotId) (f : α → α) (g : α → β) (same : g (f v[i.val]) = g v[i.val]) :
    (updateAt v i f).map g = v.map g := by
  ext k hk
  by_cases h : i.val = k <;> simp [updateAt, h]
  subst h
  exact same

section
variable {s t : State} (i : SlotId)

@[simp] theorem AccountFrame.refl (s : State) : AccountFrame s s := ⟨rfl, Iff.rfl⟩

@[simp] theorem AccountFrame.ite {a b : State} {c : Prop} [Decidable c] :
    AccountFrame s (if c then a else b) ↔ if c then AccountFrame s a else AccountFrame s b := by
  split <;> rfl

/-! ### The small updates -/

@[simp] theorem AccountFrame.modSlot_iff (f : SlotRec → SlotRec) :
    AccountFrame s (t.modSlot i f) ↔ AccountFrame s t := Iff.rfl
@[simp] theorem AccountFrame.modLink_iff (f : LinkRec → LinkRec) :
    AccountFrame s (t.modLink i f) ↔ AccountFrame s t := Iff.rfl
@[simp] theorem AccountFrame.notify_iff (n : Notice) : AccountFrame s (t.notify i n) ↔ AccountFrame s t := Iff.rfl
@[simp] theorem AccountFrame.enter_iff (st : SlotState) : AccountFrame s (t.enter i st) ↔ AccountFrame s t := Iff.rfl
@[simp] theorem AccountFrame.discard_iff : AccountFrame s (t.discard i) ↔ AccountFrame s t := Iff.rfl
@[simp] theorem AccountFrame.makeCurrent_iff (l : DemandList) :
    AccountFrame s (t.makeCurrent i l) ↔ AccountFrame s t := Iff.rfl
@[simp] theorem AccountFrame.linkRequest_iff (f : Frame) :
    AccountFrame s (t.linkRequest i f) ↔ AccountFrame s t := Iff.rfl
@[simp] theorem AccountFrame.linkQuery_iff : AccountFrame s (t.linkQuery i) ↔ AccountFrame s t := Iff.rfl
@[simp] theorem AccountFrame.linkWithdraw_iff : AccountFrame s (t.linkWithdraw i) ↔ AccountFrame s t := Iff.rfl
@[simp] theorem AccountFrame.linkAsk_iff (k : NoTurn) : AccountFrame s (t.linkAsk i k) ↔ AccountFrame s t := Iff.rfl
@[simp] theorem AccountFrame.cut_iff : AccountFrame s (t.cut i) ↔ AccountFrame s t := Iff.rfl
@[simp] theorem AccountFrame.restore_iff : AccountFrame s (t.restore i) ↔ AccountFrame s t := Iff.rfl
@[simp] theorem AccountFrame.startGrace_iff : AccountFrame s (t.startGrace i) ↔ AccountFrame s t := Iff.rfl
@[simp] theorem AccountFrame.owe_iff (o : Owed) : AccountFrame s (t.owe i o) ↔ AccountFrame s t := Iff.rfl
@[simp] theorem AccountFrame.setWatch_iff (w : Watch) : AccountFrame s (t.setWatch i w) ↔ AccountFrame s t := Iff.rfl
@[simp] theorem AccountFrame.watchCheck_iff : AccountFrame s (t.watchCheck i) ↔ AccountFrame s t := Iff.rfl

@[simp] theorem AccountFrame.event_iff (k : EventKind) (o : Option SlotId) (a b : Nat) :
    AccountFrame s (t.event k o a b) ↔ AccountFrame s t := by
  simp [AccountFrame, Eu.append_bounded_iff]

@[simp] theorem AccountFrame.leaveQueue_iff : AccountFrame s (t.leaveQueue i) ↔ AccountFrame s t := by
  have same : (t.leaveQueue i).ae.account = t.ae.account := by
    simp [State.leaveQueue, Ae.account, map_updateAt]
  unfold AccountFrame
  rw [same]
  exact Iff.rfl

@[simp] theorem AccountFrame.joinQueue_iff : AccountFrame s (t.joinQueue i) ↔ AccountFrame s t :=
  Iff.trans (b := AccountFrame s (t.leaveQueue i)) Iff.rfl (by simp)

/-! ### What the Slot Sequencer takes from the AE and the CU -/

@[simp] theorem AccountFrame.takeOffer_iff (o : Offered) : AccountFrame s (t.takeOffer i o) ↔ AccountFrame s t := Iff.rfl

@[simp] theorem AccountFrame.takeRaise_iff (o : Offered) : AccountFrame s (t.takeRaise i o) ↔ AccountFrame s t := by
  simp [State.takeRaise]

@[simp] theorem AccountFrame.refuse_iff : AccountFrame s (t.refuse i) ↔ AccountFrame s t := by simp [State.refuse]

@[simp] theorem AccountFrame.dropPending_iff : AccountFrame s (t.dropPending i) ↔ AccountFrame s t := by
  simp [State.dropPending]

@[simp] theorem AccountFrame.takeReduce_iff (index power : Nat) (o : Origin) :
    AccountFrame s (t.takeReduce i index power o) ↔ AccountFrame s t := by
  unfold State.takeReduce
  split <;> simp [State.beginReduce, State.upgrade]

@[simp] theorem AccountFrame.policyReduce_iff : AccountFrame s (t.policyReduce i) ↔ AccountFrame s t := by
  unfold State.policyReduce
  dsimp only
  repeat' split
  all_goals simp

@[simp] theorem AccountFrame.carryOwed_iff : AccountFrame s (t.carryOwed i) ↔ AccountFrame s t := by
  unfold State.carryOwed
  dsimp only
  split <;> simp

@[simp] theorem AccountFrame.carryHeld_iff (l : DemandList) (mapped : Nat) :
    AccountFrame s (t.carryHeld i l mapped) ↔ AccountFrame s t := by
  unfold State.carryHeld
  dsimp only
  repeat' split
  all_goals simp

@[simp] theorem AccountFrame.revoke_iff : AccountFrame s (t.revoke i) ↔ AccountFrame s t := by
  unfold State.revoke
  split <;> simp [State.revokeOffering, State.revokePowering, State.dropOffer, State.releaseCut]

/-! ### Faults, removal and identification -/

@[simp] theorem AccountFrame.fault_iff (c : FaultCause) : AccountFrame s (t.fault i c) ↔ AccountFrame s t := by
  simp [State.fault]

@[simp] theorem AccountFrame.remove_iff : AccountFrame s (t.remove i) ↔ AccountFrame s t := by simp [State.remove]

@[simp] theorem AccountFrame.settle_iff : AccountFrame s (t.settle i) ↔ AccountFrame s t := by simp [State.settle]

@[simp] theorem AccountFrame.identify_iff : AccountFrame s (t.identify i) ↔ AccountFrame s t := Iff.rfl

@[simp] theorem AccountFrame.becomePowered_iff : AccountFrame s (t.becomePowered i) ↔ AccountFrame s t := by
  simp [State.becomePowered]

/-! ### Replies and failures -/

@[simp] theorem AccountFrame.demandEvents_iff (l : DemandList) :
    AccountFrame s (t.demandEvents i l) ↔ AccountFrame s t := by
  simp [State.demandEvents]

@[simp] theorem AccountFrame.demandBad_iff (v : Verdict) : AccountFrame s (t.demandBad i v) ↔ AccountFrame s t := by
  cases v <;> simp [State.demandBad]

@[simp] theorem AccountFrame.takeList_iff (l : DemandList) : AccountFrame s (t.takeList i l) ↔ AccountFrame s t := by
  simp [State.takeList]

@[simp] theorem AccountFrame.resyncDemand_iff (v : Verdict) :
    AccountFrame s (t.resyncDemand i v) ↔ AccountFrame s t := by
  cases v <;> simp [State.resyncDemand, State.resyncPowered, State.resyncUnpowered]

@[simp] theorem AccountFrame.onDemand_iff (payload : List Byte) :
    AccountFrame s (t.onDemand i payload) ↔ AccountFrame s t := by
  unfold State.onDemand State.beginRestatement
  dsimp only
  repeat' split
  all_goals simp

@[simp] theorem AccountFrame.onAccept_iff : AccountFrame s (t.onAccept i) ↔ AccountFrame s t := by
  unfold State.onAccept State.acceptOffer State.acceptRaise State.acceptMapping State.poweringLevels
  repeat' split
  all_goals simp

@[simp] theorem AccountFrame.releaseCut_iff (n : Notice) : AccountFrame s (t.releaseCut i n) ↔ AccountFrame s t := by
  simp [State.releaseCut]

@[simp] theorem AccountFrame.declineOffer_iff (o : Offered) (n : Notice) :
    AccountFrame s (t.declineOffer i o n) ↔ AccountFrame s t := by
  simp [State.declineOffer, State.dropOffer]

@[simp] theorem AccountFrame.onDecline_iff : AccountFrame s (t.onDecline i) ↔ AccountFrame s t := by
  unfold State.onDecline State.declineRaise
  split <;> simp

@[simp] theorem AccountFrame.withdrawDemand_iff : AccountFrame s (t.withdrawDemand i) ↔ AccountFrame s t := by
  simp [State.withdrawDemand]

@[simp] theorem AccountFrame.onRelease_iff : AccountFrame s (t.onRelease i) ↔ AccountFrame s t := by
  unfold State.onRelease
  split <;> simp

@[simp] theorem AccountFrame.onIdle_iff : AccountFrame s (t.onIdle i) ↔ AccountFrame s t := by
  unfold State.onIdle State.resyncIdle
  split <;> simp

@[simp] theorem AccountFrame.onNoted_iff : AccountFrame s (t.onNoted i) ↔ AccountFrame s t := by simp [State.onNoted]

@[simp] theorem AccountFrame.onReduced_iff (b : Bool) (index : Nat) :
    AccountFrame s (t.onReduced i b index) ↔ AccountFrame s t := by
  unfold State.onReduced State.completeAt State.completeZero State.completePart
  repeat' split
  all_goals simp

@[simp] theorem AccountFrame.onReply_iff (f : Frame) (r : Reply) :
    AccountFrame s (t.onReply i f r) ↔ AccountFrame s t := by
  unfold State.onReply
  dsimp only
  split <;> simp

@[simp] theorem AccountFrame.badReply_iff (x : Exchange) (f : NearFlag) :
    AccountFrame s (t.badReply i x f) ↔ AccountFrame s t := by
  have failure {u : State} : AccountFrame s (u.onFailure i) ↔ AccountFrame s u := by
    unfold State.onFailure
    split <;> simp
  simp [State.badReply, State.linkFailed, failure]

@[simp] theorem AccountFrame.judged_iff (x : Exchange) (j : Judged) :
    AccountFrame s (t.judged i x j) ↔ AccountFrame s t := by
  cases j <;> simp [State.judged, State.linkGood]

/-! ### The acts of a Slot Sequencer -/

@[simp] theorem AccountFrame.lineTimeout_iff (attempt : Bool) :
    AccountFrame s (t.lineTimeout i attempt) ↔ AccountFrame s t := by
  unfold State.lineTimeout State.attemptTimeout State.takeUpTimeout
  dsimp only
  repeat' split
  all_goals simp

@[simp] theorem AccountFrame.windowClosed_iff : AccountFrame s (t.windowClosed i) ↔ AccountFrame s t := by
  unfold State.windowClosed
  split <;> simp

@[simp] theorem AccountFrame.receive_iff (r : Reply) : AccountFrame s (t.receive i r) ↔ AccountFrame s t := by
  unfold State.receive
  split <;> simp

@[simp] theorem AccountFrame.receiveBytes_iff (bytes : List Byte) :
    AccountFrame s (t.receiveBytes i bytes) ↔ AccountFrame s t := by
  unfold State.receiveBytes
  split <;> simp

@[simp] theorem AccountFrame.nextMap_iff : AccountFrame s (t.nextMap i) ↔ AccountFrame s t := by
  unfold State.nextMap State.takeMap
  repeat' split
  all_goals simp

/-- An act of one slot's SS leaves the account alone, the admission queue aside. -/
theorem SlotAct.account {f : State → State} (act : SlotAct i f) (s : State) : AccountFrame s (f s) := by
  cases act
  case sample => simp [State.sample]
  case settleExpires => simp [State.settleExpires]
  case rampExpires => simp [State.rampExpires]
  case reduceExpires => simp [State.reduceExpires]
  case graceExpires => simp [State.graceExpires]
  case holdoffExpires => simp [State.holdoffExpires]
  case cleanExpires => simp [State.cleanExpires]
  case takeRevoke => simp [State.takeRevoke, State.answer]
  case takeReset => simp [State.takeReset, State.answer]
  case takeRequery => simp [State.takeRequery, State.answer]
  all_goals simp

end

end Sys2Proof.Machine
end

section
/-! The event queue's bound along the Allocation Engine's operations, and along every step (R166). -/

namespace Sys2Proof.Machine

section
variable {s t : State} (i : SlotId)

theorem AccountFrame.bounded_iff (h : AccountFrame s t) : t.eventsBounded ↔ s.eventsBounded := h.2

@[simp] theorem bounded_modSlot (f : SlotRec → SlotRec) : (s.modSlot i f).eventsBounded ↔ s.eventsBounded := Iff.rfl
@[simp] theorem bounded_modEntry (f : AeSlot → AeSlot) : (s.modEntry i f).eventsBounded ↔ s.eventsBounded := Iff.rfl
@[simp] theorem bounded_ae (a : Ae) : ({ s with ae := a } : State).eventsBounded ↔ s.eventsBounded := Iff.rfl
@[simp] theorem bounded_joinGrants (place : List SlotId → List SlotId) :
    (s.joinGrants i place).eventsBounded ↔ s.eventsBounded := Iff.rfl
@[simp] theorem bounded_zeroClaim : (s.zeroClaim i).eventsBounded ↔ s.eventsBounded := Iff.rfl
@[simp] theorem bounded_judgeNotice (n : Notice) (c : Nat) :
    (s.judgeNotice i n c).eventsBounded ↔ s.eventsBounded := Iff.rfl

@[simp] theorem bounded_ite {a b : State} {c : Prop} [Decidable c] :
    (if c then a else b).eventsBounded ↔ if c then a.eventsBounded else b.eventsBounded := by
  split <;> rfl

@[simp] theorem bounded_event (k : EventKind) (o : Option SlotId) (a b : Nat) :
    (s.event k o a b).eventsBounded ↔ s.eventsBounded := AccountFrame.bounded_iff (by simp)

@[simp] theorem bounded_takeReduce (index power : Nat) (o : Origin) :
    (s.takeReduce i index power o).eventsBounded ↔ s.eventsBounded := AccountFrame.bounded_iff (by simp)

theorem bounded_foldl {α : Type} {f : State → α → State}
    (visit : ∀ s a, (f s a).eventsBounded ↔ s.eventsBounded) (l : List α) :
    (l.foldl f s).eventsBounded ↔ s.eventsBounded := by
  induction l generalizing s with
  | nil => exact Iff.rfl
  | cons a l ih => exact ih.trans (visit s a)

/-! ### The account -/

@[simp] theorem bounded_evalExcess : s.evalExcess.eventsBounded ↔ s.eventsBounded := by
  unfold State.evalExcess
  dsimp only
  repeat' split
  all_goals simp

@[simp] theorem bounded_takeHolding (h : Nat) : (s.takeHolding i h).eventsBounded ↔ s.eventsBounded := by
  simp [State.takeHolding]

@[simp] theorem bounded_takeAnswer (h : Nat) : (s.takeAnswer i h).eventsBounded ↔ s.eventsBounded := by
  simp [State.takeAnswer]

@[simp] theorem bounded_admitDemand : (s.admitDemand i).eventsBounded ↔ s.eventsBounded :=
  AccountFrame.bounded_iff (by simp [State.admitDemand])

@[simp] theorem bounded_admitKept : (s.admitKept i).eventsBounded ↔ s.eventsBounded := by simp [State.admitKept]

/-! ### Reclaim -/

@[simp] theorem bounded_offer (p : Nat × Point) : (s.offer i p).eventsBounded ↔ s.eventsBounded := by
  have taken (u : State) (o : Offered) : (u.takeOffer i o).eventsBounded ↔ u.eventsBounded :=
    AccountFrame.bounded_iff (by simp)
  have left : (s.leaveQueue i).eventsBounded ↔ s.eventsBounded := AccountFrame.bounded_iff (by simp)
  simp [State.offer, State.claimFor, taken, left]

@[simp] theorem bounded_requestReductions (l : List Victim) :
    (s.requestReductions l).eventsBounded ↔ s.eventsBounded := bounded_foldl (fun _ _ => by simp) l

@[simp] theorem bounded_startReclaim (k : ReclaimKind) (b : Option SlotId) (x y : Nat) (l : List Victim) :
    (s.startReclaim k b x y l).eventsBounded ↔ s.eventsBounded := by
  simp [State.startReclaim]

@[simp] theorem bounded_budgetTrigger : s.budgetTrigger.eventsBounded ↔ s.eventsBounded := by
  simp [State.budgetTrigger, State.startBudget]

@[simp] theorem bounded_endReclaim (c : Nat) : (s.endReclaim c).eventsBounded ↔ s.eventsBounded := by
  simp [State.endReclaim]

@[simp] theorem bounded_convert : s.convert.eventsBounded ↔ s.eventsBounded := by simp [State.convert]

@[simp] theorem bounded_endTests : s.endTests.eventsBounded ↔ s.eventsBounded := by
  unfold State.endTests State.admitRules State.budgetRules
  dsimp only
  repeat' split
  all_goals simp

/-! ### The passes -/

@[simp] theorem bounded_settleHead : (s.settleHead i).eventsBounded ↔ s.eventsBounded := by
  unfold State.settleHead State.block State.startAdmit
  repeat' split
  all_goals simp

@[simp] theorem bounded_backfill (l : List SlotId) : (s.backfill l).eventsBounded ↔ s.eventsBounded := by
  unfold State.backfill
  split
  · refine bounded_foldl (fun u j => ?_) l
    repeat' split
    all_goals simp
  · exact Iff.rfl

@[simp] theorem bounded_allocationPass : s.allocationPass.eventsBounded ↔ s.eventsBounded := by
  suffices passed : ∀ n u, (State.passFrom n u).eventsBounded ↔ u.eventsBounded from passed 9 s
  intro n
  induction n with
  | zero => exact fun _ => Iff.rfl
  | succ n ih =>
    intro u
    unfold State.passFrom
    repeat' split
    all_goals simp [ih]

@[simp] theorem bounded_raisePass : s.raisePass.eventsBounded ↔ s.eventsBounded := by
  have taken (u : State) (j : SlotId) (o : Offered) : (u.takeRaise j o).eventsBounded ↔ u.eventsBounded :=
    AccountFrame.bounded_iff (by simp)
  unfold State.raisePass
  split
  · refine bounded_foldl (fun u j => ?_) _
    unfold State.raiseVisit State.raise State.claimFor
    repeat' split
    all_goals simp [taken]
  · exact Iff.rfl

@[simp] theorem bounded_aeRules (due : Bool) : (s.aeRules due).eventsBounded ↔ s.eventsBounded := by
  simp [State.aeRules]

/-! ### The notices -/

@[simp] theorem bounded_takeDemand : (s.takeDemand i).eventsBounded ↔ s.eventsBounded := by
  have listed (l : DemandList) : (s.makeCurrent i l).eventsBounded ↔ s.eventsBounded := Iff.rfl
  unfold State.takeDemand State.followFloor
  dsimp only
  repeat' split
  all_goals simp [listed]

@[simp] theorem bounded_mapRestatement : (s.mapRestatement i).eventsBounded ↔ s.eventsBounded := by
  unfold State.mapRestatement
  repeat' split
  all_goals simp

@[simp] theorem bounded_account (n : Notice) : (s.account i n).eventsBounded ↔ s.eventsBounded := by
  unfold State.account State.resyncConcludes State.takeNotice State.takePowered State.joinTail State.joinBySlot
  dsimp only
  repeat' split
  all_goals simp

@[simp] theorem bounded_aeNotice (n : Notice) : (s.aeNotice i n).eventsBounded ↔ s.eventsBounded := by
  simp [State.aeNotice]

@[simp] theorem bounded_takePolicy : (s.takePolicy i).eventsBounded ↔ s.eventsBounded := by
  unfold State.takePolicy
  dsimp only
  refine (bounded_foldl (fun _ _ => by simp) _).trans ?_
  split <;> simp

end

/-- The policy step's parts at the SS leave the account alone, the admission queue aside. -/
theorem AccountFrame.policyPart (s : State) (i : SlotId) :
    AccountFrame s (((s.reEvaluate i).reClass i).applyAdmit i) := by
  have judged : AccountFrame s (s.reEvaluate i) := by
    unfold State.reEvaluate State.reTrim State.overMax State.undoOffer State.undoPowering
    dsimp only
    repeat' split
    all_goals simp
  simpa [State.applyAdmit, State.reClass] using judged

@[simp] theorem bounded_policyStep (s : State) (q : PolicyReq) : (s.policyStep q).eventsBounded ↔ s.eventsBounded := by
  have reduced (t : State) : (t.policyReduce q.slot).eventsBounded ↔ t.eventsBounded :=
    AccountFrame.bounded_iff (by simp)
  have watched (t : State) (w : Watch) : ((t.setWatch q.slot w).watchCheck q.slot).eventsBounded ↔ t.eventsBounded :=
    AccountFrame.bounded_iff (by simp)
  simp [State.policyStep, reduced, watched, (AccountFrame.policyPart s q.slot).bounded_iff]

/-! ### Restarts -/

theorem bounded_restarted {s : State} {a : Byte} {time enable : Half} (eu_eq : s.eu = .restarted a time enable) :
    s.eventsBounded := by
  rw [State.eventsBounded_iff, eu_eq]
  exact Eu.bounded_of_length_le (by simp [Eu.restarted])

theorem bounded_coldStart (s : State) (first : Inputs) (a : Byte) : (s.coldStart first a).eventsBounded := by
  have settled (t : State) (i : SlotId) : (t.settle i).eventsBounded ↔ t.eventsBounded :=
    AccountFrame.bounded_iff (by simp)
  have fresh : (s.defaults first a).eventsBounded := bounded_restarted rfl
  refine (bounded_foldl (fun t i => ?_) _).mpr ?_
  · split <;> simp [settled]
  · unfold State.firstDerate
    split <;> simpa using fresh

theorem bounded_warmStart (s : State) : s.warmStart.eventsBounded := by
  have fresh : s.keptPower.eventsBounded := bounded_restarted rfl
  have entered (t : State) (i : SlotId) : (t.enterResync i).eventsBounded ↔ t.eventsBounded :=
    AccountFrame.bounded_iff (by simp [State.enterResync, State.resyncLevels])
  unfold State.warmStart State.keptPresent
  refine (bounded_foldl entered _).mpr ((bounded_foldl (fun t i => ?_) _).mpr (by simpa using fresh))
  split <;> simp

/-! ### Every step -/

theorem actClosed_bounded : ActClosed State.eventsBounded where
  link _ _ _ h := h
  hp _ _ h := h
  inputs _ _ h := h
  wu _ _ _ h := h
  evtPop s h := by
    have shorter : s.eu.queue.tail.length = s.eu.queue.length - 1 := List.length_tail
    have at_most := h.1
    exact Eu.bounded_of_length_le (by simp only [State.pop]; omega)
  interrupts _ _ _ h := h
  slot i _ s act h := (act.account i s).bounded_iff.mpr h
  notice _ _ _ _ _ h := by simpa [State.popNotice] using h
  rules _ _ h := by simpa using h
  derate _ _ _ _ h := by simpa using h
  budgets _ _ _ _ h := by simpa [State.installBudgets] using h
  hold _ _ h := h
  port _ _ _ _ h := h
  policyWait _ _ h := h
  timing _ _ h := h
  policy _ _ _ _ h := h
  policyStep _ _ _ h := by simpa using h
  submit _ _ _ _ h := h
  start _ _ _ h := h
  conclude _ _ _ _ h := (bounded_event _ _ _ _).mpr h
  retire _ _ h := h
  coldStart s first a _ := bounded_coldStart s first a
  warmStart s _ := bounded_warmStart s

/-- Settles O6: an append keeps the bound (`Eu.append_bounded_iff`), a pop shortens the queue, and a restart starts it
with RESTART alone. -/
theorem stepKeepsEventQueueBounded : Obligations.StepKeepsEventQueueBounded := by
  intro s t bounded answer
  obtain rfl | ⟨c, rest, -, answer⟩ := step_cases answer
  · exact bounded
  obtain ⟨first, -, started⟩ | ⟨-, rfl⟩ | ⟨-, rfl⟩ | ⟨-, kept⟩ := actClosed_bounded.exec_cases answer
  · rw [started]
    exact bounded_coldStart _ first 0
  · exact bounded
  · exact bounded
  · exact kept bounded

end Sys2Proof.Machine
end

section
/-! What each operation of a Slot Sequencer makes of its slot's record, its link record, the AE and the events: one equation
for each (`slot_`, `link_`, the AE's and the events' for those that touch them), and a whole happening at one slot read off
its effect (`atSlot_happening`). -/

namespace Sys2Proof.Machine

section
variable (s : State) (i j : SlotId)

/-! ### The small updates -/

@[simp] theorem slot_notify (n : Notice) : (s.notify i n).slot i = (s.slot i).sending n := slot_modSlot_same ..
@[simp] theorem slot_enter (st : SlotState) : (s.enter i st).slot i = { s.slot i with state := st } :=
  slot_modSlot_same ..
@[simp] theorem slot_discard : (s.discard i).slot i = (s.slot i).discard (s.policy i).classLimit := slot_modSlot_same ..
@[simp] theorem slot_makeCurrent (l : DemandList) :
    (s.makeCurrent i l).slot i = (s.slot i).listed l (s.policy i).classLimit := slot_modSlot_same ..
@[simp] theorem slot_restore : (s.restore i).slot i = (s.slot i).restored := slot_modSlot_same ..
@[simp] theorem slot_cut : (s.cut i).slot i = (s.slot i).powerless := slot_modSlot_same ..
@[simp] theorem slot_setWatch (w : Watch) : (s.setWatch i w).slot i = { s.slot i with watch := some w } :=
  slot_modSlot_same ..
@[simp] theorem slot_watchCheck : (s.watchCheck i).slot i = (s.slot i).answered (s.policy i).maxPower :=
  slot_modSlot_same ..
@[simp] theorem slot_linkRequest (f : Frame) : (s.linkRequest i f).slot j = s.slot j := rfl
@[simp] theorem slot_linkQuery : (s.linkQuery i).slot j = s.slot j := rfl
@[simp] theorem slot_linkWithdraw : (s.linkWithdraw i).slot j = s.slot j := rfl
@[simp] theorem slot_linkAsk (k : NoTurn) : (s.linkAsk i k).slot j = s.slot j := rfl

@[simp] theorem link_notify (n : Notice) : (s.notify i n).link j = s.link j := rfl
@[simp] theorem link_enter (st : SlotState) : (s.enter i st).link j = s.link j := rfl
@[simp] theorem link_discard : (s.discard i).link j = s.link j := rfl
@[simp] theorem link_makeCurrent (l : DemandList) : (s.makeCurrent i l).link j = s.link j := rfl
@[simp] theorem link_restore : (s.restore i).link j = s.link j := rfl
@[simp] theorem link_setWatch (w : Watch) : (s.setWatch i w).link j = s.link j := rfl
@[simp] theorem link_watchCheck : (s.watchCheck i).link j = s.link j := rfl
@[simp] theorem link_cut : (s.cut i).link i = (s.link i).cut := link_modLink_same ..
@[simp] theorem link_linkRequest (f : Frame) : (s.linkRequest i f).link i = (s.link i).request f s.retryLimit :=
  link_modLink_same ..
@[simp] theorem link_linkQuery : (s.linkQuery i).link i = (s.link i).query s.retryLimit := link_modLink_same ..
@[simp] theorem link_linkWithdraw : (s.linkWithdraw i).link i = (s.link i).withdraw := link_modLink_same ..
@[simp] theorem link_linkAsk (k : NoTurn) : (s.linkAsk i k).link i = (s.link i).ask k := link_modLink_same ..

@[simp] theorem cut_ae : (s.cut i).ae = s.ae := rfl
@[simp] theorem cut_eu : (s.cut i).eu = s.eu := rfl
@[simp] theorem cut_cu : (s.cut i).cu = s.cu := rfl
@[simp] theorem restore_ae : (s.restore i).ae = s.ae := rfl
@[simp] theorem restore_eu : (s.restore i).eu = s.eu := rfl
@[simp] theorem restore_cu : (s.restore i).cu = s.cu := rfl
@[simp] theorem watchCheck_ae : (s.watchCheck i).ae = s.ae := rfl
@[simp] theorem watchCheck_eu : (s.watchCheck i).eu = s.eu := rfl
@[simp] theorem watchCheck_cu : (s.watchCheck i).cu = s.cu := rfl
@[simp] theorem setWatch_ae (w : Watch) : (s.setWatch i w).ae = s.ae := rfl
@[simp] theorem setWatch_eu (w : Watch) : (s.setWatch i w).eu = s.eu := rfl
@[simp] theorem setWatch_cu (w : Watch) : (s.setWatch i w).cu = s.cu := rfl

/-! The configuration, read through the small updates. -/

@[simp] theorem policy_leaveQueue : (s.leaveQueue i).policy j = s.policy j := rfl
@[simp] theorem policy_notify (n : Notice) : (s.notify i n).policy j = s.policy j := rfl
@[simp] theorem policy_enter (st : SlotState) : (s.enter i st).policy j = s.policy j := rfl
@[simp] theorem policy_discard : (s.discard i).policy j = s.policy j := rfl
@[simp] theorem policy_makeCurrent (l : DemandList) : (s.makeCurrent i l).policy j = s.policy j := rfl
@[simp] theorem policy_restore : (s.restore i).policy j = s.policy j := rfl
@[simp] theorem policy_cut : (s.cut i).policy j = s.policy j := rfl
@[simp] theorem policy_setWatch (w : Watch) : (s.setWatch i w).policy j = s.policy j := rfl
@[simp] theorem policy_linkRequest (f : Frame) : (s.linkRequest i f).policy j = s.policy j := rfl
@[simp] theorem policy_linkWithdraw : (s.linkWithdraw i).policy j = s.policy j := rfl
@[simp] theorem policy_linkAsk (k : NoTurn) : (s.linkAsk i k).policy j = s.policy j := rfl

theorem holdoffTimer_of_cu {s t : State} (h : t.cu = s.cu) : t.holdoffTimer = s.holdoffTimer := by
  simp only [State.holdoffTimer, h]

/-! ### Faults (R37, R39) -/

/-- Cutting a record clears what a fault then clears again. -/
theorem SlotRec.discard_faulted (r : SlotRec) (cause : FaultCause) (classLimit : Nat) (holdoff : Option Nat) :
    (r.discard classLimit).faulted cause holdoff = r.struck cause classLimit holdoff := by
  have third : min (r.strikes + 1) 3 < 3 ↔ r.strikes < 2 := by omega
  simp only [SlotRec.discard, SlotRec.faulted, SlotRec.struck, third]

theorem SlotRec.struck_strikes (r : SlotRec) (cause : FaultCause) (classLimit : Nat) (holdoff : Option Nat) :
    (r.struck cause classLimit holdoff).strikes = min (r.strikes + 1) 3 := rfl

theorem SlotRec.struck_lockedOut_iff (r : SlotRec) (cause : FaultCause) (classLimit : Nat) (holdoff : Option Nat) :
    (r.struck cause classLimit holdoff).state = .lockedOut ↔ ¬ r.strikes < 2 := by
  by_cases h : r.strikes < 2 <;> simp [SlotRec.struck, h]

/-- The slot's record after a fault: cut where EN is asserted, then struck, and FAULTED sent. -/
@[simp] theorem slot_fault (cause : FaultCause) :
    (s.fault i cause).slot i =
      ((if (s.slot i).en then (s.slot i).powerless else s.slot i).struck cause (s.policy i).classLimit
        s.holdoffTimer).sending (.faulted cause) := by
  have held : (s.cut i).holdoffTimer = s.holdoffTimer := rfl
  unfold State.fault
  dsimp only
  rw [slot_notify]
  cases en : (s.slot i).en
  · simp [SlotRec.discard_faulted, apply_ite (State.slot · i)]
  · simp [SlotRec.discard_faulted, apply_ite (State.slot · i)]
    rfl

@[simp] theorem link_fault (cause : FaultCause) :
    (s.fault i cause).link i = if (s.slot i).en then (s.link i).cut else s.link i := by
  unfold State.fault
  dsimp only
  rw [link_notify]
  cases en : (s.slot i).en <;> simp [apply_ite (State.link · i)]

@[simp] theorem fault_ae (cause : FaultCause) : (s.fault i cause).ae = (s.leaveQueue i).ae := by
  unfold State.fault
  dsimp only
  rw [State.notify_ae]
  cases en : (s.slot i).en
  · simp [apply_ite State.ae]
  · simp [apply_ite State.ae]
    rfl

@[simp] theorem fault_cu (cause : FaultCause) : (s.fault i cause).cu = s.cu :=
  (SlotFrame.fault_iff (i := i) cause |>.mpr (.refl i s)).1.2.2.2.1

@[simp] theorem fault_eu (cause : FaultCause) : (s.fault i cause).eu = s.eu.faulted i cause (s.slot i).strikes := by
  unfold State.fault
  dsimp only
  generalize hu : (if (s.slot i).en then s.cut i else s) = u
  have strikes : (u.slot i).strikes = (s.slot i).strikes := by rw [← hu]; split <;> simp [SlotRec.powerless]
  have eu : u.eu = s.eu := by rw [← hu]; split <;> rfl
  rw [State.notify_eu, apply_ite State.eu, ← strikes, ← eu]
  by_cases h : (u.slot i).strikes < 2
  · have count : min ((u.slot i).strikes + 1) 3 = (u.slot i).strikes + 1 := by omega
    simp only [slot_modSlot_same, slot_event, slot_leaveQueue, SlotRec.discard_faulted, SlotRec.struck, Eu.faulted, h,
      count]
    rfl
  · have count : min ((u.slot i).strikes + 1) 3 = 3 := by omega
    simp only [slot_modSlot_same, slot_event, slot_leaveQueue, SlotRec.discard_faulted, SlotRec.struck, Eu.faulted, h,
      count]
    rfl

/-! ### Presence, removal, identification and power-up (R22, R23, R29, R35) -/

@[simp] theorem slot_settle : (s.settle i).slot i =
    { s.slot i with state := .settling, timers := { (s.slot i).timers with settle := some 50 } } :=
  slot_modSlot_same ..
@[simp] theorem link_settle : (s.settle i).link j = s.link j := rfl
@[simp] theorem settle_ae : (s.settle i).ae = s.ae := rfl
@[simp] theorem settle_eu : (s.settle i).eu = s.eu.append .present (some i) 0 0 := rfl

@[simp] theorem slot_identify : (s.identify i).slot i =
    { s.slot i with state := .identify, timers := { (s.slot i).timers with settle := none, holdoff := none } } :=
  slot_modSlot_same ..
@[simp] theorem link_identify : (s.identify i).link i = (s.link i).query s.retryLimit := link_linkQuery ..
@[simp] theorem identify_ae : (s.identify i).ae = s.ae := rfl
@[simp] theorem identify_eu : (s.identify i).eu = s.eu := rfl

/-- The removal values of a slot record (R35): what is on its way outlives the removal. -/
def SlotRec.removed (r : SlotRec) (classLimit : Nat) : SlotRec :=
  { SlotRec.reset r.presN r.pg r.fltN classLimit with
    watch := r.watch, outbox := r.outbox, mapRequests := r.mapRequests }

variable {s i} in
theorem remove_of_empty (h : (s.slot i).state = .empty) : s.remove i = s := by simp [State.remove, h]

section
variable {s i} (h : (s.slot i).state ≠ .empty)
include h

theorem slot_remove : (s.remove i).slot i = ((s.slot i).removed (s.policy i).classLimit).sending .removed := by
  simp only [State.remove, h, if_false, slot_notify, slot_event, slot_modSlot_same]
  rfl

theorem link_remove : (s.remove i).link i = .reset := by
  simp only [State.remove, h, if_false, link_notify, link_event, link_modSlot, link_modLink_same]

theorem remove_ae : (s.remove i).ae = (s.leaveQueue i).ae := by
  simp only [State.remove, h, if_false, State.notify_ae]
  rfl

theorem remove_eu : (s.remove i).eu = s.eu.append .removed (some i) (byteOf (s.slot i).state.code)
    (BitVec.ofNat 16 (s.slot i).grantedPower) := by
  simp only [State.remove, h, if_false, State.notify_eu]
  rfl

end

/-- The slot record entering POWERED from POWERING (R29), and telling it. -/
def SlotRec.ramped (r : SlotRec) : SlotRec :=
  SlotRec.sending { r with state := .powered, timers := { r.timers with ramp := none, clean := some 30000 } }
    (.powered r.grantedPower)

@[simp] theorem slot_becomePowered : (s.becomePowered i).slot i = (s.slot i).ramped := by
  simp only [State.becomePowered, slot_notify, slot_event, slot_modSlot_same]
  rfl
@[simp] theorem link_becomePowered : (s.becomePowered i).link j = s.link j := rfl
@[simp] theorem becomePowered_ae : (s.becomePowered i).ae = s.ae := rfl
@[simp] theorem becomePowered_eu : (s.becomePowered i).eu = s.eu.append .granted (some i) (byteOf (s.slot i).granted)
    (BitVec.ofNat 16 (s.slot i).grantedPower) := by
  simp only [State.becomePowered, State.notify_eu, slot_modSlot_same]
  rfl

end

/-! ### A happening at one slot -/

/-- A whole happening at one slot, read off its effect: the slot's record is the effect's with the watch answered
(R142), and everything else is the effect's. -/
theorem atSlot_happening {s : State} {i : SlotId} (f : State → State) (up : s.resetLow = false)
    (frame : SlotFrame i s.elapse (f s.elapse)) :
    ∃ t, happening (atSlot i f) s = .next t ∧ aroundSlot i s t ∧ t.ae = (f s.elapse).ae ∧ t.eu = (f s.elapse).eu ∧
      t.link i = (f s.elapse).link i ∧ afterWatch (s.policy i).maxPower ((f s.elapse).slot i) (t.slot i) := by
  obtain ⟨⟨pending, resetLow, inputs, cu, wu, hp, -⟩, others⟩ := frame.atSlot
  refine ⟨_, happening_running _ up, ⟨⟨pending, resetLow, cu, wu, hp⟩, frame.atSlot.others, inputs⟩, rfl, rfl, rfl, ?_⟩
  rw [show s.policy i = (f s.elapse).policy i from congrArg (·.settings.policy[i.val]) frame.1.2.2.2.1.symm, atSlot,
    slot_watchCheck]
  exact SlotRec.answered_afterWatch ..

end Sys2Proof.Machine
end

section
/-! Pins and slot timers (chapter 2): the levels of one sample as one happening, and the statements about them. -/

namespace Sys2Proof.Machine

/-- The state in which slot `i`'s SS takes the levels of one sample: time has passed, and the levels stand at the pins. -/
def State.atPins (s : State) (i : SlotId) (presN pg fltN : Option Bool) : State :=
  { s.elapse with inputs := sampledAt s.inputs i presN pg fltN }

/-- That state with the levels recorded at the slot (R20). -/
def State.recorded (s : State) (i : SlotId) (presN pg fltN : Option Bool) : State :=
  (s.atPins i presN pg fltN).modSlot i fun r => r.sampled presN pg fltN

section
variable (s : State) (i j : SlotId) (presN pg fltN : Option Bool)

@[simp] theorem slot_recorded : (s.recorded i presN pg fltN).slot i = (s.slot i).sampled presN pg fltN :=
  slot_modSlot_same ..
@[simp] theorem link_recorded : (s.recorded i presN pg fltN).link j = s.link j := rfl
@[simp] theorem recorded_ae : (s.recorded i presN pg fltN).ae = s.ae := rfl
@[simp] theorem recorded_eu : (s.recorded i presN pg fltN).eu = s.elapse.eu := rfl
@[simp] theorem policy_recorded : (s.recorded i presN pg fltN).policy j = s.policy j := rfl
@[simp] theorem recorded_holdoffTimer : (s.recorded i presN pg fltN).holdoffTimer = s.holdoffTimer := rfl
@[simp] theorem leaveQueue_recorded_ae : ((s.recorded i presN pg fltN).leaveQueue i).ae = (s.leaveQueue i).ae := rfl

@[simp] theorem SlotRec.sampled_grantedPower (r : SlotRec) : (r.sampled presN pg fltN).grantedPower = r.grantedPower :=
  rfl

/-- The rule a sample falls under, in the state with its levels recorded (R20). -/
theorem sample_eq : (s.atPins i presN pg fltN).sample i presN pg fltN =
    let st := (s.slot i).state
    let u := s.recorded i presN pg fltN
    if presN = some true then u.remove i
    else if presN = some false ∧ st = .empty then u.settle i
    else if fltN = some false ∧ st.enabled then u.fault i .switchFault
    else if pg = some true ∧ st = .powering then u.becomePowered i
    else if pg = some false ∧ st.enabled ∧ st ≠ .powering then u.fault i .powerLost
    else u := rfl

end

/-- The levels of one sample, a removal aside, are one happening of their slot. -/
theorem exec_carries {i : SlotId} {presN pg fltN : Option Bool} {c : Instr} (h : carries i presN pg fltN c) (s : State) :
    exec c s = happening (State.levels i presN pg fltN) s := by
  rcases h with ⟨rfl, rfl⟩ | ⟨rfl, rfl, rfl⟩ | ⟨rfl, rfl, rfl⟩ | ⟨rfl, rfl, rfl, rfl⟩ | ⟨rfl, rfl, rfl, rfl⟩ <;> rfl

theorem carries_presN {i : SlotId} {presN pg fltN : Option Bool} {c : Instr} (h : carries i presN pg fltN c) :
    presN ≠ some true := by
  rcases h with ⟨-, rfl⟩ | ⟨-, rfl, -⟩ | ⟨-, rfl, -⟩ | ⟨-, rfl, -⟩ | ⟨-, rfl, -⟩ <;> simp

/-- A sample's happening read off the rule it falls under. -/
theorem levels_happening {s u : State} {i : SlotId} {presN pg fltN : Option Bool} (up : s.resetLow = false)
    (eq : (s.atPins i presN pg fltN).sample i presN pg fltN = u) :
    ∃ t, happening (State.levels i presN pg fltN) s = .next t ∧ sameHost s t ∧ othersSame i s t ∧
      t.inputs = sampledAt s.inputs i presN pg fltN ∧ t.ae = u.ae ∧ t.eu = u.eu ∧ t.link i = u.link i ∧
      afterWatch (s.policy i).maxPower (u.slot i) (t.slot i) := by
  have frame : SlotFrame i (s.atPins i presN pg fltN) u := by rw [← eq]; simp
  have cu : u.cu = s.cu := frame.1.2.2.2.1
  have maxPower : s.policy i = u.policy i := congrArg (·.settings.policy[i.val]) cu.symm
  refine ⟨u.watchCheck i, ?_, ?_, ?_, ?_, rfl, rfl, rfl, ?_⟩
  · rw [happening_running _ up, ← eq]; rfl
  · obtain ⟨⟨pending, resetLow, -, cu, wu, hp, -⟩, -⟩ := frame
    exact ⟨pending, resetLow, cu, wu, hp⟩
  · exact ((SlotFrame.watchCheck_iff).mpr frame).others
  · exact frame.1.2.2.1
  · rw [maxPower, slot_watchCheck]
    exact SlotRec.answered_afterWatch ..

/-- Settles O16: PRES_N low falls under presence in EMPTY, and under no rule elsewhere. -/
theorem presenceStartsSettling : Obligations.PresenceStartsSettling := by
  intro s i pg fltN up
  by_cases empty : (s.slot i).state = .empty
  · have eq : (s.atPins i (some false) pg fltN).sample i (some false) pg fltN =
        (s.recorded i (some false) pg fltN).settle i := by simp [sample_eq, empty]
    obtain ⟨t, run, host, others, inputs, ae, eu, link, slot⟩ := levels_happening up eq
    refine ⟨t, run, inputs, fun _ => ⟨⟨host, others, ae⟩, link, ?_, eu⟩, fun h => absurd empty h⟩
    simpa [SlotRec.sampled] using slot
  · obtain ⟨t, run, host, others, inputs, ae, eu, link, slot⟩ := levels_happening up (sample_eq s i (some false) pg fltN)
    refine ⟨t, run, inputs, fun h => absurd h empty, ?_⟩
    rintro - rfl rfl
    simp only [empty, reduceCtorEq, false_and, and_false, if_false] at ae eu link slot
    exact ⟨⟨host, others, ae⟩, link, by simpa [SlotRec.sampled] using slot, eu⟩

/-- Settles O17: PRES_N high falls under removal, which EMPTY has none of. -/
theorem removalResetsSlot : Obligations.RemovalResetsSlot := by
  intro s i pg fltN up
  have eq : (s.atPins i (some true) pg fltN).sample i (some true) pg fltN =
      (s.recorded i (some true) pg fltN).remove i := by simp [sample_eq]
  obtain ⟨t, run, host, others, inputs, ae, eu, link, slot⟩ := levels_happening up eq
  refine ⟨t, run, fun present => ?_, fun empty => ?_⟩
  · have there : ((s.recorded i (some true) pg fltN).slot i).state ≠ .empty := by simpa using present
    rw [slot_remove there, slot_recorded, policy_recorded] at slot
    rw [link_remove there] at link
    rw [remove_ae there, leaveQueue_recorded_ae] at ae
    rw [remove_eu there, slot_recorded, recorded_eu] at eu
    exact ⟨slot, link, ⟨host, others, ae⟩, eu⟩
  · have gone : ((s.recorded i (some true) pg fltN).slot i).state = .empty := by simpa using empty
    rw [remove_of_empty gone] at ae eu link slot
    rw [slot_recorded] at slot
    exact ⟨slot, link, ⟨host, others, ae⟩, eu⟩

/-! ### Faults -/

/-- What the watch does at the end of a happening: it may be cleared, and notices may follow. -/
theorem afterWatch_eq {maxPower : Nat} {r r' : SlotRec} (h : afterWatch maxPower r r') :
    ∃ watch more, r' = { r with watch := watch, outbox := r.outbox ++ more } := by
  unfold afterWatch at h
  split at h
  · split at h
    · exact ⟨_, _, h⟩
    · exact ⟨r.watch, [], by simpa using h⟩
  · exact ⟨r.watch, [], by simpa using h⟩

/-- The cut withdraws the exchange and the pending request; a frame being sent is completed (R70), and a CUT frame is
asked for where the link serves one (R73). -/
theorem LinkRec.cut_facts (l : LinkRec) :
    l.cut.exchange = none ∧ l.cut.pendingReq = none ∧
    (∀ x, l.exchange = some x → x.phase = .send → l.cut.stale = some (.send x.frame x.bit)) ∧
    (l.link ≠ .down → l.cut.waiting = some .cut) := by
  have link : l.withdraw.link = l.link := l.withdraw_keeps.1
  refine ⟨?_, ?_, fun x hx hp => ?_, fun up => ?_⟩
  · rw [← l.withdraw_exchange]; simp only [LinkRec.cut, LinkRec.ask]; split <;> rfl
  · simp only [LinkRec.cut, LinkRec.ask]; split <;> rfl
  · have stale : l.withdraw.stale = some (.send x.frame x.bit) := by
      simp [LinkRec.withdraw, LinkRec.withdrawExchange, hx, hp]
    rw [← stale]; simp only [LinkRec.cut, LinkRec.ask]; split <;> rfl
  · simp [LinkRec.cut, LinkRec.ask, LinkRec.polling, link, up]

/-- A state in which slot `i` has no more than taken a sample's levels, or has taken none. -/
def State.sampledFrom (u s : State) (i : SlotId) : Prop :=
  (∃ presN pg fltN, u.slot i = (s.slot i).sampled presN pg fltN) ∧ u.link i = s.link i ∧ u.ae = s.ae ∧ u.cu = s.cu ∧
    u.eu = s.elapse.eu

theorem sampledFrom_recorded (s : State) (i : SlotId) (presN pg fltN : Option Bool) :
    (s.recorded i presN pg fltN).sampledFrom s i :=
  ⟨⟨presN, pg, fltN, slot_recorded ..⟩, rfl, rfl, rfl, rfl⟩

theorem sampledFrom_elapse (s : State) (i : SlotId) : s.elapse.sampledFrom s i :=
  ⟨⟨none, none, none, rfl⟩, rfl, rfl, rfl, rfl⟩

/-- From `s` to `t` slot `i` has faulted, in a state that had no more than taken the levels of a sample. -/
def faultedBy (i : SlotId) (cause : FaultCause) (s t : State) : Prop :=
  ∃ u : State, u.sampledFrom s i ∧ sameHost s t ∧ othersSame i s t ∧ t.ae = (u.fault i cause).ae ∧
    t.eu = (u.fault i cause).eu ∧ t.link i = (u.fault i cause).link i ∧
    afterWatch (s.policy i).maxPower ((u.fault i cause).slot i) (t.slot i)

/-- A fault under power, in whatever happening it is found. -/
theorem faulted_under_power {s t : State} {i : SlotId} {cause : FaultCause} (en : (s.slot i).en = true)
    (faulted : faultedBy i cause s t) :
    (t.slot i).en = false ∧ (t.slot i).granted = 0 ∧ (t.slot i).cause = some cause ∧
    (t.slot i).strikes = min ((s.slot i).strikes + 1) 3 ∧
    (t.slot i).state = (if (t.slot i).strikes < 3 then .faulted else .lockedOut) ∧
    (t.slot i).current = none ∧ (t.slot i).restated = none ∧ (t.slot i).offered = none ∧
    (t.slot i).reduction = none ∧ (t.slot i).owed = none ∧ (t.slot i).linkHold = false ∧
    (t.slot i).raiseDeclined = false ∧ (t.slot i).effClass = (s.policy i).classLimit ∧
    (t.slot i).timers = { Timers.stopped with
      settle := (s.slot i).timers.settle
      holdoff := if (t.slot i).strikes < 3 then s.holdoffTimer else none } ∧
    (s.slot i).outbox ++ [.faulted cause] <+: (t.slot i).outbox ∧
    t.link i = (s.link i).cut ∧ (t.link i).exchange = none ∧ (t.link i).pendingReq = none ∧
    (∀ x, (s.link i).exchange = some x → x.phase = .send →
      (t.link i).stale = some (.send x.frame x.bit)) ∧
    ((s.link i).link ≠ .down → (t.link i).waiting = some .cut) ∧
    t.eu =
      (if (t.slot i).strikes < 3 then
        s.elapse.eu.append .fault (some i) (byteOf cause.code) (BitVec.ofNat 16 (t.slot i).strikes)
      else
        (s.elapse.eu.append .fault (some i) (byteOf cause.code) (BitVec.ofNat 16 (t.slot i).strikes)).append
          .lockout (some i) (byteOf cause.code) 3) ∧
    onlySlotQueue i s t := by
  obtain ⟨u, ⟨⟨presN, pg, fltN, rec⟩, ulink, uae, ucu, ueu⟩, host, others, ae, eu, link, slot⟩ := faulted
  have en' : ((s.slot i).sampled presN pg fltN).en = true := en
  have pol : u.policy i = s.policy i := congrArg (·.settings.policy[i.val]) ucu
  have queue : (u.leaveQueue i).ae = (s.leaveQueue i).ae := by simp only [State.leaveQueue, uae]
  rw [slot_fault, rec, en', if_pos rfl, pol, holdoffTimer_of_cu ucu] at slot
  rw [link_fault, rec, en', if_pos rfl, ulink] at link
  rw [fault_eu, rec, ueu, SlotRec.sampled_strikes] at eu
  rw [fault_ae, queue] at ae
  obtain ⟨watch, more, eq⟩ := afterWatch_eq slot
  obtain ⟨exchange, pending, stale, waiting⟩ := (s.link i).cut_facts
  have third : min ((s.slot i).strikes + 1) 3 < 3 ↔ (s.slot i).strikes < 2 := by omega
  refine ⟨by rw [eq]; rfl, by rw [eq]; rfl, by rw [eq]; rfl, by rw [eq]; rfl, ?_, by rw [eq]; rfl, by rw [eq]; rfl,
    by rw [eq]; rfl, by rw [eq]; rfl, by rw [eq]; rfl, by rw [eq]; rfl, by rw [eq]; rfl, by rw [eq]; rfl, ?_,
    by rw [eq]; exact ⟨more, rfl⟩, link, by rw [link, exchange], by rw [link, pending], by rw [link]; exact stale,
    by rw [link]; exact waiting, ?_, host, others, ae⟩
  · simp [eq, SlotRec.sending, SlotRec.struck, SlotRec.powerless, third]
  · simp [eq, SlotRec.sending, SlotRec.struck, SlotRec.powerless, third, Timers.stopped]
  · have strikes : (t.slot i).strikes = min ((s.slot i).strikes + 1) 3 := by rw [eq]; rfl
    rw [eu, strikes, Eu.faulted]
    by_cases two : (s.slot i).strikes < 2
    · rw [if_pos two, if_pos (third.mpr two), show min ((s.slot i).strikes + 1) 3 = (s.slot i).strikes + 1 by omega]
    · rw [if_neg two, if_neg (mt third.mp two), show min ((s.slot i).strikes + 1) 3 = 3 by omega]
      rfl

/-- A sample that falls under a fault rule. -/
theorem sample_faults {s : State} {i : SlotId} {presN pg fltN : Option Bool} {c : Instr} {cause : FaultCause}
    (up : s.resetLow = false) (h : carries i presN pg fltN c)
    (rule : (s.atPins i presN pg fltN).sample i presN pg fltN = (s.recorded i presN pg fltN).fault i cause) :
    ∃ t, exec c s = .next t ∧ faultedBy i cause s t := by
  obtain ⟨t, run, host, others, -, ae, eu, link, slot⟩ := levels_happening up rule
  exact ⟨t, (exec_carries h s).trans run, _, sampledFrom_recorded .., host, others, ae, eu, link, slot⟩

/-- A timer whose expiry is a fault. -/
theorem timer_faults {s : State} {i : SlotId} {f : State → State} {cause : FaultCause} (up : s.resetLow = false)
    (rule : f s.elapse = s.elapse.fault i cause) :
    ∃ t, happening (atSlot i f) s = .next t ∧ faultedBy i cause s t := by
  obtain ⟨t, run, ⟨host, others, -⟩, ae, eu, link, slot⟩ := atSlot_happening (i := i) f up (by rw [rule]; simp)
  rw [rule] at ae eu link slot
  exact ⟨t, run, _, sampledFrom_elapse .., host, others, ae, eu, link, slot⟩

/-- Settles O18: each of the five happenings is a fault of its own cause. -/
theorem faultsCutThePoweredSlot : Obligations.FaultsCutThePoweredSlot := by
  intro s i presN pg fltN c cause up en found
  obtain ⟨t, run, faulted⟩ : ∃ t, exec c s = .next t ∧ faultedBy i cause s t := by
    rcases found with ⟨h, rfl, enabled, rfl⟩ | ⟨h, rfl, fltN, enabled, ramped, rfl⟩ | ⟨rfl, state, timer, rfl⟩ |
      ⟨rfl, state, timer, rfl⟩ | ⟨rfl, state, timer, rfl⟩
    · have present : ¬ (s.slot i).state = .empty := by rintro e; simp [e, SlotState.enabled, SlotState.poweredFamily] at enabled
      exact sample_faults up h (by simp [sample_eq, carries_presN h, present, enabled])
    · have present : ¬ (s.slot i).state = .empty := by rintro e; simp [e, SlotState.enabled, SlotState.poweredFamily] at enabled
      exact sample_faults up h (by simp [sample_eq, carries_presN h, present, enabled, fltN, ramped])
    · exact timer_faults up (by simp [State.rampExpires, state, timer])
    · exact timer_faults up (by simp [State.reduceExpires, state, timer])
    · exact timer_faults up (by simp [State.graceExpires, state, timer])
  exact ⟨t, run, faulted_under_power en faulted⟩

/-! ### Power good, and levels no rule names -/

/-- Settles O19: PG high falls under power-up in POWERING. -/
theorem powerGoodEntersPowered : Obligations.PowerGoodEntersPowered := by
  intro s i presN fltN c up powering h noFault
  have rule : (s.atPins i presN (some true) fltN).sample i presN (some true) fltN =
      (s.recorded i presN (some true) fltN).becomePowered i := by
    simp [sample_eq, carries_presN h, powering, noFault]
  obtain ⟨t, run, host, others, inputs, ae, eu, link, slot⟩ := levels_happening up rule
  rw [slot_becomePowered, slot_recorded] at slot
  rw [becomePowered_eu, slot_recorded, recorded_eu] at eu
  exact ⟨t, (exec_carries h s).trans run, ⟨host, others, ae⟩, link, inputs, slot, eu⟩

/-- Settles O20: the levels left fall under no rule. -/
theorem otherLevelsAreOnlyRecorded : Obligations.OtherLevelsAreOnlyRecorded := by
  intro s i presN pg fltN c up h present noFault noGood noLoss
  have rule : (s.atPins i presN pg fltN).sample i presN pg fltN = s.recorded i presN pg fltN := by
    have loss : ¬ (pg = some false ∧ (s.slot i).state.enabled = true ∧ (s.slot i).state ≠ .powering) := by
      rintro ⟨low, enabled, ramped⟩
      rcases noLoss low with off | powering
      · simp [off] at enabled
      · exact ramped powering
    rw [sample_eq, if_neg (carries_presN h), if_neg fun p => present p.1 p.2,
      if_neg fun p => by simp [noFault p.1] at p, if_neg fun p => noGood p.1 p.2, if_neg loss]
  obtain ⟨t, run, host, others, inputs, ae, eu, link, slot⟩ := levels_happening up rule
  rw [slot_recorded] at slot
  exact ⟨t, (exec_carries h s).trans run, ⟨host, others, ae⟩, link, eu, inputs, slot⟩

/-! ### Slot timers -/

/-- The link record that a QUERY request leaves for the QUERY itself (R71, R81). -/
def LinkRec.freed (l : LinkRec) : LinkRec :=
  { l.withdraw with
    waiting := if l.waiting = some .refuse then none else l.waiting
    link := if l.link = .down then .up else l.link }

theorem LinkRec.query_eq (l : LinkRec) (limit : Nat) :
    l.query limit =
      if l.freed.completing then { l.freed with queryDue := true } else l.freed.begin .query limit := rfl

/-- A frame that is being sent as it is withdrawn is completed. -/
theorem LinkRec.freed_stale {l : LinkRec} {x : Exchange} (hx : l.exchange = some x) (hp : x.phase = .send) :
    l.freed.stale = some (.send x.frame x.bit) := by
  simp [LinkRec.freed, LinkRec.withdraw, LinkRec.withdrawExchange, hx, hp]

/-- Withdrawal leaves no frame to complete where none is being sent. -/
theorem LinkRec.freed_completing {l : LinkRec} (free : l.completing = false)
    (started : ∀ x, l.exchange = some x → x.phase ≠ .send) : l.freed.completing = false := by
  simp only [LinkRec.freed, LinkRec.withdraw, LinkRec.withdrawExchange, LinkRec.completing] at free ⊢
  cases hx : l.exchange with
  | none => simpa using free
  | some x =>
    have := started x hx
    cases hp : x.phase <;> simp_all

/-- What a QUERY request makes of a link record (R63, R70, R71, R81). -/
theorem LinkRec.query_facts (l : LinkRec) (limit : Nat) :
    (l.completing = false → (∀ x, l.exchange = some x → x.phase ≠ .send) →
      (l.query limit).exchange = some (.fresh .query .waitLine limit (!l.seq)) ∧ (l.query limit).seq = l.seq) ∧
    (∀ x, l.exchange = some x → x.phase = .send →
      (l.query limit).exchange = none ∧ (l.query limit).seq = l.seq ∧ (l.query limit).queryDue = true ∧
      (l.query limit).stale = some (.send x.frame x.bit)) ∧
    (l.query limit).pendingReq = none ∧
    (l.query limit).link = (if l.link = .down then .up else l.link) := by
  have seq : l.freed.seq = l.seq := l.withdraw_keeps.2.1
  rw [LinkRec.query_eq]
  refine ⟨fun free started => ?_, fun x hx hp => ?_, by split <;> rfl, by split <;> rfl⟩
  · rw [if_neg (by simp [LinkRec.freed_completing free started]), LinkRec.begin_eq, seq]
    exact ⟨rfl, rfl⟩
  · have stale := LinkRec.freed_stale hx hp
    rw [if_pos (by simp [LinkRec.completing, stale])]
    exact ⟨l.withdraw_exchange, seq, rfl, stale⟩

/-- Settles O21: both expiries enter IDENTIFY, which asks for a QUERY. -/
theorem expiryEntersIdentify : Obligations.ExpiryEntersIdentify := by
  intro s i c up found
  obtain ⟨f, u, run, rule, slot_u, link_u, ae_u, cu_u, eu_u⟩ : ∃ (f : State → State) (u : State),
      exec c s = happening (atSlot i f) s ∧ f s.elapse = u.identify i ∧ u.slot i = s.slot i ∧ u.link i = s.link i ∧
      u.ae = s.ae ∧ SlotFrame i s.elapse u ∧
      u.eu = (if (s.slot i).state = .faulted then
        s.elapse.eu.append .retry (some i) (byteOf (causeCode (s.slot i).cause)) (BitVec.ofNat 16 (s.slot i).strikes)
        else s.elapse.eu) := by
    rcases found with ⟨rfl, state, timer⟩ | ⟨rfl, state, timer⟩
    · exact ⟨fun s => s.settleExpires i, s.elapse, rfl, by simp [State.settleExpires, state, timer], rfl, rfl, rfl,
        .refl .., by rw [if_neg (by simp [state])]⟩
    · exact ⟨fun s => s.holdoffExpires i, s.elapse.event .retry (some i) (causeCode (s.slot i).cause)
        (s.slot i).strikes, rfl, by simp [State.holdoffExpires, state, timer], rfl, rfl, rfl, .refl ..,
        by rw [if_pos state]; rfl⟩
  obtain ⟨t, answer, ⟨host, others, inputs⟩, ae, eu, link, slot⟩ := atSlot_happening (i := i) f up (by simpa [rule])
  have limit : u.retryLimit = s.cu.settings.retryLimit := congrArg (·.settings.retryLimit) cu_u.1.2.2.2.1
  rw [rule, slot_identify, slot_u] at slot
  rw [rule, link_identify, link_u, limit] at link
  rw [rule, identify_ae, ae_u] at ae
  rw [rule, identify_eu, eu_u] at eu
  obtain ⟨startFree, startDue, pending, linkState⟩ := (s.link i).query_facts s.cu.settings.retryLimit
  rw [← link] at startFree startDue pending linkState
  exact ⟨t, run.trans answer, ⟨host, others, ae⟩, inputs, slot, startFree, startDue, pending, linkState, eu⟩

/-- Settles O22: the expiry changes the slot's record alone. -/
theorem cleanTimeClearsStrikes : Obligations.CleanTimeClearsStrikes := by
  intro s i up powered timer
  have rule : s.elapse.cleanExpires i =
      s.elapse.modSlot i fun r => { r with strikes := 0, timers := { r.timers with clean := none } } := by
    simp [State.cleanExpires, powered, timer]
  obtain ⟨t, run, ⟨host, others, inputs⟩, ae, eu, link, slot⟩ :=
    atSlot_happening (i := i) (fun s => s.cleanExpires i) up (by simp)
  rw [rule] at ae eu link slot
  rw [slot_modSlot_same] at slot
  exact ⟨t, run, ⟨host, others, ae⟩, link, eu, inputs, slot⟩

end Sys2Proof.Machine
end

section
/-! Resets and restarts (chapter 11): the state after reset, RESET_N low, and the pin reset and the full restart from the
inputs' first samples. -/

namespace Sys2Proof.Machine

/-! ### The state after reset, and a step -/

@[simp] theorem slot_reset (i : SlotId) : State.reset.slot i = .reset true false true 0 := Vector.getElem_replicate ..
@[simp] theorem link_reset (i : SlotId) : State.reset.link i = .reset := Vector.getElem_replicate ..
@[simp] theorem entry_reset (i : SlotId) : State.reset.entry i = .reset := Vector.getElem_replicate ..
@[simp] theorem policy_reset (i : SlotId) : State.reset.policy i = .reset := Vector.getElem_replicate ..
@[simp] theorem cmd_reset (t : Fin 4) : State.reset.cmd t = .free := Vector.getElem_replicate ..

/-- Settles O1: the reset records, read. -/
theorem resetHoldsPinResetValues : Obligations.ResetHoldsPinResetValues := by
  refine ⟨fun i => ?_, rfl, rfl, rfl, rfl, rfl, rfl, rfl, rfl, rfl, fun t => by simp [CmdSlot.free], rfl, rfl, rfl, rfl,
    rfl, rfl, rfl, rfl, rfl, rfl, rfl, rfl, rfl, rfl, rfl, rfl, rfl, rfl, rfl⟩
  rw [slot_reset, link_reset, entry_reset, policy_reset]
  exact ⟨rfl, rfl, rfl, rfl, rfl, rfl, rfl, rfl, rfl, rfl, rfl, rfl⟩

/-- Settles O2: with every record empty there is nothing for an invariant to fail on. -/
theorem resetMeetsInvariants : Obligations.ResetMeetsInvariants := by
  have empty : SlotState.empty.enabled = false ∧ SlotState.empty.poweredFamily = false := ⟨rfl, rfl⟩
  refine ⟨⟨by decide, by decide⟩, ⟨⟨List.nodup_nil, fun i => ?_⟩, fun i => ?_, fun i => ?_⟩,
    ⟨by simp only [State.excessRight]; decide, fun h => absurd rfl h⟩, fun t u running _ => ?_, ⟨rfl, rfl⟩,
    ⟨⟨List.nodup_nil, nofun⟩, ⟨List.nodup_nil, by decide, nofun⟩, fun i => ?_, fun i l held => ?_⟩, fun i => ?_,
    fun i high => ?_⟩
  · rw [slot_reset]
    exact ⟨nofun, nofun⟩
  · simp [State.enHigh, SlotRec.reset, empty]
  · simp [SlotRec.reset]
  · simp [CmdSlot.free] at running
  · simp [Policy.reset]
  · simp [SlotRec.reset] at held
  · simp [SlotRec.powerRight, SlotRec.reset, empty]
  · simp [State.enHigh, SlotRec.reset] at high

/-- Settles O3: by the definition of a step. -/
theorem stepRunsFrontCommand : Obligations.StepRunsFrontCommand := fun _ _ _ => rfl

/-! ### RESET_N low -/

/-- Settles O5: the two of RESET_N aside, a command is a happening of the running part. -/
theorem lowResetHoldsEveryBlock : Obligations.LowResetHoldsEveryBlock := by
  intro s c low noReset noLow
  obtain ⟨t, answer⟩ := exec_next c s
  rcases (actClosed_pending s.pending).exec_cases answer with ⟨first, rfl, -⟩ | ⟨rfl, -⟩ | ⟨-, rfl⟩ | ⟨up, -⟩
  · exact absurd rfl (noReset first)
  · exact absurd rfl noLow
  · exact answer
  · simp [low] at up

@[simp] theorem slot_rest (s : State) (i : SlotId) : s.rest.slot i = { s.slot i with en := false } :=
  Vector.getElem_map ..

/-- Settles O11: RESET_N low is a flag, the enables and the transfer. -/
theorem lowResetDrivesOutputsOff : Obligations.LowResetDrivesOutputsOff := fun s =>
  ⟨s.rest, rfl, rfl, rfl, fun i => ⟨rfl, rfl, slot_rest s i⟩, rfl, rfl, rfl, rfl, rfl, rfl, rfl, rfl⟩

/-! ### Folds over the slots -/

section
variable {f : State → SlotId → State} {α : Type}

/-- What no visit of a slot changes, visits of any number of slots leave as it was. -/
theorem foldl_keeps {view : State → α} (keeps : ∀ s i, view (f s i) = view s) (l : List SlotId) (s : State) :
    view (l.foldl f s) = view s := by
  induction l generalizing s with
  | nil => rfl
  | cons i l ih => exact (ih (f s i)).trans (keeps s i)

/-- What a visit of one slot does not change at another is left as it was by visits of others, ... -/
theorem foldl_other {view : State → SlotId → α} (other : ∀ s i j, j ≠ i → view (f s i) j = view s j) {i : SlotId}
    {l : List SlotId} (absent : i ∉ l) (s : State) : view (l.foldl f s) i = view s i := by
  induction l generalizing s with
  | nil => rfl
  | cons j l ih =>
    exact (ih (List.not_mem_of_not_mem_cons absent) (f s j)).trans (other s j i (List.ne_of_not_mem_cons absent))

/-- ... and is, at a slot visited once, what its own visit makes of it. -/
theorem foldl_own {view : State → SlotId → α} (other : ∀ s i j, j ≠ i → view (f s i) j = view s j) {i : SlotId}
    {l : List SlotId} (once : l.Nodup) (mem : i ∈ l) (s : State) :
    ∃ u, view u i = view s i ∧ view (l.foldl f s) i = view (f u i) i := by
  induction l generalizing s with
  | nil => cases mem
  | cons j l ih =>
    obtain ⟨absent, once⟩ := List.nodup_cons.mp once
    by_cases same : i = j
    · subst same
      exact ⟨s, rfl, foldl_other other absent (f s i)⟩
    · obtain ⟨u, before, after⟩ := ih once ((List.mem_cons.mp mem).resolve_left same) (f s j)
      exact ⟨u, before.trans (other s j i same), after⟩

end

theorem mem_allSlots (i : SlotId) : i ∈ allSlots := by revert i; decide

theorem allSlots_nodup : allSlots.Nodup := by decide

/-! ### The first samples -/

/-- One slot's part of the first samples. -/
def State.settleAbsent (s : State) (i : SlotId) : State := if (s.slot i).presN then s else s.settle i

theorem settlePresent_eq (s : State) : s.settlePresent = allSlots.foldl State.settleAbsent s := rfl

section
variable (s : State) (i j : SlotId)

theorem slot_settle_other (ne : j ≠ i) : (s.settle i).slot j = s.slot j := slot_modSlot_other _ _ ne

theorem slot_settleAbsent_other (ne : j ≠ i) : (s.settleAbsent i).slot j = s.slot j := by
  unfold State.settleAbsent
  split
  · rfl
  · exact slot_settle_other s i j ne

@[simp] theorem settleAbsent_presN : ((s.settleAbsent i).slot j).presN = (s.slot j).presN := by
  unfold State.settleAbsent
  split
  · rfl
  · by_cases same : j = i
    · subst same; simp
    · rw [slot_settle_other s i j same]

/-- The slot record after the first samples (R22). -/
theorem slot_settlePresent : s.settlePresent.slot i =
    if (s.slot i).presN then s.slot i
    else { s.slot i with state := .settling, timers := { (s.slot i).timers with settle := some 50 } } := by
  obtain ⟨u, before, after⟩ :=
    foldl_own (view := State.slot) slot_settleAbsent_other allSlots_nodup (mem_allSlots i) s
  rw [settlePresent_eq, after, State.settleAbsent, before]
  split
  · exact before
  · rw [slot_settle, before]

theorem settlePresent_links : s.settlePresent.links = s.links :=
  foldl_keeps (view := State.links) (f := State.settleAbsent) (fun s i => by unfold State.settleAbsent; split <;> rfl) ..

theorem settlePresent_ae : s.settlePresent.ae = s.ae :=
  foldl_keeps (view := State.ae) (f := State.settleAbsent) (fun s i => by unfold State.settleAbsent; split <;> rfl) ..

/-- Time and the enables stand while events are appended. -/
theorem settlePresent_clock :
    s.settlePresent.eu.timeMs = s.eu.timeMs ∧ s.settlePresent.eu.intEnable = s.eu.intEnable := by
  have time (s : State) (i : SlotId) : (s.settleAbsent i).eu.timeMs = s.eu.timeMs := by
    unfold State.settleAbsent
    split
    · rfl
    · rw [settle_eu]; exact (Eu.append_frame ..).1
  have enable (s : State) (i : SlotId) : (s.settleAbsent i).eu.intEnable = s.eu.intEnable := by
    unfold State.settleAbsent
    split
    · rfl
    · rw [settle_eu]; exact (Eu.append_frame ..).2
  rw [settlePresent_eq]
  exact ⟨foldl_keeps (view := fun s => s.eu.timeMs) time allSlots s,
    foldl_keeps (view := fun s => s.eu.intEnable) enable allSlots s⟩

end

/-- An append to a queue with room puts its record at the tail. -/
theorem Eu.append_room {e : Eu} (k : EventKind) (slot : Option SlotId) (a : Byte) (b : Half)
    (room : e.queue.length ≤ 30) : (e.append k slot a b).queue =
      e.queue ++ [{ seq := e.nextSeq, kind := k, slot := slot, a := a, b := b, time := e.timeMs }] := by
  rw [Eu.append_of_length_le k slot a b room, Eu.raiseBits_queue, Eu.keep_queue]

/-- PRESENT for each of these slots (R22). -/
def Eu.presents (e : Eu) (l : List SlotId) : Eu := l.foldl (fun e i => e.append .present (some i) 0 0) e

theorem Eu.presents_cons (e : Eu) (i : SlotId) (l : List SlotId) :
    e.presents (i :: l) = (e.append .present (some i) 0 0).presents l := rfl

/-- The events of slots that settle, in the order of the visits. -/
theorem settled_eu (l : List SlotId) (s : State) :
    (l.foldl State.settleAbsent s).eu = s.eu.presents (l.filter fun i => !(s.slot i).presN) := by
  induction l generalizing s with
  | nil => rfl
  | cons i l ih =>
    rw [List.foldl_cons, ih]
    simp only [settleAbsent_presN]
    unfold State.settleAbsent
    cases h : (s.slot i).presN <;> simp [h, Eu.presents_cons]

theorem Eu.presents_queue (l : List SlotId) (e : Eu) (room : e.queue.length + l.length ≤ 31) :
    (e.presents l).queue.map (fun r => (r.kind, r.slot)) =
      e.queue.map (fun r => (r.kind, r.slot)) ++ l.map fun i => (.present, some i) := by
  induction l generalizing e with
  | nil => simp [Eu.presents]
  | cons i l ih =>
    rw [List.length_cons] at room
    have queue := Eu.append_room (e := e) .present (some i) 0 0 (by omega)
    rw [Eu.presents_cons, ih _ (by rw [queue, List.length_append, List.length_singleton]; omega), queue]
    simp

/-- Two Event Units alike but for the first records of their queues. -/
def Eu.alikeBehind (r r' : Event) (e e' : Eu) : Prop :=
  ∃ q, e.queue = r :: q ∧ e'.queue = r' :: q ∧ e.nextSeq = e'.nextSeq ∧ e.timeMs = e'.timeMs

theorem Eu.alikeBehind.append {r r' : Event} {e e' : Eu} (alike : e.alikeBehind r r' e') (k : EventKind)
    (slot : Option SlotId) (a : Byte) (b : Half) (room : e.queue.length ≤ 30) :
    (e.append k slot a b).alikeBehind r r' (e'.append k slot a b) := by
  obtain ⟨q, queue, queue', seq, time⟩ := alike
  have room' : e'.queue.length ≤ 30 := by rw [queue'] ; rw [queue] at room; exact room
  refine ⟨q ++ [{ seq := e.nextSeq, kind := k, slot := slot, a := a, b := b, time := e.timeMs }], ?_, ?_, ?_, ?_⟩
  · rw [Eu.append_room _ _ _ _ room, queue]; rfl
  · rw [Eu.append_room _ _ _ _ room', queue', seq, time]; rfl
  · rw [Eu.append_of_length_le _ _ _ _ room, Eu.append_of_length_le _ _ _ _ room']; simp [seq]
  · rw [(Eu.append_frame ..).1, (Eu.append_frame ..).1, time]

theorem Eu.alikeBehind.presents {r r' : Event} (l : List SlotId) {e e' : Eu} (alike : e.alikeBehind r r' e')
    (room : e.queue.length + l.length ≤ 31) : (e.presents l).alikeBehind r r' (e'.presents l) := by
  induction l generalizing e e' with
  | nil => exact alike
  | cons i l ih =>
    rw [List.length_cons] at room
    refine ih (alike.append _ _ _ _ (by omega)) ?_
    rw [Eu.append_room _ _ _ _ (by omega), List.length_append, List.length_singleton]
    omega

theorem present_count (first : SlotId → Bool) : (allSlots.filter first).length ≤ 8 :=
  (List.length_filter_le ..).trans (by decide)

/-- The start from the defaults before the present slots settle. -/
def State.started (s : State) (first : Inputs) (a : Byte) : State := (s.defaults first a).firstDerate

theorem coldStart_eq (s : State) (first : Inputs) (a : Byte) :
    s.coldStart first a = (s.started first a).settlePresent := rfl

section
variable (s : State) (first : Inputs) (a : Byte) (i : SlotId)

theorem started_eq : s.started first a =
    { s.defaults first a with
      eu := if first.derateN then .restarted a 0 0
        else (Eu.restarted a 0 0).append .derateOn none 0 (BitVec.ofNat 16 (s.defaults first a).ae.effective) } := by
  unfold State.started State.firstDerate
  cases h : first.derateN <;> simp only [State.defaults, Ae.reset, h, State.event] <;> rfl

@[simp] theorem slot_started :
    (s.started first a).slot i = .reset first.presN[i.val] first.pg[i.val] first.fltN[i.val] 0 := by
  rw [started_eq]
  exact Vector.getElem_ofFn ..

theorem started_queue : (s.started first a).eu.queue.map (fun e => (e.kind, e.slot)) =
      (.restart, none) :: (if first.derateN then [] else [(.derateOn, none)]) ∧
    (s.started first a).eu.queue.length ≤ 2 ∧ (s.started first a).eu.timeMs = 0 ∧
    (s.started first a).eu.intEnable = 0 := by
  rw [started_eq]
  cases first.derateN <;> exact ⟨rfl, Nat.le_of_ble_eq_true rfl, rfl, rfl⟩

end

section
variable (s : State) (first : Inputs) (a : Byte)

/-- The slot records of a start from the defaults (R22). -/
def firstSlot (first : Inputs) (i : SlotId) : SlotRec :=
  if first.presN[i.val] then .reset true first.pg[i.val] first.fltN[i.val] 0
  else { SlotRec.reset false first.pg[i.val] first.fltN[i.val] 0 with
         state := .settling, timers := { Timers.stopped with settle := some 50 } }

@[simp] theorem slot_coldStart (i : SlotId) : (s.coldStart first a).slot i = firstSlot first i := by
  rw [coldStart_eq, slot_settlePresent, slot_started, firstSlot]
  cases first.presN[i.val] <;> rfl

theorem coldStart_links : (s.coldStart first a).links = .replicate 8 .reset := by
  rw [coldStart_eq, settlePresent_links, started_eq]; rfl

theorem coldStart_ae : (s.coldStart first a).ae = .reset first.derateN := by
  rw [coldStart_eq, settlePresent_ae, started_eq]; rfl

/-- The blocks that the first samples leave at their defaults. -/
theorem coldStart_engine :
    (s.coldStart first a).pending = s.pending ∧ (s.coldStart first a).resetLow = false ∧
    (s.coldStart first a).inputs = first ∧ (s.coldStart first a).cu = .restarted .reset ∧
    (s.coldStart first a).wu = .restarted 0 7 0 ∧
    (s.coldStart first a).hp = .restarted (0x3A + first.straps.setWidth 7) := by
  obtain ⟨pending, resetLow, inputs, cu, wu, hp, -⟩ := EngineFrame.coldStart s first a
  exact ⟨pending, resetLow, inputs, cu, wu, hp⟩

/-- The events of a start from the defaults: of the first samples behind RESTART. -/
theorem coldStart_eu : (s.coldStart first a).eu =
    (s.started first a).eu.presents (allSlots.filter fun i => !first.presN[i.val]) := by
  rw [coldStart_eq, settlePresent_eq, settled_eu]
  simp only [slot_started, SlotRec.reset]

end

/-- Settles O10: the defaults, read; then DERATE_ON, and PRESENT for each slot whose first sample is low. -/
theorem pinResetStartsFromFirstSamples : Obligations.PinResetStartsFromFirstSamples := by
  intro s first
  obtain ⟨queue, room, time, enable⟩ := started_queue s first 0
  obtain ⟨time', enable'⟩ := settlePresent_clock (s.started first 0)
  rw [time, ← coldStart_eq] at time'
  rw [enable, ← coldStart_eq] at enable'
  obtain ⟨pending, resetLow, inputs, cu, wu, hp⟩ := coldStart_engine s first 0
  have ae := coldStart_ae s first 0
  have links := coldStart_links s first 0
  refine ⟨s.coldStart first 0, rfl, fun i => ⟨?_, ?_, ?_, slot_coldStart s first 0 i⟩, ae, cu, wu, hp, inputs, resetLow,
    pending, time', enable', ?_⟩
  · simp only [State.link, links]; exact Vector.getElem_replicate ..
  · simp only [State.entry, ae]; exact Vector.getElem_replicate ..
  · rw [State.enHigh, slot_coldStart, firstSlot]
    cases first.presN[i.val] <;> simp [SlotRec.reset]
  · have count := present_count fun i => !first.presN[i.val]
    rw [coldStart_eu, Eu.presents_queue _ _ (by omega), queue]
    rfl

/-! ### A requested restart -/

/-- A STOP while no restart is requested changes the Host Port alone. -/
theorem stopBus_unrequested {s : State} (none_ : s.hp.restart = none) :
    ∃ h : Hp, s.stopBus = { s with hp := h } ∧ h.phase = .idle ∧ h.restart = none ∧ h.address = s.hp.address := by
  unfold State.stopBus State.endTransfer
  split
  next idle => exact ⟨s.hp, rfl, idle, none_, rfl⟩
  next => rw [none_]; cases s.hp.staging.isSome <;> exact ⟨_, rfl, rfl, none_, rfl⟩

/-- Opening a write transfer while no restart is requested. -/
theorem openWrite_unrequested {s : State} (none_ : s.hp.restart = none) (off : Byte) :
    ∃ h : Hp, s.openWrite off = { s with hp := h } ∧ h.phase = .writing ∧ h.offset = off ∧ h.restart = none ∧
      h.address = s.hp.address := by
  obtain ⟨h, stopped, idle, none', address⟩ := stopBus_unrequested none_
  have again : ({ s with hp := h } : State).stopBus = { s with hp := h } := by simp [State.stopBus, idle]
  refine ⟨{ h with offset := off, phase := .writing, acked := true }, ?_, rfl, rfl, none', address⟩
  simp [State.openWrite, stopped, State.startBus, again, none', State.setOffset, State.heard, Hp.acknowledge]

/-- The kind of restart that a byte written to RESTART requests (R192). -/
def RestartKind.byte : RestartKind → Byte
  | .full => 0x01
  | .keepPower => 0x02

theorem writeByte_restart {s : State} (k : RestartKind) (writing : s.hp.phase = .writing) (offset : s.hp.offset = 0x03)
    (none_ : s.hp.restart = none) :
    s.writeByte k.byte = { s with hp := { s.hp with acked := true, restart := some k, offset := 0x04 } } := by
  have next : nextOffset 0x03#8 = 0x04 := by decide
  cases k <;>
    simp [State.writeByte, heard_writing (.inl writing), offset, none_, stagedRegister, State.deliverByte,
      State.requestRestart, RestartKind.byte, next]

/-- Ending the transfer that requested a restart acts on it (R192). -/
theorem stopBus_requested {s : State} {k : RestartKind} (writing : s.hp.phase = .writing)
    (requested : s.hp.restart = some k) :
    s.stopBus = ({ s with hp := { s.hp with phase := .idle, staging := none } } : State).restartAs k := by
  simp [State.stopBus, writing, State.endTransfer, requested]

/-- After a restart no transfer is in progress. -/
theorem stopBus_restarted (s : State) (k : RestartKind) : (s.restartAs k).stopBus = s.restartAs k := by
  have idle : (s.restartAs k).hp.phase = .idle := by
    cases k
    · rw [restartAs_full]
      exact congrArg Hp.phase (EngineFrame.coldStart s s.inputs 1).2.2.2.2.2.1
    · rw [restartAs_keepPower]
      exact congrArg Hp.phase (EngineFrame.warmStart s).2.2.2.2.2.1
  simp [State.stopBus, idle]

/-- The host's request of a restart is the restart, of a state that stands but for the port. -/
theorem hostRestart_eq {s : State} (k : RestartKind) (none_ : s.hp.restart = none) :
    ∃ h : Hp, h.address = s.hp.address ∧ s.hostRestart k.byte = ({ s with hp := h } : State).restartAs k := by
  have written (t : State) (writing : t.hp.phase = .writing) (offset : t.hp.offset = 0x03)
      (free : t.hp.restart = none) : ∃ h : Hp, h.address = t.hp.address ∧
        (t.writeByte k.byte).stopBus = ({ t with hp := h } : State).restartAs k := by
    rw [writeByte_restart k writing offset free]
    exact ⟨_, rfl, stopBus_requested writing rfl⟩
  unfold State.hostRestart State.hostWrite
  split
  next here =>
    obtain ⟨writing, offset, -⟩ := here
    exact written s writing offset none_
  next =>
    obtain ⟨h, opened, writing, offset, free, address⟩ := openWrite_unrequested none_ 0x03
    obtain ⟨h', address', stopped⟩ := written { s with hp := h } writing offset free
    rw [opened, List.foldl_cons, List.foldl_nil, stopped, stopBus_restarted]
    exact ⟨h', address'.trans address, rfl⟩

/-! ### The full restart -/

/-- A start from the defaults looks at the queue of commands and the model's counter alone. -/
theorem coldStart_congr {s u : State} (pending : s.pending = u.pending) (free : s.freeIndex = u.freeIndex)
    (first : Inputs) (a : Byte) : s.coldStart first a = u.coldStart first a := by
  simp only [State.coldStart, State.defaults, pending, free]

theorem started_alike (s u : State) (first : Inputs) (a : Byte) :
    (s.started first a).eu.alikeBehind (.restarted a 0) (.restarted 0 0) (u.started first 0).eu := by
  have fresh : (Eu.restarted a 0 0).alikeBehind (.restarted a 0) (.restarted 0 0) (Eu.restarted 0 0 0) :=
    ⟨[], rfl, rfl, rfl, rfl⟩
  rw [started_eq, started_eq]
  cases first.derateN
  · exact fresh.append _ _ _ _ (Nat.le_of_ble_eq_true rfl)
  · exact fresh

/-- Settles O12: the start is that of a pin reset, and the records behind RESTART are the same. -/
theorem fullRestartStartsLikePinReset : Obligations.FullRestartStartsLikePinReset := by
  intro s first up none_
  obtain ⟨u, atPins, inputs, hp, pending, free⟩ : ∃ u : State, u = { s.elapse with inputs := first } ∧
      u.inputs = first ∧ u.hp = s.hp ∧ u.pending = s.pending ∧ u.freeIndex = s.freeIndex + 1 :=
    ⟨_, rfl, rfl, rfl, rfl, rfl⟩
  generalize counted : ({ s with freeIndex := s.freeIndex + 1 } : State) = v
  have pending_v : v.pending = s.pending := by rw [← counted]
  have free_v : v.freeIndex = s.freeIndex + 1 := by rw [← counted]
  have clear : u.hp.restart = none := by rw [hp, none_]
  obtain ⟨h, -, restarted⟩ := hostRestart_eq .full clear
  have effect : u.hostRestart 0x01 = v.coldStart first 1 := by
    refine restarted.trans ?_
    rw [restartAs_full, inputs]
    exact coldStart_congr (pending.trans pending_v.symm) (free.trans free_v.symm) first 1
  have run : exec (.fullRestart first) s = .next (u.hostRestart 0x01) := by
    rw [exec, execFullRestart, happening_running _ up, atPins]
    exact congrArg _ (if_neg (by simp [none_]))
  have count := present_count fun i => !first.presN[i.val]
  obtain ⟨q, queue, queue', -⟩ := (started_alike v s first 1).presents (allSlots.filter fun i => !first.presN[i.val])
    (by have := (started_queue v first 1).2.1; omega)
  rw [← coldStart_eu] at queue queue'
  obtain ⟨pending_t, -, -, cu, wu, hp⟩ := coldStart_engine v first 1
  obtain ⟨-, -, -, cu', wu', hp'⟩ := coldStart_engine s first 0
  refine ⟨v.coldStart first 1, run.trans (congrArg _ effect), rfl, s.coldStart first 0, rfl, ?_, ?_, ?_, ?_, ?_, ?_, ?_, ?_,
    ?_, pending_t.trans pending_v⟩
  · refine Vector.ext fun k hk => ?_
    exact (slot_coldStart v first 1 ⟨k, hk⟩).trans (slot_coldStart s first 0 ⟨k, hk⟩).symm
  · rw [coldStart_links, coldStart_links]
  · rw [coldStart_ae, coldStart_ae]
  · rw [cu, cu']
  · rw [wu, wu']
  · rw [hp, hp']
  · rw [queue, queue']; rfl
  · rw [queue]; rfl
  · rw [queue']; rfl

end Sys2Proof.Machine
end

section
/-! The keep-power restart (R195, R196): the records kept, then a QUERY and the held levels for each RESYNC slot. -/

namespace Sys2Proof.Machine

/-! ### The records kept -/

section
variable (s : State) (i : SlotId)

@[simp] theorem slot_keptPower : s.keptPower.slot i = (s.slot i).keptPower (s.policy i).classLimit s.holdoffTimer :=
  Vector.getElem_ofFn ..
@[simp] theorem link_keptPower : s.keptPower.link i = (s.link i).keptPower ((s.slot i).state.kept (s.slot i).presN) :=
  Vector.getElem_ofFn ..
@[simp] theorem entry_keptPower : s.keptPower.entry i =
    AeSlot.keptPower ((s.slot i).state.kept (s.slot i).presN) (s.policy i).maxPower := Vector.getElem_ofFn ..
@[simp] theorem SlotRec.keptPower_state (r : SlotRec) (classLimit : Nat) (holdoff : Option Nat) :
    (r.keptPower classLimit holdoff).state = r.state.kept r.presN := rfl

end

/-- What a keep-power restart enables is RESYNC alone. -/
theorem SlotState.kept_enabled (st : SlotState) (presN : Bool) :
    (st.kept presN).enabled = true ↔ st.kept presN = .resync := by
  cases st <;> cases presN <;> decide

/-! ### The events behind RESTART -/

/-- An Event Unit whose queue is headed by a given record, at a given time and with given enables. -/
def Eu.headed (head : Event) (time enable : Half) (e : Eu) : Prop :=
  e.queue.head? = some head ∧ e.timeMs = time ∧ e.intEnable = enable

/-- An append leaves the head of a queue: a full queue loses or counts at its tail (R166). -/
theorem Eu.headed.append {head : Event} {time enable : Half} {e : Eu} (h : e.headed head time enable) (k : EventKind)
    (slot : Option SlotId) (a : Byte) (b : Half) : (e.append k slot a b).headed head time enable := by
  obtain ⟨first, clock, enables⟩ := h
  refine ⟨?_, (Eu.append_frame ..).1.trans clock, (Eu.append_frame ..).2.trans enables⟩
  obtain ⟨rest, queue⟩ : ∃ rest, e.queue = head :: rest := by
    cases q : e.queue with
    | nil => simp [q] at first
    | cons r rest => exact ⟨rest, by simpa [q] using first⟩
  by_cases room : e.queue.length ≤ 30
  · rw [Eu.append_room _ _ _ _ room, queue]; rfl
  · obtain ⟨older, r, last⟩ : ∃ older r, rest = older ++ [r] := by
      refine ⟨rest.dropLast, rest.getLast ?_, (List.dropLast_append_getLast ?_).symm⟩ <;>
        exact fun none_ => by simp [queue, none_] at room
    have split_ : e.queue = (head :: older) ++ [r] := by rw [queue, last]; rfl
    rw [Eu.append_of_le_length _ _ _ _ split_ (by omega)]
    split
    · rfl
    · split
      · rw [Eu.keep_queue, Eu.dropping_queue, queue]; rfl
      · rw [Eu.dropping_queue, queue]; rfl

theorem Eu.headed.faulted {head : Event} {time enable : Half} {e : Eu} (h : e.headed head time enable) (i : SlotId)
    (cause : FaultCause) (strikes : Nat) : (e.faulted i cause strikes).headed head time enable := by
  unfold Eu.faulted
  split
  · exact h.append ..
  · exact (h.append ..).append ..

/-! ### Entering RESYNC -/

section
variable (s : State) (i j : SlotId)

/-- What stands of a slot that leaves a queue it is not in. -/
theorem leaveQueue_ae_of_empty (empty : s.ae.entryOrder = []) (unblocked : (s.entry i).blocked = false) :
    (s.leaveQueue i).ae = s.ae := by
  have entry : ({ s.entry i with blocked := false } : AeSlot) = s.entry i := by rw [← unblocked]
  have slots : updateAt s.ae.slots i (fun e => { e with blocked := false }) = s.ae.slots :=
    (congrArg (s.ae.slots.set i.val ·) entry).trans (Vector.set_getElem_self ..)
  simp only [State.leaveQueue, empty, List.filter_nil, slots]
  rw [← empty]

/-- The fault, if any, that the held levels bring on entering RESYNC (R196). -/
def SlotRec.heldFault (r : SlotRec) : Option FaultCause :=
  if r.fltN = false then some .switchFault else if r.pg = false then some .powerLost else none

theorem enterResync_eq : s.enterResync i =
    if (s.slot i).state = .resync then
      match (s.slot i).heldFault with
      | some cause => (s.linkQuery i).fault i cause
      | none => s.linkQuery i
    else s := by
  unfold State.enterResync State.resyncLevels SlotRec.heldFault
  cases hf : (s.slot i).fltN <;> cases hp : (s.slot i).pg <;> simp [hf, hp]

theorem SlotFrame.enterResync : SlotFrame i s (s.enterResync i) := by
  simp [State.enterResync]

/-- The slot record and the link record of a slot in RESYNC on entry. -/
def resyncSlot (r : SlotRec) (classLimit : Nat) (holdoff : Option Nat) : SlotRec :=
  match r.heldFault with
  | some cause => (r.powerless.struck cause classLimit holdoff).sending (.faulted cause)
  | none => r

variable {s i} in
theorem slot_enterResync (resync : (s.slot i).state = .resync) (en : (s.slot i).en = true) :
    (s.enterResync i).slot i = resyncSlot (s.slot i) (s.policy i).classLimit s.holdoffTimer := by
  rw [enterResync_eq, if_pos resync, resyncSlot]
  cases (s.slot i).heldFault with
  | none => rfl
  | some cause => rw [slot_fault, slot_linkQuery, en, if_pos rfl]; rfl

variable {s i} in
theorem link_enterResync (resync : (s.slot i).state = .resync) (kept : (s.slot i).heldFault = none) :
    (s.enterResync i).link i = (s.link i).query s.retryLimit := by
  rw [enterResync_eq, if_pos resync, kept]
  exact link_linkQuery ..

end

/-! ### The whole restart -/

section
variable (s : State) (i : SlotId)

/-- The kept records with the excess condition evaluated and PRESENT appended: what the slots enter RESYNC from. -/
def State.keptStart (s : State) : State := s.keptPower.evalExcess.keptPresent s.keptPower

theorem warmStart_eq : s.warmStart = allSlots.foldl State.enterResync s.keptStart := rfl

/-- PRESENT for a slot sent to SETTLING (R22, R195). -/
def State.presentIf (t u : State) (i : SlotId) : State :=
  if (t.slot i).state = .settling then u.event .present (some i) 0 0 else u

theorem keptPresent_eq (s t : State) : s.keptPresent t = allSlots.foldl t.presentIf s := rfl

theorem keptPresent_frame (s t : State) :
    (s.keptPresent t).slots = s.slots ∧ (s.keptPresent t).links = s.links ∧ (s.keptPresent t).cu = s.cu ∧
      (s.keptPresent t).ae = s.ae := by
  have keeps (u : State) (i : SlotId) : (t.presentIf u i).slots = u.slots ∧ (t.presentIf u i).links = u.links ∧
      (t.presentIf u i).cu = u.cu ∧ (t.presentIf u i).ae = u.ae := by
    unfold State.presentIf
    split <;> exact ⟨rfl, rfl, rfl, rfl⟩
  rw [keptPresent_eq]
  exact ⟨foldl_keeps (fun u i => (keeps u i).1) .., foldl_keeps (fun u i => (keeps u i).2.1) ..,
    foldl_keeps (fun u i => (keeps u i).2.2.1) .., foldl_keeps (fun u i => (keeps u i).2.2.2) ..⟩

theorem keptPresent_headed {s : State} (t : State) {head : Event} {time enable : Half}
    (h : s.eu.headed head time enable) : (s.keptPresent t).eu.headed head time enable := by
  rw [keptPresent_eq]
  refine ActClosed.foldl (P := fun u => u.eu.headed head time enable) (fun u i h => ?_) _ h
  unfold State.presentIf
  split
  · exact h.append ..
  · exact h

theorem evalExcess_headed {s : State} {head : Event} {time enable : Half} (h : s.eu.headed head time enable) :
    s.evalExcess.eu.headed head time enable := by
  unfold State.evalExcess
  dsimp only
  split
  · split
    · exact h
    · exact h.append ..
  · split
    · exact h.append ..
    · exact h

/-- The state the slots enter RESYNC from is the kept one, but for the excess condition and the events. -/
theorem keptStart_facts :
    s.keptStart.slots = s.keptPower.slots ∧ s.keptStart.links = s.keptPower.links ∧ s.keptStart.cu = s.keptPower.cu ∧
    s.keptStart.ae = { s.keptPower.ae with
      excess := decide (s.keptPower.ae.effective < s.keptPower.ae.committed) } ∧
    s.keptStart.eu.headed (.restarted 2 s.eu.timeMs) s.eu.timeMs s.eu.intEnable := by
  obtain ⟨slots, links, cu, ae⟩ := keptPresent_frame s.keptPower.evalExcess s.keptPower
  have restarted : s.keptPower.eu.headed (.restarted 2 s.eu.timeMs) s.eu.timeMs s.eu.intEnable := ⟨rfl, rfl, rfl⟩
  rw [evalExcess_slots] at slots
  rw [evalExcess_links] at links
  rw [evalExcess_cu] at cu
  rw [evalExcess_ae] at ae
  unfold State.keptStart
  exact ⟨slots, links, cu, ae, keptPresent_headed _ (evalExcess_headed restarted)⟩

/-- Entering RESYNC takes nobody from the empty queue, and appends events at most. -/
theorem enterResync_all {b : State} {head : Event} {time enable : Half} (headed : b.eu.headed head time enable)
    (empty : b.ae.entryOrder = []) (unblocked : ∀ i, (b.entry i).blocked = false) :
    (allSlots.foldl State.enterResync b).ae = b.ae ∧
      (allSlots.foldl State.enterResync b).eu.headed head time enable := by
  refine ActClosed.foldl (P := fun t => t.ae = b.ae ∧ t.eu.headed head time enable) (fun t i ⟨ae, headed⟩ => ?_) _
    ⟨rfl, headed⟩
  rw [enterResync_eq]
  split
  · cases (t.slot i).heldFault with
    | none => exact ⟨ae, headed⟩
    | some cause =>
      dsimp only
      rw [fault_ae, fault_eu]
      refine ⟨(leaveQueue_ae_of_empty _ i ?_ ?_).trans ae, headed.faulted ..⟩
      · exact (congrArg Ae.entryOrder ae).trans empty
      · exact (congrArg (·.slots[i.val].blocked) ae).trans (unblocked i)
  · exact ⟨ae, headed⟩

/-- The account and the head of the queue after the restart. -/
theorem warmStart_account :
    s.warmStart.ae = { s.keptPower.ae with
      excess := decide (s.keptPower.ae.effective < s.keptPower.ae.committed) } ∧
    s.warmStart.eu.headed (.restarted 2 s.eu.timeMs) s.eu.timeMs s.eu.intEnable := by
  obtain ⟨-, -, -, ae, headed⟩ := keptStart_facts s
  rw [warmStart_eq, ← ae]
  refine enterResync_all headed ?_ fun i => ?_
  · rw [ae]; rfl
  · have entry : s.keptStart.entry i = s.keptPower.entry i := congrArg (·.slots[i.val]) ae
    rw [entry, entry_keptPower]; rfl

theorem warmStart_entry : s.warmStart.entry i = s.keptPower.entry i := by
  unfold State.entry
  rw [(warmStart_account s).1]

/-- The records of each slot after the restart: those kept, a RESYNC slot's upon its entry. -/
theorem warmStart_slot : ∃ u : State, u.slot i = (s.slot i).keptPower (s.policy i).classLimit s.holdoffTimer ∧
    u.link i = (s.link i).keptPower ((s.slot i).state.kept (s.slot i).presN) ∧ u.cu = .restarted s.cu.settings ∧
    s.warmStart.slot i = (u.enterResync i).slot i ∧ s.warmStart.link i = (u.enterResync i).link i := by
  obtain ⟨slots, links, cu, -⟩ := keptStart_facts s
  obtain ⟨u, before, after⟩ := foldl_own (f := State.enterResync) (view := fun t j => (t.slot j, t.link j, t.cu))
    (fun t k j ne => by
      obtain ⟨slot, link, -⟩ := (SlotFrame.enterResync t k).2 j ne
      rw [slot, link, (SlotFrame.enterResync t k).1.2.2.2.1])
    allSlots_nodup (mem_allSlots i) s.keptStart
  obtain ⟨slot_u, link_u, cu_u⟩ := by simpa only [Prod.mk.injEq] using before
  obtain ⟨slot_t, link_t, -⟩ := by simpa only [Prod.mk.injEq] using after
  refine ⟨u, ?_, ?_, cu_u.trans cu, slot_t, link_t⟩
  · rw [slot_u, ← slot_keptPower]
    exact congrArg (·[i.val]) slots
  · rw [link_u, ← link_keptPower]
    exact congrArg (·[i.val]) links

/-- A slot that is not resynchronised keeps what was kept of its records. -/
theorem warmStart_other (other : (s.slot i).state.kept (s.slot i).presN ≠ .resync) :
    s.warmStart.slot i = (s.slot i).keptPower (s.policy i).classLimit s.holdoffTimer ∧
      s.warmStart.link i = (s.link i).keptPower ((s.slot i).state.kept (s.slot i).presN) := by
  obtain ⟨u, slot_u, link_u, -, slot, link⟩ := warmStart_slot s i
  have stays : u.enterResync i = u := by rw [enterResync_eq, slot_u, SlotRec.keptPower_state, if_neg other]
  rw [slot, link, stays]
  exact ⟨slot_u, link_u⟩

/-- A slot that is resynchronised, with what its held levels bring. -/
theorem warmStart_resync (resync : (s.slot i).state.kept (s.slot i).presN = .resync) :
    s.warmStart.slot i = resyncSlot ((s.slot i).keptPower (s.policy i).classLimit s.holdoffTimer)
      (s.policy i).classLimit s.holdoffTimer ∧
    ((s.slot i).fltN = true → (s.slot i).pg = true → s.warmStart.link i =
      ((s.link i).keptPower .resync).query s.cu.settings.retryLimit) := by
  obtain ⟨u, slot_u, link_u, cu_u, slot, link⟩ := warmStart_slot s i
  have state : (u.slot i).state = .resync := by rw [slot_u, SlotRec.keptPower_state, resync]
  have en : (u.slot i).en = true := by
    rw [slot_u]; exact (SlotState.kept_enabled ..).mpr resync
  have policy : u.policy i = s.policy i := congrArg (·.settings.policy[i.val]) cu_u
  have holdoff : u.holdoffTimer = s.holdoffTimer := by simp only [State.holdoffTimer, cu_u]; rfl
  refine ⟨by rw [slot, slot_enterResync state en, slot_u, policy, holdoff], fun fltN pg => ?_⟩
  have held : (u.slot i).heldFault = none := by
    rw [slot_u]; simp [SlotRec.heldFault, SlotRec.keptPower, SlotRec.reset, fltN, pg]
  rw [link, link_enterResync state held, link_u, resync, State.retryLimit, cu_u]
  rfl

end

/-! ### The statement -/

/-- Settles O13: the records kept, slot by slot, and the blocks of the host. -/
theorem keepPowerRestartResynchronises : Obligations.KeepPowerRestartResynchronises := by
  intro s up none_
  obtain ⟨h, address, restarted⟩ := hostRestart_eq (s := s.elapse) .keepPower none_
  generalize atPort : ({ s.elapse with hp := h } : State) = u at restarted
  have slot_u (i : SlotId) : u.slot i = s.slot i := by rw [← atPort]; rfl
  have link_u (i : SlotId) : u.link i = s.link i := by rw [← atPort]; rfl
  have ae_u : u.ae = s.ae := by rw [← atPort]; rfl
  have cu_u : u.cu = s.cu := by rw [← atPort]; rfl
  have policy_u (i : SlotId) : u.policy i = s.policy i := congrArg (·.settings.policy[i.val]) cu_u
  have holdoff_u : u.holdoffTimer = s.holdoffTimer := holdoffTimer_of_cu cu_u
  rw [restartAs_keepPower] at restarted
  have run : exec .keepPowerRestart s = .next (s.elapse.hostRestart 0x02) := by
    rw [exec, execKeepPowerRestart, happening_running _ up, if_neg (by simp [none_])]
  obtain ⟨pending, resetLow, inputs, cu, wu, hp, -⟩ := EngineFrame.warmStart u
  obtain ⟨ae, head, time, enable⟩ := warmStart_account u
  have low : u.warmStart.resetLow = false := by rw [resetLow, ← up, ← atPort]; rfl
  have entry (i : SlotId) : u.warmStart.entry i =
      AeSlot.keptPower ((s.slot i).state.kept (s.slot i).presN) (s.policy i).maxPower := by
    rw [warmStart_entry, entry_keptPower, slot_u, policy_u]
  have enabled (i : SlotId) : u.warmStart.enHigh i = (u.warmStart.slot i).en := by rw [State.enHigh, low]; rfl
  have part := fun i => And.intro (warmStart_resync u i) (warmStart_other u i)
  simp only [slot_u, link_u, policy_u, holdoff_u, cu_u] at part
  refine ⟨u.warmStart, run.trans (congrArg _ restarted), fun i => ⟨fun resync => ?_, fun other => ?_⟩, ?_⟩
  · obtain ⟨slot, link⟩ := (part i).1 resync
    rw [enabled, slot, entry, resync]
    refine ⟨rfl, rfl, rfl, fun fltN pg => ?_, fun fltN => ?_, fun fltN pg => ?_⟩
    · rw [link fltN pg]
      obtain ⟨start, -, -, linkState⟩ := ((s.link i).keptPower .resync).query_facts s.cu.settings.retryLimit
      obtain ⟨exchange, seq⟩ := start rfl nofun
      have held : ((s.slot i).keptPower (s.policy i).classLimit s.holdoffTimer).heldFault = none := by
        simp [SlotRec.heldFault, SlotRec.keptPower, SlotRec.reset, fltN, pg]
      rw [resyncSlot, held]
      refine ⟨resync, (SlotState.kept_enabled ..).mpr resync, rfl, rfl, rfl, rfl, rfl, rfl, ?_, rfl, rfl,
        linkState.trans rfl, seq, exchange⟩
      simp [SlotRec.keptPower, resync, Timers.stopped]
    · have held : ((s.slot i).keptPower (s.policy i).classLimit s.holdoffTimer).heldFault = some .switchFault := by
        simp [SlotRec.heldFault, SlotRec.keptPower, SlotRec.reset, fltN]
      rw [resyncSlot, held]
      exact ⟨rfl, rfl, rfl⟩
    · have held : ((s.slot i).keptPower (s.policy i).classLimit s.holdoffTimer).heldFault = some .powerLost := by
        simp [SlotRec.heldFault, SlotRec.keptPower, SlotRec.reset, fltN, pg]
      rw [resyncSlot, held]
      exact ⟨rfl, rfl, rfl⟩
  · obtain ⟨slot, link⟩ := (part i).2 other
    rw [enabled, slot, link, entry]
    refine ⟨rfl, ?_, ?_, rfl, rfl, rfl, rfl, rfl, ?_⟩
    · exact Bool.eq_false_iff.mpr (mt (SlotState.kept_enabled ..).mp other)
    · simp [AeSlot.keptPower, other, AeSlot.reset]
    · rw [SlotRec.keptPower_state, LinkRec.keptPower]
      split <;> simp_all
  · have excess : u.warmStart.excessRight := by rw [State.excessRight, ae]; rfl
    have any : u.keptPower.ae.resyncActive =
        allSlots.any fun i => (s.slot i).state.kept (s.slot i).presN == .resync := by
      simp only [← slot_u]; rfl
    have wu_u : u.wu = s.wu := by rw [← atPort]; rfl
    have hp_u : u.hp.address = s.hp.address := by rw [← atPort]; exact address
    have enable_u : u.eu.intEnable = s.eu.intEnable := by rw [← atPort]; rfl
    have pending_u : u.pending = s.pending := by rw [← atPort]; rfl
    have inputs_u : u.inputs = s.inputs := by rw [← atPort]; rfl
    exact ⟨by rw [ae]; rfl, by rw [ae]; rfl, by rw [ae]; rfl, by rw [ae]; rfl, by rw [ae, ← ae_u]; rfl,
      by rw [ae, ← ae_u]; rfl, by rw [ae, ← ae_u]; rfl, by rw [ae, ← ae_u]; rfl, excess, by rw [ae]; exact any,
      by rw [cu, ← cu_u]; rfl, by rw [wu, ← wu_u]; rfl, by rw [hp, ← hp_u]; rfl, by rw [enable, enable_u],
      by rw [head, time]; rfl, by rw [pending, ← pending_u]; rfl, by rw [inputs, ← inputs_u]; rfl⟩

end Sys2Proof.Machine
end

section
/-! The slot link (chapter 4): attention, service, the phases of an exchange, bad replies and the loss of the link, and
the bytes of a reply. -/

namespace Sys2Proof.Machine

/-! ### Happenings at one LE alone -/

/-- A happening that changes one link record. -/
theorem link_happening {s : State} (i : SlotId) (f : State → LinkRec → LinkRec) (up : s.resetLow = false) :
    ∃ t, happening (fun s => s.modLink i fun l => f s l) s = .next t ∧ onlyLink i s t ∧
      t.link i = f s.elapse (s.link i) ∧ t.resetLow = false :=
  ⟨_, happening_running _ up, ⟨⟨rfl, rfl, rfl, rfl, rfl⟩, fun _ => rfl, fun _ ne => link_modLink_other _ _ ne, rfl, rfl,
    rfl⟩, link_modLink_same .., up⟩

/-- Settles O23: 200 microseconds are heard by a quiet LE that is not DOWN, below 100 by none. -/
theorem attentionSetsTheLatch : Obligations.AttentionSetsTheLatch := by
  intro s i us up
  obtain ⟨t, run, only, link, -⟩ := link_happening i (fun s l => l.attend us (Config.attentionHeard s.freeIndex)) up
  refine ⟨t, run, only, fun serves quiet long => ?_, fun deaf => ?_⟩
  · rw [link, LinkRec.attend, if_pos (by simp [serves, quiet, long])]
  · rw [link, LinkRec.attend, if_neg]
    rcases deaf with short | down | busy
    · have : ¬ 200 ≤ us ∧ ¬ 100 ≤ us := by omega
      simp [this]
    · simp [down]
    · simp [busy]

/-- A waiting frame without turn is served first, ... -/
theorem LinkRec.serve_waiting {l : LinkRec} (serves : l.link ≠ .down) (quiet : l.quiet = true) (limit : Nat)
    {k : NoTurn} (waits : l.waiting = some k) :
    l.serve limit = { l with sending := some (k, l.seq), waiting := none } := by
  rw [LinkRec.serve, if_neg (by simp [serves, quiet]), waits]

/-- ... and then the attempt that waits, or the work a free LE takes up. -/
theorem LinkRec.serve_free {l : LinkRec} (serves : l.link ≠ .down) (quiet : l.quiet = true) (limit : Nat)
    (none_ : l.waiting = none) :
    l.serve limit = if l.exchange.isSome then l.transmit else (l.takeUp limit).transmit := by
  rw [LinkRec.serve, if_neg (by simp [serves, quiet]), none_]

/-- Settles O24: the order of R73 and R75, item by item. -/
theorem quietLinkServesInOrder : Obligations.QuietLinkServesInOrder := by
  intro s i up
  obtain ⟨t, run, only, link, low⟩ := link_happening i (fun s l => l.serve s.retryLimit) up
  refine ⟨t, run, only, fun deaf => ?_, fun serves quiet => ⟨fun k waits => ?_, fun none_ => ⟨fun x hx => ?_, fun free =>
    ⟨fun f wanted => ?_, fun none' poll => ?_, fun none' latch due => ?_⟩⟩⟩⟩
  · rw [link, LinkRec.serve, if_pos (by rcases deaf with h | h <;> simp [h])]
  · rw [LinkRec.serve_waiting serves quiet _ waits] at link
    exact ⟨link, by simp [State.slDriven, low, link, LinkRec.driven]⟩
  all_goals rw [LinkRec.serve_free serves quiet _ none_] at link
  · simp only [hx, Option.isSome_some, if_true] at link
    rw [link, LinkRec.transmit, hx]
    by_cases ready : x.phase = .waitLine
    · simp [ready, LinkRec.inPhase]
    · simp [ready, ← hx]
  · simp only [free, Option.isSome_none, Bool.false_eq_true, if_false, LinkRec.takeUp, wanted] at link
    rw [link]
    exact ⟨rfl, rfl, rfl⟩
  · have due : (s.link i).pollWanted = true := by simpa [LinkRec.pollWanted] using poll
    simp only [free, Option.isSome_none, Bool.false_eq_true, if_false, LinkRec.takeUp, none', due, if_true] at link
    rw [link]
    simp [LinkRec.transmit, LinkRec.begin_eq, LinkRec.inPhase, Exchange.fresh]
    rfl
  · have idle : (s.link i).pollWanted = false := by simp [LinkRec.pollWanted, latch, due]
    simp only [free, Option.isSome_none, Bool.false_eq_true, if_false, LinkRec.takeUp, none', idle] at link
    rw [link, LinkRec.transmit, free]

/-- Settles O25: what is being sent is the frame without turn, else a withdrawn frame, else the exchange's. -/
theorem sentFrameOpensWindow : Obligations.SentFrameOpensWindow := by
  intro s i up
  obtain ⟨t, run, only, link, -⟩ := link_happening i (fun s l => l.sent s.retryLimit) up
  refine ⟨t, run, only, fun k sending => ⟨?_, ?_⟩, fun none_ current x hx sends => ?_, fun none_ completing =>
    ⟨fun f q stale => ?_, fun free => ?_, fun due => ?_⟩⟩
  · simp [State.slDriven, up, LinkRec.driven, sending]
  · rw [link, LinkRec.sent, if_pos (by simp [sending])]
  · rw [link, LinkRec.sent, if_neg (by simp [none_]), if_neg (by simp [current]), hx]
    simp [sends, LinkRec.inPhase]
  · simp [State.slDriven, up, LinkRec.driven, none_, stale]
  · rw [link, LinkRec.sent, if_neg (by simp [none_]), if_pos completing, LinkRec.completed]
    simp [free]
  · rw [link, LinkRec.sent, if_neg (by simp [none_]), if_pos completing, LinkRec.completed]
    simp [due, LinkRec.begin_eq]
    rfl

/-! ### Retries, re-sends and follow-up polls -/

/-- An attempt made ready waits for the line, or is sent at once on a line that is free. -/
theorem LinkRec.ready_waits (l : LinkRec) (x : Exchange) :
    l.ready x false = { l with exchange := some { x with phase := .waitLine } } := rfl

theorem LinkRec.ready_sends {l : LinkRec} (x : Exchange) (none_ : l.waiting = none) (idle : l.sending = none)
    (current : l.stale = none) :
    l.ready x true = { l with seq := x.bit, exchange := some { x with phase := .send } } := by
  simp [LinkRec.ready, LinkRec.inPhase, LinkRec.quiet, none_, idle, current, LinkRec.transmit]

/-- Settles O28: both repeat the exchange's frame with its bit. -/
theorem retryAndResendRepeatTheFrame : Obligations.RetryAndResendRepeatTheFrame := by
  intro s i x up
  refine ⟨fun hx gap => ⟨?_, fun none_ idle current => ?_⟩, fun hx held => ⟨?_, fun none_ idle current => ?_⟩, ?_⟩
  · obtain ⟨t, run, only, link, -⟩ := link_happening i (fun _ l => l.retry false) up
    refine ⟨t, run, only, ?_⟩
    rw [link, LinkRec.retry, hx]
    simp only [gap, if_true, LinkRec.ready_waits]
  · obtain ⟨t, run, only, link, -⟩ := link_happening i (fun _ l => l.retry true) up
    refine ⟨t, run, only, ?_⟩
    rw [link, LinkRec.retry, hx]
    simp only [gap, if_true]
    rw [LinkRec.ready_sends _ none_ idle current]
  · obtain ⟨t, run, only, link, -⟩ := link_happening i (fun _ l => l.resend false) up
    refine ⟨t, run, only, ?_⟩
    rw [link, LinkRec.resend, hx]
    simp only [held, if_true, LinkRec.ready_waits]
  · obtain ⟨t, run, only, link, -⟩ := link_happening i (fun _ l => l.resend true) up
    refine ⟨t, run, only, ?_⟩
    rw [link, LinkRec.resend, hx]
    simp only [held, if_true]
    rw [LinkRec.ready_sends]
    exacts [none_, idle, current]
  · obtain ⟨t, run, only, link, -⟩ := link_happening i (fun _ l => l.followUpEnds) up
    exact ⟨t, run, only, link⟩

/-! ### Bad replies and the loss of the link -/

section
variable {s : State} {i : SlotId} {x : Exchange} (f : NearFlag)

theorem modLink_modLink (s : State) (i : SlotId) (g h : LinkRec → LinkRec) :
    (s.modLink i g).modLink i h = s.modLink i fun l => h (g l) := by
  simp only [State.modLink, updateAt, Vector.getElem_set_self, Vector.set_set]

/-- A bad reply while attempts remain, or to a re-sent exchange, waits again (R65, R82). -/
theorem badReply_again (more : x.resent = true ∨ x.attempts ≤ x.limit) :
    s.badReply i x f = s.modLink i fun l => { l with
      near := l.near ||| f.mask, exchange := some { x with phase := if x.resent then .held else .gap } } := by
  unfold State.badReply
  by_cases resent : x.resent = true
  · simp [resent, modLink_modLink, LinkRec.withNear, LinkRec.inPhase]
  · simp [resent, more.resolve_left resent, modLink_modLink, LinkRec.withNear, LinkRec.inPhase]

/-- A bad reply recorded with the failure of its exchange, and LINK_LOST from UP (R66, R81): what the SS is told of. -/
def State.lostBy (s : State) (i : SlotId) (x : Exchange) (f : NearFlag) : State :=
  let u := s.modLink i fun l => (l.withNear f).failed x
  if (s.link i).link = .up then u.event .linkLost (some i) x.frame.code x.attempts else u

theorem badReply_lost (first : x.resent = false) (last : x.limit < x.attempts) :
    s.badReply i x f = (s.lostBy i x f).onFailure i := by
  have up : ((s.modLink i fun l => l.withNear f).link i).link = (s.link i).link := by
    rw [link_modLink_same]; rfl
  unfold State.badReply State.linkFailed State.lostBy
  simp only [first, Bool.false_eq_true, if_false, Nat.not_le.mpr last, up, modLink_modLink]

section
variable (s i x)

@[simp] theorem slot_lostBy (j : SlotId) : (s.lostBy i x f).slot j = s.slot j := by
  unfold State.lostBy
  dsimp only
  split <;> rfl
@[simp] theorem link_lostBy : (s.lostBy i x f).link i = ((s.link i).withNear f).failed x := by
  unfold State.lostBy
  dsimp only
  split <;> simp
@[simp] theorem lostBy_ae : (s.lostBy i x f).ae = s.ae := by
  unfold State.lostBy
  dsimp only
  split <;> rfl
@[simp] theorem lostBy_cu : (s.lostBy i x f).cu = s.cu := by
  unfold State.lostBy
  dsimp only
  split <;> rfl
theorem lostBy_eu : (s.lostBy i x f).eu =
    if (s.link i).link = .up then s.eu.append .linkLost (some i) (byteOf x.frame.code) (BitVec.ofNat 16 x.attempts)
    else s.eu := by
  unfold State.lostBy
  dsimp only
  split <;> rfl

end

/-- The cut leaves the link state, the flags and the counts. -/
theorem LinkRec.cut_keeps (l : LinkRec) : l.cut.link = l.link ∧ l.cut.near = l.near ∧
    l.cut.retriesUsed = l.retriesUsed ∧ l.cut.resends = l.resends := by
  obtain ⟨link, -, -, -, near, -, -, -, -, retries, resends, -⟩ := l.withdraw_keeps
  unfold LinkRec.cut LinkRec.ask LinkRec.polling
  split <;> exact ⟨link, near, retries, resends⟩

theorem link_fault_keeps (s : State) (i : SlotId) (c : FaultCause) :
    ((s.fault i c).link i).link = (s.link i).link ∧ ((s.fault i c).link i).near = (s.link i).near ∧
    ((s.fault i c).link i).retriesUsed = (s.link i).retriesUsed ∧
    ((s.fault i c).link i).resends = (s.link i).resends := by
  rw [link_fault]
  split
  · exact (s.link i).cut_keeps
  · exact ⟨rfl, rfl, rfl, rfl⟩

/-- What the SS makes of a failed exchange (R27, R33, R34, R40, R197). -/
theorem onFailure_cases (s : State) (i : SlotId) :
    s.onFailure i = s ∨ s.onFailure i = s.startGrace i ∨ (∃ c, s.onFailure i = s.fault i c) ∨
      s.onFailure i = (s.linkWithdraw i).fault i .noLink := by
  cases h : (s.slot i).state <;> simp [State.onFailure, h]

/-- Whatever the SS makes of a failure, the link state, the flags and the counts are the LE's. -/
theorem onFailure_keeps (s : State) (i : SlotId) :
    ((s.onFailure i).link i).link = (s.link i).link ∧ ((s.onFailure i).link i).near = (s.link i).near ∧
    ((s.onFailure i).link i).retriesUsed = (s.link i).retriesUsed ∧
    ((s.onFailure i).link i).resends = (s.link i).resends := by
  rcases onFailure_cases s i with eq | eq | ⟨c, eq⟩ | eq <;> rw [eq]
  · exact ⟨rfl, rfl, rfl, rfl⟩
  · exact ⟨rfl, rfl, rfl, rfl⟩
  · exact link_fault_keeps s i c
  · obtain ⟨link, -, -, -, near, -, -, -, -, retries, resends, -⟩ := (s.link i).withdraw_keeps
    obtain ⟨link', near', retries', resends'⟩ := link_fault_keeps (s.linkWithdraw i) i .noLink
    rw [link_linkWithdraw] at link' near' retries' resends'
    exact ⟨link'.trans link, near'.trans near, retries'.trans retries, resends'.trans resends⟩

end

/-! ### The bytes and the silence that fail a check -/

/-- An exchange whose window is open awaits a reply. -/
theorem LinkRec.awaiting_eq {l : LinkRec} {x : Exchange} (hx : l.exchange = some x) (reply : x.phase = .reply) :
    l.awaiting = some x := by
  rw [LinkRec.awaiting, hx]; exact if_pos reply

theorem windowClosed_bad {s : State} {i : SlotId} {x : Exchange} (hx : (s.link i).exchange = some x)
    (reply : x.phase = .reply) : s.windowClosed i = s.badReply i x .noReply := by
  rw [State.windowClosed, LinkRec.awaiting_eq hx reply]

theorem receiveBytes_bad {s : State} {i : SlotId} {x : Exchange} {bytes : List Byte} {f : NearFlag}
    (hx : (s.link i).exchange = some x) (reply : x.phase = .reply) (bad : judgeBytes x.frame x.bit bytes = .bad f) :
    s.receiveBytes i bytes = s.badReply i x f := by
  rw [State.receiveBytes, LinkRec.awaiting_eq hx reply]
  simp only [bad, State.judged]

/-- Settles O26: both are bad replies, and the exchange waits again. -/
theorem badReplyIsRetried : Obligations.BadReplyIsRetried := by
  intro s i bytes x c f up hx reply more found
  obtain ⟨effect, run, rule⟩ : ∃ effect : State → State, exec c s = happening (atSlot i effect) s ∧
      effect s.elapse = s.elapse.badReply i x f := by
    rcases found with ⟨rfl, rfl⟩ | ⟨rfl, bad⟩
    · exact ⟨_, rfl, windowClosed_bad (s := s.elapse) hx reply⟩
    · exact ⟨_, rfl, receiveBytes_bad (s := s.elapse) hx reply bad⟩
  obtain ⟨t, answer, ⟨host, others, inputs⟩, ae, eu, link, slot⟩ := atSlot_happening (i := i) effect up (by simp [rule])
  rw [rule, badReply_again f more] at ae eu link slot
  rw [link_modLink_same] at link
  exact ⟨t, run.trans answer, ⟨host, others, ae⟩, eu, inputs, slot, link⟩

/-! ### The line not free in time -/

theorem attemptTimeout_waiting {s : State} {i : SlotId} {x : Exchange} (hx : (s.link i).exchange = some x)
    (waits : x.phase = .waitLine) : s.attemptTimeout i = s.badReply i x .noReply := by
  rw [State.attemptTimeout, hx]; exact if_pos waits

theorem LinkRec.exchange_of_not_busy {l : LinkRec} (free : l.busy = false) : l.exchange = none := by
  simp [LinkRec.busy] at free; exact free.1.1.1

/-- The request that a free LE takes up is begun, and its attempt then counts as NO_REPLY. -/
theorem attemptTimeout_takesUp {s : State} {i : SlotId} {f : Frame} (free : (s.link i).busy = false)
    (wanted : (s.link i).pendingReq = some f) :
    s.attemptTimeout i =
      (s.modLink i fun l => { l.begin f s.retryLimit with pendingReq := none }).badReply i
        (.fresh f .waitLine s.retryLimit (!(s.link i).seq)) .noReply := by
  have takeUp : (s.modLink i fun l => l.takeUp s.retryLimit) =
      s.modLink i fun l => { l.begin f s.retryLimit with pendingReq := none } := by
    refine congrArg (fun v => { s with links := v }) (congrArg (s.links.set i.val ·) ?_)
    show (s.link i).takeUp s.retryLimit = _
    rw [LinkRec.takeUp, wanted]
    rfl
  rw [State.attemptTimeout, LinkRec.exchange_of_not_busy free]
  simp only [free, Bool.false_eq_true, if_false, State.takeUpTimeout]
  rw [takeUp, link_modLink_same]
  rfl

theorem lineTimeout_frame {s : State} {i : SlotId} (serves : (s.link i).link ≠ .down) :
    s.lineTimeout i false = s.modLink i LinkRec.dropWaiting := by
  rw [State.lineTimeout, if_neg serves]; rfl

theorem lineTimeout_attempt {s : State} {i : SlotId} (serves : (s.link i).link ≠ .down) :
    s.lineTimeout i true = s.attemptTimeout i := by
  rw [State.lineTimeout, if_neg serves]; rfl

/-- Settles O29: by the item that the 2 ms concern. -/
theorem busyLineDropsOrCounts : Obligations.BusyLineDropsOrCounts := by
  intro s i up serves
  have serves' : (s.elapse.link i).link ≠ .down := serves
  constructor
  · obtain ⟨t, run, ⟨host, others, inputs⟩, ae, eu, link, slot⟩ :=
      atSlot_happening (i := i) (fun s => s.lineTimeout i false) up (by simp)
    rw [lineTimeout_frame serves'] at ae eu link slot
    rw [link_modLink_same] at link
    exact ⟨t, run, ⟨host, others, ae⟩, slot, eu, link⟩
  · obtain ⟨t, run, ⟨host, others, inputs⟩, ae, eu, link, slot⟩ :=
      atSlot_happening (i := i) (fun s => s.lineTimeout i true) up (by simp)
    rw [lineTimeout_attempt serves'] at ae eu link slot
    refine ⟨t, run, fun x hx waits first more => ?_, fun f wanted free turn some_ => ?_⟩
    · rw [attemptTimeout_waiting (s := s.elapse) hx waits, badReply_again _ (.inr more)] at ae eu link slot
      rw [link_modLink_same] at link
      exact ⟨link.trans (by simp [first, NearFlag.mask]), ⟨host, others, ae⟩, slot, eu⟩
    · rw [attemptTimeout_takesUp (s := s.elapse) free wanted, badReply_again _ (.inr some_)] at ae eu link slot
      rw [link_modLink_same, link_modLink_same] at link
      refine ⟨?_, ⟨host, others, ae⟩, slot, eu⟩
      rw [link]
      simp [LinkRec.begin_eq, turn, Exchange.fresh, NearFlag.mask, State.retryLimit]

/-! ### The last failure -/

section
variable {s : State} {i : SlotId}

theorem onFailure_powered (h : (s.slot i).state.poweredFamily = true) : s.onFailure i = s.startGrace i := by
  cases state : (s.slot i).state <;> simp [state, SlotState.poweredFamily] at h <;> simp [State.onFailure, state]

theorem onFailure_unpowered (h : (s.slot i).state = .identify ∨ (s.slot i).state = .standby ∨
    (s.slot i).state = .waiting ∨ (s.slot i).state = .parked) : s.onFailure i = s.fault i .noLink := by
  rcases h with h | h | h | h <;> simp [State.onFailure, h]

theorem onFailure_offering (h : (s.slot i).state = .offering) :
    s.onFailure i = (s.linkWithdraw i).fault i .noLink := by simp [State.onFailure, h]

theorem onFailure_resync (h : (s.slot i).state = .resync) : s.onFailure i = s.fault i .resyncFail := by
  simp [State.onFailure, h]

theorem onFailure_faulted (h : (s.slot i).state = .faulted ∨ (s.slot i).state = .lockedOut) : s.onFailure i = s := by
  rcases h with h | h <;> simp [State.onFailure, h]

end

/-- The state in which the LE judges an attempt, before anything but its beginning has changed. -/
def attempting (s u : State) (i : SlotId) : Prop :=
  u.slot i = s.slot i ∧ u.ae = s.ae ∧ u.cu = s.cu ∧ u.eu = s.elapse.eu ∧ (u.link i).link = (s.link i).link ∧
    (u.link i).near = (s.link i).near ∧ (u.link i).resends = (s.link i).resends ∧
    (u.link i).waiting = (s.link i).waiting

/-- Each of the ways in which an attempt fails is a bad reply to its exchange. -/
theorem attempt_fails {s : State} {i : SlotId} {x : Exchange} {bytes : List Byte} {c : Instr} {f : NearFlag}
    (serves : (s.link i).link ≠ .down)
    (found : ((s.link i).exchange = some x ∧ x.phase = .reply ∧ c = .replyWindowClosed i ∧ f = .noReply) ∨
      ((s.link i).exchange = some x ∧ x.phase = .reply ∧ c = .replyEnd i bytes ∧
        judgeBytes x.frame x.bit bytes = .bad f) ∨
      ((s.link i).exchange = some x ∧ x.phase = .waitLine ∧ c = .lineWaitTimeout ⟨i, true⟩ ∧ f = .noReply) ∨
      ((s.link i).busy = false ∧ (s.link i).pendingReq = some x.frame ∧ s.cu.settings.retryLimit = 0 ∧
        x = .fresh x.frame .waitLine 0 (!(s.link i).seq) ∧ c = .lineWaitTimeout ⟨i, true⟩ ∧ f = .noReply)) :
    ∃ (effect : State → State) (u : State), exec c s = happening (atSlot i effect) s ∧
      effect s.elapse = u.badReply i x f ∧ SlotFrame i s.elapse u ∧ attempting s u i := by
  have stands : attempting s s.elapse i := ⟨rfl, rfl, rfl, rfl, rfl, rfl, rfl, rfl⟩
  rcases found with ⟨hx, reply, rfl, rfl⟩ | ⟨hx, reply, rfl, bad⟩ | ⟨hx, waits, rfl, rfl⟩ |
    ⟨free, wanted, limit, fresh, rfl, rfl⟩
  · exact ⟨_, s.elapse, rfl, windowClosed_bad (s := s.elapse) hx reply, .refl .., stands⟩
  · exact ⟨_, s.elapse, rfl, receiveBytes_bad (s := s.elapse) hx reply bad, .refl .., stands⟩
  · refine ⟨_, s.elapse, rfl, ?_, .refl .., stands⟩
    exact (lineTimeout_attempt (s := s.elapse) serves).trans (attemptTimeout_waiting (s := s.elapse) hx waits)
  · have limit' : s.elapse.retryLimit = 0 := limit
    refine ⟨_, s.elapse.modLink i fun l => { l.begin x.frame s.elapse.retryLimit with pendingReq := none }, rfl, ?_,
      by simp, rfl, rfl, rfl, rfl, ?_, ?_, ?_, ?_⟩
    · refine (lineTimeout_attempt (s := s.elapse) serves).trans ?_
      rw [attemptTimeout_takesUp (s := s.elapse) free wanted, limit']
      exact congrArg (State.badReply _ i · _) fresh.symm
    all_goals rw [link_modLink_same]; rfl

@[simp] theorem slot_startGrace (s : State) (i : SlotId) : (s.startGrace i).slot i = { s.slot i with
    linkHold := true, timers := { (s.slot i).timers with grace := some (s.cu.settings.graceSteps * 100) } } :=
  slot_modSlot_same ..
@[simp] theorem link_startGrace (s : State) (i j : SlotId) : (s.startGrace i).link j = s.link j := rfl
@[simp] theorem startGrace_ae (s : State) (i : SlotId) : (s.startGrace i).ae = s.ae := rfl
@[simp] theorem startGrace_eu (s : State) (i : SlotId) : (s.startGrace i).eu = s.eu := rfl

/-- What a fault leaves of a slot's record, whether or not its EN was asserted. -/
theorem slot_fault_facts {s t : State} {i : SlotId} {cause : FaultCause} {maxPower : Nat}
    (slot : afterWatch maxPower ((s.fault i cause).slot i) (t.slot i)) :
    (t.slot i).cause = some cause ∧ (t.slot i).strikes = min ((s.slot i).strikes + 1) 3 ∧
      (t.slot i).state = (if (t.slot i).strikes < 3 then .faulted else .lockedOut) ∧ (t.slot i).current = none := by
  obtain ⟨watch, more, eq⟩ := afterWatch_eq slot
  have third : min ((s.slot i).strikes + 1) 3 < 3 ↔ (s.slot i).strikes < 2 := by omega
  rw [eq, slot_fault]
  refine ⟨rfl, ?_, ?_, rfl⟩ <;> cases (s.slot i).en <;>
    simp [SlotRec.sending, SlotRec.struck, SlotRec.powerless, third]

/-- Settles O27: each of the four is a bad reply to an exchange with no attempt left, and then goes by the slot state. -/
theorem lastFailureLosesTheLink : Obligations.LastFailureLosesTheLink := by
  intro s i x bytes c f up first last serves found
  obtain ⟨effect, u, run, rule, frame, slot_u, ae_u, cu_u, eu_u, link_u, near_u, resends_u, waiting_u⟩ :=
    attempt_fails serves found
  intro lost
  obtain ⟨t, answer, ⟨host, others, inputs⟩, ae, eu, link, slot⟩ :=
    atSlot_happening (i := i) effect up (by rw [rule]; simpa using frame)
  rw [rule, badReply_lost f first last] at ae eu link slot
  generalize told : u.lostBy i x f = v at ae eu link slot
  have slot_v : v.slot i = s.slot i := by rw [← told, slot_lostBy, slot_u]
  have link_v : v.link i = ((u.link i).withNear f).failed x := by rw [← told, link_lostBy]
  have ae_v : v.ae = s.ae := by rw [← told, lostBy_ae, ae_u]
  have cu_v : v.cu = s.cu := by rw [← told, lostBy_cu, cu_u]
  have eu_v : v.eu = lost := by rw [← told, lostBy_eu, link_u, eu_u]
  have policy_v : v.policy i = s.policy i := congrArg (·.settings.policy[i.val]) cu_v
  have queue_v : (v.leaveQueue i).ae = (s.leaveQueue i).ae := by simp only [State.leaveQueue, ae_v]
  obtain ⟨state_t, near_t, retries_t, resends_t⟩ := onFailure_keeps v i
  rw [← link, link_v] at state_t near_t retries_t resends_t
  refine ⟨t, run.trans answer, host, others, inputs, state_t, ?_, retries_t, ?_, fun powered => ?_, fun waits => ?_,
    fun offering off => ?_, fun resync on => ?_, fun faulted => ?_⟩
  · rw [near_t, ← near_u]; rfl
  · rw [resends_t, ← link_u, ← resends_u]; rfl
  · rw [onFailure_powered (by rw [slot_v]; exact powered)] at ae eu link slot
    rw [slot_startGrace, slot_v, cu_v] at slot
    rw [link_startGrace, link_v] at link
    exact ⟨by rw [link]; rfl, slot, ae.trans ae_v, eu.trans eu_v⟩
  · rw [onFailure_unpowered (by rw [slot_v]; exact waits)] at ae eu link slot
    rw [fault_ae, queue_v] at ae
    rw [fault_eu, eu_v, slot_v] at eu
    rw [link_fault, slot_v, link_v] at link
    obtain ⟨cause, strikes, state, current⟩ := slot_fault_facts slot
    rw [slot_v] at strikes
    exact ⟨cause, strikes, state, current, ae, eu, fun off => by rw [link, off]; rfl⟩
  · rw [onFailure_offering (by rw [slot_v]; exact offering)] at ae eu link slot
    have holdoff : (v.linkWithdraw i).holdoffTimer = s.holdoffTimer := holdoffTimer_of_cu cu_v
    obtain ⟨-, -, waiting_t, -⟩ := (((u.link i).withNear f).failed x).withdraw_keeps
    rw [slot_fault, slot_linkWithdraw, slot_v, off, policy_linkWithdraw, policy_v, holdoff] at slot
    rw [link_fault, slot_linkWithdraw, slot_v, off, link_linkWithdraw, link_v] at link
    rw [fault_ae] at ae
    rw [fault_eu, slot_linkWithdraw, slot_v] at eu
    exact ⟨by rw [link]; exact LinkRec.withdraw_exchange _, by rw [link]; rfl, by
      rw [link]; exact waiting_t.trans waiting_u, ae.trans queue_v, slot, eu.trans (congrArg (Eu.faulted · i _ _) eu_v)⟩
  · rw [onFailure_resync (by rw [slot_v]; exact resync)] at ae eu link slot
    rw [slot_fault, slot_v, on, if_pos rfl, policy_v, holdoffTimer_of_cu cu_v] at slot
    rw [link_fault, slot_v, on, if_pos rfl, link_v] at link
    rw [fault_ae, queue_v] at ae
    rw [fault_eu, eu_v, slot_v] at eu
    obtain ⟨watch, more, eq⟩ := afterWatch_eq slot
    obtain ⟨exchange, -, -, waiting⟩ := (((u.link i).withNear f).failed x).cut_facts
    refine ⟨by rw [link, exchange], by rw [link, waiting nofun], ?_, ae, slot, eu⟩
    rw [State.enHigh, eq]
    exact Bool.and_false _
  · rw [onFailure_faulted (by rw [slot_v]; exact faulted)] at ae eu link slot
    rw [slot_v] at slot
    exact ⟨by rw [link, link_v]; rfl, slot, ae.trans ae_v, eu.trans eu_v⟩

/-! ### The bytes of a reply -/

/-- The header of a reply gives its kind and its echo back (R61). -/
theorem reply_header (k : CardKind) (echo : Bool) :
    CardKind.ofCode ((byteOf (k.code * 16 + (if echo then 4 else 0))).toNat / 16) = some k ∧
      (byteOf (k.code * 16 + (if echo then 4 else 0))).getLsbD 2 = echo := by
  cases k <;> cases echo <;> decide +kernel

theorem byteOf_toNat {n : Nat} (small : n < 256) : (byteOf n).toNat = n := by
  simp [byteOf, Nat.mod_eq_of_lt small]

/-- A reply's own bytes are whole as far as their CRC. -/
theorem frameReply_bytes (r : Reply) (echo : Bool) (short : r.payload.length ≤ 21) :
    frameReply (r.bytes echo) =
      .whole (byteOf (r.kind.code * 16 + (if echo then 4 else 0))) r.status r.payload := by
  have len : (byteOf r.payload.length).toNat = r.payload.length := byteOf_toNat (by omega)
  simp only [Reply.bytes, frameReply, List.cons_append, len, Nat.not_lt.mpr short, if_false]
  simp

/-- The checks on a whole reply fail it or leave it as it is. -/
theorem judgeReply_cases (f : Frame) (r : Reply) :
    (∃ flag, judgeReply f r = .bad flag) ∨ judgeReply f r = .good r := by
  unfold judgeReply
  split_ifs
  · exact .inl ⟨_, rfl⟩
  · exact .inl ⟨_, rfl⟩
  · exact .inl ⟨_, rfl⟩
  · exact .inr rfl

/-- Judging a reply's own bytes is judging the reply (R64). -/
theorem judgeBytes_bytes (f : Frame) (r : Reply) (echo : Bool) (short : r.payload.length ≤ 21) :
    judgeBytes f echo (r.bytes echo) = judgeReply f r := by
  obtain ⟨kind, bit⟩ := reply_header r.kind echo
  simp only [judgeBytes, frameReply_bytes r echo short, kind]
  rcases judgeReply_cases f r with ⟨flag, bad⟩ | good
  · simp only [bad]
  · simp only [good, bit, if_true]

/-- A reply's own bytes are taken as that reply. -/
theorem receiveBytes_bytes {s : State} {i : SlotId} (r : Reply) (bit : Bool) (short : r.payload.length ≤ 21)
    (echo : ∀ x, (s.link i).exchange = some x → x.phase = .reply → x.bit = bit) :
    s.receiveBytes i (r.bytes bit) = s.receive i r := by
  unfold State.receiveBytes State.receive
  cases awaits : (s.link i).awaiting with
  | some x =>
    have window : (s.link i).exchange = some x ∧ x.phase = .reply := by
      unfold LinkRec.awaiting at awaits
      split at awaits
      · split at awaits
        · simp_all
        · cases awaits
      · cases awaits
    simp only [echo x window.1 window.2, judgeBytes_bytes x.frame r bit short]
  | none =>
    simp only [frameReply_bytes r bit short, Nat.not_lt.mpr short, if_false]

/-- Settles O30: every reply row but DEMAND_REPLY's has a payload of its own. -/
theorem replyBytesReadAsTheReply : Obligations.ReplyBytesReadAsTheReply := by
  intro s i bit status index payload short echo
  have same (r : Reply) (short : r.payload.length ≤ 21) :
      exec (.replyEnd i (r.bytes bit)) s = happening (atSlot i fun s => s.receive i r) s := by
    have effect := receiveBytes_bytes (s := s.elapse) r bit short echo
    rw [exec, execReplyEnd]
    simp only [happening, atSlot, effect]
  exact ⟨same _ short, same _ (Nat.zero_le _), same _ (Nat.zero_le _), same _ (Nat.zero_le _),
    same _ (Nat.le_add_left 1 20), same _ (Nat.zero_le _), same _ (Nat.zero_le _)⟩

end Sys2Proof.Machine
end

section
/-! Replies taken by the Slot Sequencer (chapters 2, 3 and 6): a whole reply ending in its window as one happening, what
each operation that a reply leads to makes of the slot's records and of the events, and the statements about them. -/

namespace Sys2Proof.Machine

/-! ### A fault with EN deasserted, and with EN asserted -/

section
variable {s : State} {i : SlotId} (cause : FaultCause)

theorem slot_fault_off (off : (s.slot i).en = false) : (s.fault i cause).slot i =
    ((s.slot i).struck cause (s.policy i).classLimit s.holdoffTimer).sending (.faulted cause) := by
  rw [slot_fault, off]; rfl

theorem link_fault_off (off : (s.slot i).en = false) : (s.fault i cause).link i = s.link i := by
  rw [link_fault, off]; rfl

theorem slot_fault_on (on : (s.slot i).en = true) : (s.fault i cause).slot i =
    ((s.slot i).powerless.struck cause (s.policy i).classLimit s.holdoffTimer).sending (.faulted cause) := by
  rw [slot_fault, on]; rfl

theorem link_fault_on (on : (s.slot i).en = true) : (s.fault i cause).link i = (s.link i).cut := by
  rw [link_fault, on]; rfl

end

@[simp] theorem holdoffTimer_event (s : State) (k : EventKind) (o : Option SlotId) (a b : Nat) :
    (s.event k o a b).holdoffTimer = s.holdoffTimer := rfl
@[simp] theorem holdoffTimer_cut (s : State) (i : SlotId) : (s.cut i).holdoffTimer = s.holdoffTimer := rfl
@[simp] theorem holdoffTimer_notify (s : State) (i : SlotId) (n : Notice) :
    (s.notify i n).holdoffTimer = s.holdoffTimer := rfl
@[simp] theorem holdoffTimer_modSlot (s : State) (i : SlotId) (f : SlotRec → SlotRec) :
    (s.modSlot i f).holdoffTimer = s.holdoffTimer := rfl

/-! ### A reply as a happening -/

/-- The slot's happening ends as the state `v` stands: in its records, its link record, the AE and the events, the watch
aside. -/
def endsAs (i : SlotId) (s v t : State) : Prop :=
  aroundSlot i s t ∧ t.ae = v.ae ∧ t.eu = v.eu ∧ t.link i = v.link i ∧
    afterWatch (s.policy i).maxPower (v.slot i) (t.slot i)

/-- The state in which the SS takes a whole reply: steps 1 to 3 of R67 done, and restore taken (R34). -/
def State.replied (s : State) (i : SlotId) (x : Exchange) (r : Reply) : State :=
  (s.elapse.linkGood i x r).restore i

section
variable (s : State) (i j : SlotId) (x : Exchange) (r : Reply)

@[simp] theorem policy_linkGood : (s.linkGood i x r).policy j = s.policy j :=
  congrArg (·.settings.policy[j.val]) (linkGood_frame s i x r).2.2.1
@[simp] theorem slot_linkGood : (s.linkGood i x r).slot j = s.slot j :=
  congrArg (·[j.val]) (linkGood_frame s i x r).1

@[simp] theorem slot_replied : (s.replied i x r).slot i = (s.slot i).restored := by
  rw [State.replied, slot_restore, slot_linkGood, slot_elapse]
@[simp] theorem link_replied : (s.replied i x r).link i = (s.link i).goodReply x r := by
  rw [State.replied, link_restore, linkGood_link, link_elapse]
@[simp] theorem replied_ae : (s.replied i x r).ae = s.ae := (linkGood_frame s.elapse i x r).2.1
@[simp] theorem replied_cu : (s.replied i x r).cu = s.cu := (linkGood_frame s.elapse i x r).2.2.1
@[simp] theorem replied_eu : (s.replied i x r).eu = (s.elapse.linkGood i x r).eu := rfl
@[simp] theorem policy_replied : (s.replied i x r).policy j = s.policy j := policy_linkGood ..
@[simp] theorem replied_holdoffTimer : (s.replied i x r).holdoffTimer = s.holdoffTimer :=
  holdoffTimer_of_cu (replied_cu ..)
@[simp] theorem replied_leaveQueue_ae : ((s.replied i x r).leaveQueue i).ae = (s.leaveQueue i).ae := by
  simp only [State.leaveQueue, replied_ae]

end

section
variable (r : SlotRec)

/-! What restore leaves of a slot record. -/

@[simp] theorem SlotRec.restored_state : r.restored.state = r.state := rfl
@[simp] theorem SlotRec.restored_en : r.restored.en = r.en := rfl
@[simp] theorem SlotRec.restored_strikes : r.restored.strikes = r.strikes := rfl
@[simp] theorem SlotRec.restored_current : r.restored.current = r.current := rfl
@[simp] theorem SlotRec.restored_arriving : r.restored.arriving = r.arriving := rfl
@[simp] theorem SlotRec.restored_restated : r.restored.restated = r.restated := rfl
@[simp] theorem SlotRec.restored_granted : r.restored.granted = r.granted := rfl
@[simp] theorem SlotRec.restored_grantedPower : r.restored.grantedPower = r.grantedPower := rfl
@[simp] theorem SlotRec.restored_offered : r.restored.offered = r.offered := rfl
@[simp] theorem SlotRec.restored_reduction : r.restored.reduction = r.reduction := rfl
@[simp] theorem SlotRec.restored_owed : r.restored.owed = r.owed := rfl
@[simp] theorem SlotRec.restored_pg : r.restored.pg = r.pg := rfl
@[simp] theorem SlotRec.restored_fltN : r.restored.fltN = r.fltN := rfl

end

/-- A whole reply that its frame allows, ending in the window of the current exchange (R64, R67). -/
theorem reply_happening {s : State} {i : SlotId} {x : Exchange} (r : Reply) (aw : awaits i x s)
    (allowed : x.frame.allows r.kind = true) (fits : r.kind.allowsLength r.payload.length = true)
    (short : r.payload.length ≤ 21) :
    ∃ t, happening (atSlot i fun s => s.receive i r) s = .next t ∧
      endsAs i s ((s.elapse.linkGood i x r).onReply i x.frame r) t := by
  obtain ⟨up, hx, reply⟩ := aw
  have taken : s.elapse.receive i r = (s.elapse.linkGood i x r).onReply i x.frame r :=
    receive_good hx reply allowed fits short
  obtain ⟨t, run, around, ae, eu, link, slot⟩ := atSlot_happening (i := i) (fun s => s.receive i r) up (by simp)
  rw [taken] at ae eu link slot
  exact ⟨t, run, around, ae, eu, link, slot⟩

/-- A happening that leaves EN deasserted. -/
theorem enHigh_false {i : SlotId} {t : State} {r : SlotRec} {maxPower : Nat} (slot : afterWatch maxPower r (t.slot i))
    (off : r.en = false) : t.enHigh i = false := by
  obtain ⟨watch, more, eq⟩ := afterWatch_eq slot
  rw [State.enHigh, eq]
  simp [off]

/-- DEMAND payload lengths are at most 21 bytes (R61). -/
theorem demandLengths_le {n : Nat} (h : demandLengths.contains n = true) : n ≤ 21 := by
  simp [demandLengths] at h; omega

/-! ### What the operations on a demand do -/

/-- The events of an accepted list (R47, R59). -/
def Eu.demanded (e : Eu) (i : SlotId) (l : DemandList) (maxPower : Nat) : Eu :=
  let e := e.append .demand (some i) (byteOf l.count) (BitVec.ofNat 16 ((l.preferred.map fun p => p.2.power).getD 0))
  if l.allAvail then e else e.append .demandTrimmed (some i) (byteOf l.mask) (BitVec.ofNat 16 maxPower)

section
variable (s : State) (i j : SlotId) (l : DemandList)

@[simp] theorem slot_demandEvents : (s.demandEvents i l).slot j = s.slot j := by
  unfold State.demandEvents; dsimp only; split <;> rfl
@[simp] theorem link_demandEvents : (s.demandEvents i l).link j = s.link j := by
  unfold State.demandEvents; dsimp only; split <;> rfl
@[simp] theorem policy_demandEvents : (s.demandEvents i l).policy j = s.policy j := by
  unfold State.demandEvents; dsimp only; split <;> rfl
@[simp] theorem demandEvents_ae : (s.demandEvents i l).ae = s.ae := by
  unfold State.demandEvents; dsimp only; split <;> rfl
@[simp] theorem demandEvents_cu : (s.demandEvents i l).cu = s.cu := by
  unfold State.demandEvents; dsimp only; split <;> rfl
@[simp] theorem demandEvents_eu : (s.demandEvents i l).eu = s.eu.demanded i l (s.policy i).maxPower := by
  unfold State.demandEvents Eu.demanded; dsimp only; split <;> rfl

/-- The events of a rejected list (R59), by the verdict. -/
theorem demandBad_eq {v : Verdict} {a b : Nat}
    (bad : (v = .malformed b ∧ a = 1) ∨ (v = .overMax ∧ a = 2 ∧ b = (s.policy i).maxPower)) :
    s.demandBad i v = s.event .demandBad (some i) a b := by
  rcases bad with ⟨rfl, rfl⟩ | ⟨rfl, rfl, rfl⟩ <;> rfl

@[simp] theorem slot_refuse : (s.refuse i).slot j = s.slot j := rfl
@[simp] theorem link_refuse : (s.refuse i).link i = (s.link i).ask .refuse := link_linkAsk ..
@[simp] theorem refuse_ae : (s.refuse i).ae = s.ae := rfl
@[simp] theorem refuse_eu : (s.refuse i).eu = s.eu.append .demandRefused (some i) (byteOf (s.slot i).state.code)
    (BitVec.ofNat 16 (s.slot i).grantedPower) := rfl

/-- Where a valid list goes in IDENTIFY, STANDBY, WAITING or PARKED (R24 to R26, R48). -/
def SlotRec.given (r : SlotRec) (l : DemandList) (classLimit : Nat) (admits : Bool) : SlotRec :=
  if r.state = .waiting ∨ r.state = .parked then r.listed l classLimit
  else if !admits then { r.listed l classLimit with state := .parked }
  else if r.state = .standby ∧ r.current.isSome then r.listed l classLimit
  else { r with arriving := some l }

@[simp] theorem slot_takeList : (s.takeList i l).slot i =
    ((s.slot i).given l (s.policy i).classLimit (s.policy i).admits).sending (.demand false none) := by
  unfold State.takeList SlotRec.given
  dsimp only
  rw [slot_notify, slot_demandEvents, policy_demandEvents]
  split
  · rw [slot_makeCurrent, slot_demandEvents, policy_demandEvents]
  · split
    · rw [slot_enter, slot_makeCurrent, slot_demandEvents, policy_demandEvents]
    · split
      · rw [slot_makeCurrent, slot_demandEvents, policy_demandEvents]
      · rw [slot_modSlot_same, slot_demandEvents]

/-- Taking a list changes the slot's record and the events alone. -/
theorem takeList_rest : (s.takeList i l).link j = s.link j ∧ (s.takeList i l).ae = s.ae ∧
    (s.takeList i l).eu = s.eu.demanded i l (s.policy i).maxPower := by
  rw [← link_demandEvents s i j l, ← demandEvents_ae s i l, ← demandEvents_eu s i l]
  unfold State.takeList
  dsimp only
  rw [link_notify, State.notify_ae, State.notify_eu]
  split
  · exact ⟨rfl, rfl, rfl⟩
  · split
    · exact ⟨rfl, rfl, rfl⟩
    · split <;> exact ⟨rfl, rfl, rfl⟩

end

section
variable {s : State} {i : SlotId} {payload : List Byte} {l : DemandList} {v : Verdict}

theorem onDemand_list (state : (s.slot i).state = .identify ∨ (s.slot i).state = .standby ∨
      (s.slot i).state = .waiting ∨ (s.slot i).state = .parked)
    (valid : readDemand payload (s.policy i).maxPower = .valid l) : s.onDemand i payload = s.takeList i l := by
  rcases state with h | h | h | h <;> simp only [State.onDemand, h, valid]

theorem onDemand_rejected (state : (s.slot i).state = .identify ∨ (s.slot i).state = .standby ∨
      (s.slot i).state = .waiting ∨ (s.slot i).state = .parked)
    (read : readDemand payload (s.policy i).maxPower = v) (bad : ∀ l, v ≠ .valid l) :
    s.onDemand i payload = (s.demandBad i v).fault i .badDemand := by
  cases v with
  | valid l => exact absurd rfl (bad l)
  | malformed n => rcases state with h | h | h | h <;> simp only [State.onDemand, h, read]
  | overMax => rcases state with h | h | h | h <;> simp only [State.onDemand, h, read]

theorem onDemand_powered (state : (s.slot i).state = .powered) (none_ : (s.slot i).restated = none)
    (valid : readDemand payload (s.policy i).maxPower = .valid l) : s.onDemand i payload = s.beginRestatement i l := by
  simp [State.onDemand, state, none_, valid]

theorem onDemand_powered_rejected (state : (s.slot i).state = .powered) (none_ : (s.slot i).restated = none)
    (read : readDemand payload (s.policy i).maxPower = v) (bad : ∀ l, v ≠ .valid l) :
    s.onDemand i payload = (s.demandBad i v).linkAsk i .refuse := by
  cases v with
  | valid l => exact absurd rfl (bad l)
  | malformed n => simp [State.onDemand, state, none_, read]
  | overMax => simp [State.onDemand, state, none_, read]

theorem onDemand_refused (state : (s.slot i).state = .offering ∨ (s.slot i).state = .powering ∨
      (s.slot i).state = .raising ∨ (s.slot i).state = .restating ∨ (s.slot i).state = .reducing ∨
      (s.slot i).state = .powered ∧ (s.slot i).restated.isSome = true) : s.onDemand i payload = s.refuse i := by
  rcases state with h | h | h | h | h | ⟨h, p⟩ <;> simp [State.onDemand, *]

theorem resyncDemand_rejected (bad : ∀ l, v ≠ .valid l) :
    s.resyncDemand i v = ((s.cut i).demandBad i v).fault i .resyncFail := by
  cases v with
  | valid l => exact absurd rfl (bad l)
  | malformed n => rfl
  | overMax => rfl

theorem onDemand_discarded (state : (s.slot i).state = .faulted ∨ (s.slot i).state = .lockedOut) :
    s.onDemand i payload = s := by
  rcases state with h | h <;> simp [State.onDemand, h]

theorem onDemand_resync (state : (s.slot i).state = .resync) :
    s.onDemand i payload = s.resyncDemand i (readDemand payload (s.policy i).maxPower) := by
  simp [State.onDemand, state]

/-- A DEMAND reply as a happening: the SS takes its payload. -/
theorem demandReply_happening {x : Exchange} {status : Byte} (aw : awaits i x s)
    (allowed : x.frame.allows .demand = true) (fits : demandLengths.contains payload.length = true) :
    ∃ t, exec (.demandReply i status payload) s = .next t ∧ endsAs i s
      ((s.replied i x { kind := .demand, status := status, payload := payload }).onDemand i payload) t :=
  reply_happening { kind := .demand, status := status, payload := payload } aw allowed fits (demandLengths_le fits)

end

/-- Settles O31: the list taken by the state found. -/
theorem demandAwaitsEntryOrReplaces : Obligations.DemandAwaitsEntryOrReplaces := by
  intro s i status payload x l aw allowed fits valid state
  obtain ⟨t, run, around, ae, eu, link, slot⟩ := demandReply_happening (status := status) aw allowed fits
  rw [onDemand_list (by rw [slot_replied]; exact state) (by rw [policy_replied]; exact valid)] at ae eu link slot
  obtain ⟨link_l, ae_l, eu_l⟩ := takeList_rest (s.replied i x { kind := .demand, status := status, payload := payload }) i i l
  rw [slot_takeList, slot_replied, policy_replied] at slot
  refine ⟨t, run, around, ae.trans (ae_l.trans (replied_ae ..)), link.trans (link_l.trans (link_replied ..)), ?_,
    fun waits => ?_, fun idle => ?_, fun standby kept => ?_⟩
  · rw [eu, eu_l, demandEvents_eu, replied_eu, policy_replied, policy_linkGood, policy_elapse]
  · have kept : (s.slot i).restored.state = .waiting ∨ (s.slot i).restored.state = .parked := waits
    rw [SlotRec.given, if_pos kept] at slot
    exact slot
  · have other : ¬ ((s.slot i).restored.state = .waiting ∨ (s.slot i).restored.state = .parked) := by
      rcases idle with h | ⟨h, -⟩ <;> simp [SlotRec.restored, h]
    have unkept : ¬ ((s.slot i).restored.state = .standby ∧ (s.slot i).restored.current.isSome = true) := by
      rcases idle with h | ⟨-, h⟩ <;> simp [SlotRec.restored, h]
    rw [SlotRec.given, if_neg other, if_neg unkept] at slot
    cases admits : (s.policy i).admits <;> simpa [admits] using slot
  · have other : ¬ ((s.slot i).restored.state = .waiting ∨ (s.slot i).restored.state = .parked) := by
      simp [SlotRec.restored, standby]
    have held : (s.slot i).restored.state = .standby ∧ (s.slot i).restored.current.isSome = true :=
      ⟨standby, Option.isSome_iff_ne_none.mpr kept⟩
    rw [SlotRec.given, if_neg other, if_pos held] at slot
    have stays : { (s.slot i).restored.listed l (s.policy i).classLimit with state := SlotState.standby } =
        (s.slot i).restored.listed l (s.policy i).classLimit := by rw [← standby]; rfl
    cases admits : (s.policy i).admits <;> simpa [admits, stays] using slot

/-- Settles O32: the verdict's event, and then by the state found. -/
theorem badDemandFaultsOrIsRefused : Obligations.BadDemandFaultsOrIsRefused := by
  intro s i status payload x a b aw allowed fits bad
  obtain ⟨t, run, around, ae, eu, link, slot⟩ := demandReply_happening (status := status) aw allowed fits
  generalize hr : ({ kind := .demand, status := status, payload := payload } : Reply) = r at ae eu link slot ⊢
  generalize read : readDemand payload (s.policy i).maxPower = v at bad
  have read_g : readDemand payload ((s.replied i x r).policy i).maxPower = v := by rw [policy_replied]; exact read
  have invalid (l : DemandList) : v ≠ .valid l := by rcases bad with ⟨rfl, -⟩ | ⟨rfl, -⟩ <;> exact nofun
  have event : (s.replied i x r).demandBad i v = (s.replied i x r).event .demandBad (some i) a b :=
    demandBad_eq _ i (by rw [policy_replied]; exact bad)
  refine ⟨fun off unpowered => ⟨t, run, around, ?_⟩, fun powered none_ => ⟨t, run, around, ?_⟩,
    fun resync => ⟨t, run, around, ?_⟩⟩
  · rw [onDemand_rejected (by rw [slot_replied]; exact unpowered) read_g invalid, event] at ae eu link slot
    have off_g : (((s.replied i x r).event .demandBad (some i) a b).slot i).en = false := by simpa using off
    rw [slot_fault_off _ off_g, slot_event, slot_replied, policy_event, policy_replied, holdoffTimer_event,
      replied_holdoffTimer] at slot
    rw [link_fault_off _ off_g, link_event, link_replied] at link
    rw [fault_ae] at ae
    rw [fault_eu, slot_event, slot_replied] at eu
    exact ⟨ae.trans (replied_leaveQueue_ae ..), link, eu, slot⟩
  · rw [onDemand_powered_rejected (by rw [slot_replied]; exact powered) (by rw [slot_replied]; exact none_) read_g
      invalid, event] at ae eu link slot
    rw [slot_linkAsk, slot_event, slot_replied] at slot
    rw [link_linkAsk, link_event, link_replied] at link
    exact ⟨ae.trans (replied_ae ..), link, eu, slot⟩
  · rw [onDemand_resync (by rw [slot_replied]; exact resync), read_g] at ae eu link slot
    have event_cut : ((s.replied i x r).cut i).demandBad i v = ((s.replied i x r).cut i).event .demandBad (some i) a b :=
      demandBad_eq _ i (by rw [policy_cut, policy_replied]; exact bad)
    rw [resyncDemand_rejected invalid, event_cut] at ae eu link slot
    have off : ((((s.replied i x r).cut i).event .demandBad (some i) a b).slot i).en = false := by
      rw [slot_event, slot_cut]; rfl
    have slot_g : (((s.replied i x r).cut i).event .demandBad (some i) a b).slot i = (s.slot i).restored.powerless := by
      rw [slot_event, slot_cut, slot_replied]
    rw [slot_fault_off _ off, slot_g, policy_event, policy_cut, policy_replied, holdoffTimer_event, holdoffTimer_cut,
      replied_holdoffTimer] at slot
    rw [link_fault_off _ off, link_event, link_cut, link_replied, LinkRec.cut_goodReply] at link
    rw [fault_ae] at ae
    rw [fault_eu, slot_g] at eu
    refine ⟨ae.trans (replied_leaveQueue_ae ..), ?_, link, eu, slot⟩
    exact enHigh_false slot rfl

/-! ### A restatement, and RESYNC -/

section
variable (s : State) (i : SlotId) (l : DemandList)

@[simp] theorem slot_beginRestatement : (s.beginRestatement i l).slot i =
    SlotRec.sending { s.slot i with restated := some l, mapRequests := [] } (.demand true none) := by
  rw [State.beginRestatement, slot_notify, slot_demandEvents, slot_modSlot_same]
@[simp] theorem link_beginRestatement : (s.beginRestatement i l).link i = s.link i := by
  rw [State.beginRestatement, link_notify, link_demandEvents, link_modSlot]
@[simp] theorem beginRestatement_ae : (s.beginRestatement i l).ae = s.ae := by
  rw [State.beginRestatement, State.notify_ae, demandEvents_ae, State.modSlot_ae]
@[simp] theorem beginRestatement_eu : (s.beginRestatement i l).eu = s.eu.demanded i l (s.policy i).maxPower := by
  rw [State.beginRestatement, State.notify_eu, demandEvents_eu, State.modSlot_eu, policy_modSlot]

@[simp] theorem slot_resyncUnpowered : (s.resyncUnpowered i l).slot i =
    SlotRec.sending { (s.slot i).powerless.listed l (s.policy i).classLimit with
      state := if (s.policy i).admits then .standby else .parked } (.demand false (some 0)) := by
  simp only [State.resyncUnpowered, slot_notify, slot_demandEvents, slot_enter, slot_makeCurrent, slot_cut, policy_cut]
@[simp] theorem link_resyncUnpowered : (s.resyncUnpowered i l).link i = (s.link i).cut := by
  simp only [State.resyncUnpowered, link_notify, link_demandEvents, link_enter, link_makeCurrent, link_cut]
@[simp] theorem resyncUnpowered_ae : (s.resyncUnpowered i l).ae = s.ae := by
  simp only [State.resyncUnpowered, State.notify_ae, demandEvents_ae]
  rfl
@[simp] theorem resyncUnpowered_eu : (s.resyncUnpowered i l).eu = s.eu.demanded i l (s.policy i).maxPower := by
  simp only [State.resyncUnpowered, State.notify_eu, demandEvents_eu]
  rfl

end

/-- Entering REDUCING, with no pending list to drop (R57, R119). -/
theorem takeReduce_powered {s : State} {i : SlotId} (powered : (s.slot i).state = .powered)
    (none_ : (s.slot i).restated = none) (index power : Nat) (origin : Origin) :
    s.takeReduce i index power origin = s.beginReduce i index power origin := by
  simp [State.takeReduce, powered, State.dropPending, none_]

section
variable (s : State) (i : SlotId) (index power : Nat) (origin : Origin)

@[simp] theorem slot_beginReduce : (s.beginReduce i index power origin).slot i =
    (s.slot i).reducingTo index power origin (s.cu.settings.reduceSteps * 10) := by
  rw [State.beginReduce, slot_linkRequest, slot_modSlot_same]; rfl
@[simp] theorem link_beginReduce : (s.beginReduce i index power origin).link i =
    (s.link i).request (.reduce index power) s.cu.settings.retryLimit := by
  rw [State.beginReduce, link_linkRequest, link_modSlot]; rfl
@[simp] theorem beginReduce_ae : (s.beginReduce i index power origin).ae = s.ae := rfl
@[simp] theorem beginReduce_eu : (s.beginReduce i index power origin).eu = s.eu := rfl

end

/-- A request other than a POLL's, on a link that takes requests (R69). -/
theorem LinkRec.request_asked {l : LinkRec} (serves : l.link ≠ .down) {f : Frame} (turn : f ≠ .poll) (limit : Nat) :
    l.request f limit = l.asked f limit := by
  rcases l.request_cases f limit with ⟨down, -⟩ | ⟨-, free, eq⟩ | ⟨-, busy, eq⟩
  · exact absurd down serves
  · rw [eq, LinkRec.asked, if_neg (by simp [free]), LinkRec.begin_eq]
    simp [turn]
  · rw [eq, LinkRec.asked, if_pos busy]

/-- A REDUCE request right after a good reply. -/
theorem LinkRec.goodReply_reduce (l : LinkRec) (x : Exchange) (r : Reply) (index power limit : Nat) :
    (l.goodReply x r).request (.reduce index power) limit = (l.goodReply x r).asked (.reduce index power) limit :=
  LinkRec.request_asked (by simp) (by simp) limit

/-! ### A reduction owed -/

section
variable {s : State} {i : SlotId}

theorem carryOwed_none (none_ : (s.slot i).owed = none) : s.carryOwed i = s := by
  simp only [State.carryOwed, none_]

/-- An owed revoke, carried out in POWERED with no pending list (R155). -/
theorem carryOwed_host {w : Owed} (owed : (s.slot i).owed = some w) (host : w.origin = .host)
    (powered : (s.slot i).state = .powered) (none_ : (s.slot i).restated = none) :
    s.carryOwed i = (s.modSlot i fun r => { r with owed := none }).beginReduce i 0 0 .host := by
  have slot : (s.modSlot i fun r => { r with owed := none }).slot i = { s.slot i with owed := none } :=
    slot_modSlot_same ..
  simp only [State.carryOwed, owed, host, if_true]
  exact takeReduce_powered (by rw [slot]; exact powered) (by rw [slot]; exact none_) ..

/-- An owed policy reduction, carried out in POWERED with no pending list (R152), where it is still called for. -/
theorem carryOwed_policy {w : Owed} (owed : (s.slot i).owed = some w) (policy : w.origin ≠ .host)
    (powered : (s.slot i).state = .powered) (none_ : (s.slot i).restated = none) :
    s.carryOwed i =
      if (s.slot i).grantedPower ≤ (s.policy i).maxPower then s.modSlot i fun r => { r with owed := none }
      else (s.modSlot i fun r => { r with owed := none }).beginReduce i
        (((s.slot i).current.map DemandList.policyTarget).getD (0, 0)).1
        (((s.slot i).current.map DemandList.policyTarget).getD (0, 0)).2 .policy := by
  have slot : (s.modSlot i fun r => { r with owed := none }).slot i = { s.slot i with owed := none } :=
    slot_modSlot_same ..
  have standing : (s.modSlot i fun r => { r with owed := none }).standingPower i = (s.slot i).grantedPower := by
    rw [State.standingPower, slot]
    simp only [SlotRec.standing, powered]
    rfl
  have reduce := takeReduce_powered (s := s.modSlot i fun r => { r with owed := none }) (i := i)
    (by rw [slot]; exact powered) (by rw [slot]; exact none_)
  simp only [State.carryOwed, owed, policy, if_false, State.policyReduce, standing, policy_modSlot, reduce]
  rw [slot]
  simp only [powered]

/-- Carrying out what is owed touches neither the AE nor the events. -/
theorem carryOwed_rest (powered : (s.slot i).state = .powered) (none_ : (s.slot i).restated = none) :
    (s.carryOwed i).ae = s.ae ∧ (s.carryOwed i).eu = s.eu := by
  cases owed : (s.slot i).owed with
  | none => rw [carryOwed_none owed]; exact ⟨rfl, rfl⟩
  | some w =>
    by_cases host : w.origin = .host
    · rw [carryOwed_host owed host powered none_]; exact ⟨rfl, rfl⟩
    · rw [carryOwed_policy owed host powered none_]
      split <;> exact ⟨rfl, rfl⟩

end

/-! ### RESYNC concluding in POWERED -/

/-- RESYNC concluding in POWERED, before an owed revoke is carried out (R197). -/
def State.resyncStands (s : State) (i : SlotId) (l : DemandList) (c : Nat) : State :=
  ((((s.makeCurrent i l).modSlot i fun r =>
    { r with state := .powered, granted := c, timers := { r.timers with clean := some Config.cleanMs } }).demandEvents
      i l).event .granted (some i) c (l.powerAt c)).notify i (.powered (l.powerAt c))

section
variable (s : State) (i : SlotId) (l : DemandList) (c : Nat)

theorem resyncPowered_eq : s.resyncPowered i l c = (s.resyncStands i l c).carryOwed i := rfl

@[simp] theorem slot_resyncStands : (s.resyncStands i l c).slot i =
    SlotRec.sending { (s.slot i).listed l (s.policy i).classLimit with
      state := .powered, granted := c, timers := { (s.slot i).timers with clean := some 30000 } }
        (.powered (l.powerAt c)) := by
  rw [State.resyncStands, slot_notify, slot_event, slot_demandEvents, slot_modSlot_same, slot_makeCurrent]
  rfl
@[simp] theorem link_resyncStands : (s.resyncStands i l c).link i = s.link i := by
  rw [State.resyncStands, link_notify, link_event, link_demandEvents, link_modSlot, link_makeCurrent]
@[simp] theorem resyncStands_ae : (s.resyncStands i l c).ae = s.ae := by
  rw [State.resyncStands, State.notify_ae, State.event_ae, demandEvents_ae]; rfl
@[simp] theorem resyncStands_cu : (s.resyncStands i l c).cu = s.cu := by
  rw [State.resyncStands, State.notify_cu, State.event_cu, demandEvents_cu]; rfl
@[simp] theorem resyncStands_eu : (s.resyncStands i l c).eu =
    (s.eu.demanded i l (s.policy i).maxPower).append .granted (some i) (byteOf c) (BitVec.ofNat 16 (l.powerAt c)) := by
  rw [State.resyncStands, State.notify_eu, State.event_eu, demandEvents_eu]; rfl

end

theorem DemandList.powerAt_of_point {l : DemandList} {index : Nat} {p : Point} (h : l.point index = some p) :
    l.powerAt index = p.power := by
  simp [DemandList.powerAt, h]

theorem DemandList.point_zero (l : DemandList) : l.point 0 = none := rfl

section
variable {s : State} {i : SlotId} {l : DemandList}

theorem resyncDemand_at {p : Point} (point : l.point l.currentIndex.toNat = some p) (avail : p.avail = true) :
    s.resyncDemand i (.valid l) = s.resyncPowered i l l.currentIndex.toNat := by
  have nonzero : l.currentIndex.toNat ≠ 0 := fun zero => by simp [zero, DemandList.point_zero] at point
  simp [State.resyncDemand, nonzero, point, avail]

theorem resyncDemand_zero (zero : l.currentIndex = 0) : s.resyncDemand i (.valid l) = s.resyncUnpowered i l := by
  simp [State.resyncDemand, zero]

theorem resyncDemand_elsewhere (nonzero : l.currentIndex ≠ 0)
    (unavailable : ∀ p, l.point l.currentIndex.toNat = some p → p.avail = false) :
    s.resyncDemand i (.valid l) = ((s.cut i).demandEvents i l).fault i .resyncFail := by
  have index : l.currentIndex.toNat ≠ 0 := fun zero => nonzero (BitVec.eq_of_toNat_eq zero)
  have none_ : ((l.point l.currentIndex.toNat).map Point.avail).getD false = false := by
    cases h : l.point l.currentIndex.toNat with
    | none => rfl
    | some p => exact unavailable p h
  simp only [State.resyncDemand, index, none_, if_false, Bool.false_eq_true]

end

/-- Settles O33: by the state found, and in RESYNC by the card's current index. -/
theorem demandRestatesOrIsRefused : Obligations.DemandRestatesOrIsRefused := by
  intro s i status payload x aw allowed fits
  obtain ⟨t, run, around, ae, eu, link, slot⟩ := demandReply_happening (status := status) aw allowed fits
  generalize hr : ({ kind := .demand, status := status, payload := payload } : Reply) = r at ae eu link slot ⊢
  refine ⟨t, run, fun l valid powered none_ => ?_, fun refused => ?_, fun faulted => ?_, fun l valid resync => ?_⟩
  · rw [onDemand_powered (by rw [slot_replied]; exact powered) (by rw [slot_replied]; exact none_)
      (by rw [policy_replied]; exact valid)] at ae eu link slot
    rw [slot_beginRestatement, slot_replied] at slot
    rw [link_beginRestatement, link_replied] at link
    rw [beginRestatement_eu, policy_replied] at eu
    rw [beginRestatement_ae, replied_ae] at ae
    exact ⟨around, ae, link, slot, by rw [eu, demandEvents_eu, policy_linkGood]; rfl⟩
  · rw [onDemand_refused (by rw [slot_replied]; exact refused)] at ae eu link slot
    rw [slot_refuse, slot_replied] at slot
    rw [link_refuse, link_replied] at link
    rw [refuse_eu, slot_replied] at eu
    exact ⟨around, ae.trans (replied_ae ..), slot, link, eu⟩
  · rw [onDemand_discarded (by rw [slot_replied]; exact faulted)] at ae eu link slot
    rw [slot_replied] at slot
    exact ⟨around, ae.trans (replied_ae ..), slot, link.trans (link_replied ..), eu⟩
  · rw [onDemand_resync (by rw [slot_replied]; exact resync), policy_replied, valid] at ae eu link slot
    refine ⟨fun p point avail => ?_, fun zero => ?_, fun nonzero unavailable => ?_⟩
    · rw [resyncDemand_at point avail, resyncPowered_eq] at ae eu link slot
      have power := DemandList.powerAt_of_point point
      generalize hb : (s.replied i x r).resyncStands i l l.currentIndex.toNat = b at ae eu link slot
      have slot_b : b.slot i = SlotRec.sending { (s.slot i).restored.listed l (s.policy i).classLimit with
          state := .powered, granted := l.currentIndex.toNat
          timers := { (s.slot i).restored.timers with clean := some 30000 } } (.powered p.power) := by
        rw [← hb, slot_resyncStands, slot_replied, policy_replied, power]
      have link_b : b.link i = (s.link i).goodReply x r := by rw [← hb, link_resyncStands, link_replied]
      have eu_b : b.eu = (((s.elapse.linkGood i x r).demandEvents i l).event .granted (some i) l.currentIndex.toNat
          p.power).eu := by
        rw [← hb, resyncStands_eu, State.event_eu, demandEvents_eu, power, policy_replied, policy_linkGood]; rfl
      have ae_b : b.ae = s.ae := by rw [← hb, resyncStands_ae, replied_ae]
      have cu_b : b.cu = s.cu := by rw [← hb, resyncStands_cu, replied_cu]
      have powered : (b.slot i).state = .powered := by rw [slot_b]; rfl
      have none_ : (b.slot i).restated = none := by rw [slot_b]; rfl
      obtain ⟨ae_c, eu_c⟩ := carryOwed_rest powered none_
      refine ⟨around, (ae.trans ae_c).trans ae_b, (eu.trans eu_c).trans eu_b, fun free => ?_, fun w owed host => ?_⟩
      · rw [carryOwed_none (by rw [slot_b]; exact free)] at link slot
        rw [slot_b] at slot
        exact ⟨link.trans link_b, slot⟩
      · rw [carryOwed_host (w := w) (by rw [slot_b]; exact owed) host powered none_] at link slot
        rw [slot_beginReduce, slot_modSlot_same, slot_b, State.modSlot_cu, cu_b] at slot
        rw [link_beginReduce, link_modSlot, link_b, State.modSlot_cu, cu_b, LinkRec.goodReply_reduce] at link
        exact ⟨link, slot⟩
    · rw [resyncDemand_zero zero] at ae eu link slot
      rw [slot_resyncUnpowered, slot_replied, policy_replied] at slot
      rw [link_resyncUnpowered, link_replied, LinkRec.cut_goodReply] at link
      rw [resyncUnpowered_eu, policy_replied] at eu
      exact ⟨around, ae.trans ((resyncUnpowered_ae ..).trans (replied_ae ..)), enHigh_false slot rfl, link,
        by rw [eu, demandEvents_eu, policy_linkGood]; rfl, slot⟩
    · rw [resyncDemand_elsewhere nonzero unavailable] at ae eu link slot
      have slot_g : (((s.replied i x r).cut i).demandEvents i l).slot i = (s.slot i).restored.powerless := by
        rw [slot_demandEvents, slot_cut, slot_replied]
      have off : ((((s.replied i x r).cut i).demandEvents i l).slot i).en = false := by rw [slot_g]; rfl
      have holdoff : (((s.replied i x r).cut i).demandEvents i l).holdoffTimer = s.holdoffTimer :=
        holdoffTimer_of_cu ((demandEvents_cu ..).trans (replied_cu ..))
      have queue : ((((s.replied i x r).cut i).demandEvents i l).leaveQueue i).ae = (s.leaveQueue i).ae := by
        simp only [State.leaveQueue, demandEvents_ae, cut_ae, replied_ae]
      rw [slot_fault_off _ off, slot_g, policy_demandEvents, policy_cut, policy_replied, holdoff] at slot
      rw [link_fault_off _ off, link_demandEvents, link_cut, link_replied, LinkRec.cut_goodReply] at link
      rw [fault_ae, queue] at ae
      rw [fault_eu, slot_g, demandEvents_eu, policy_cut, policy_replied] at eu
      exact ⟨around, ae, enHigh_false slot rfl, link, by rw [eu, demandEvents_eu, policy_linkGood]; rfl, slot⟩

end Sys2Proof.Machine
end

section
/-! ACCEPT and DECLINE (chapters 2, 3, 5 and 7): what each makes of the slot by its state, with what was owed carried out
in the same happening. -/

namespace Sys2Proof.Machine

/-! ### ACCEPT to an offer -/

/-- An offer taken up, before the levels already held have effect (R29). -/
def State.offerStands (s : State) (i : SlotId) (o : Offered) : State :=
  (s.modSlot i fun r =>
    { r with
      granted := o.index, en := true, state := .powering, offered := none
      timers := { r.timers with ramp := some s.cu.settings.rampMs } }).notify i (.accepted .offer o.power)

section
variable (s : State) (i : SlotId) (o : Offered)

theorem acceptOffer_eq : s.acceptOffer i o = (s.offerStands i o).poweringLevels i := rfl

@[simp] theorem slot_offerStands : (s.offerStands i o).slot i =
    SlotRec.sending { s.slot i with
      granted := o.index, en := true, state := .powering, offered := none
      timers := { (s.slot i).timers with ramp := some s.cu.settings.rampMs } } (.accepted .offer o.power) := by
  rw [State.offerStands, slot_notify, slot_modSlot_same]

end

section
variable {s : State} {i : SlotId}

/-- The levels held on the entry to POWERING: FLT_N low first, then PG high (R29, R32). -/
theorem poweringLevels_fault (low : (s.slot i).fltN = false) : s.poweringLevels i = s.fault i .switchFault := by
  simp [State.poweringLevels, low]

theorem poweringLevels_good (high : (s.slot i).fltN = true) (pg : (s.slot i).pg = true) :
    s.poweringLevels i = s.becomePowered i := by
  simp [State.poweringLevels, high, pg]

theorem poweringLevels_wait (high : (s.slot i).fltN = true) (pg : (s.slot i).pg = false) : s.poweringLevels i = s := by
  simp [State.poweringLevels, high, pg]

end

/-! ### ACCEPT to a raise and to a mapping -/

/-- A raise accepted, before what is owed is carried out (R107). -/
def State.raiseStands (s : State) (i : SlotId) (o : Offered) : State :=
  ((s.modSlot i fun r => { r with state := .powered, granted := o.index, offered := none }).event .raised (some i)
    o.index o.power).notify i (.accepted .raise o.power)

/-- A mapping accepted, before a REDUCE held is re-expressed (R56). -/
def State.mappingStands (s : State) (i : SlotId) (l : DemandList) (o : Offered) : State :=
  (((s.makeCurrent i l).modSlot i fun r => { r with state := .powered, granted := o.index, offered := none }).event
    .restated (some i) o.index o.power).notify i (.accepted .mapping o.power)

section
variable (s : State) (i : SlotId) (l : DemandList) (o : Offered)

theorem acceptRaise_eq : s.acceptRaise i o = (s.raiseStands i o).carryOwed i := rfl

theorem acceptMapping_eq : s.acceptMapping i l o = (s.mappingStands i l o).carryHeld i l o.power := rfl

@[simp] theorem slot_raiseStands : (s.raiseStands i o).slot i =
    SlotRec.sending { s.slot i with state := .powered, granted := o.index, offered := none }
      (.accepted .raise o.power) := by
  rw [State.raiseStands, slot_notify, slot_event, slot_modSlot_same]

@[simp] theorem link_raiseStands : (s.raiseStands i o).link i = s.link i := rfl
@[simp] theorem raiseStands_ae : (s.raiseStands i o).ae = s.ae := rfl
@[simp] theorem raiseStands_cu : (s.raiseStands i o).cu = s.cu := rfl
@[simp] theorem raiseStands_eu : (s.raiseStands i o).eu =
    s.eu.append .raised (some i) (byteOf o.index) (BitVec.ofNat 16 o.power) := rfl
@[simp] theorem policy_raiseStands : (s.raiseStands i o).policy i = s.policy i := rfl

@[simp] theorem link_mappingStands : (s.mappingStands i l o).link i = s.link i := rfl
@[simp] theorem mappingStands_ae : (s.mappingStands i l o).ae = s.ae := rfl
@[simp] theorem mappingStands_cu : (s.mappingStands i l o).cu = s.cu := rfl
@[simp] theorem mappingStands_eu : (s.mappingStands i l o).eu =
    s.eu.append .restated (some i) (byteOf o.index) (BitVec.ofNat 16 o.power) := rfl

@[simp] theorem slot_mappingStands : (s.mappingStands i l o).slot i =
    SlotRec.sending { (s.slot i).listed l (s.policy i).classLimit with
      state := .powered, granted := o.index, offered := none } (.accepted .mapping o.power) := by
  rw [State.mappingStands, slot_notify, slot_event, slot_modSlot_same, slot_makeCurrent]

end

/-- The target of a REDUCE held in RESTATING, against the new list (R57). -/
def Owed.target (w : Owed) (l : DemandList) : Nat × Nat :=
  if w.targetPower = 0 then (0, 0) else ((l.highestPoint w.targetPower).map fun p => (p.1, p.2.power)).getD (0, 0)

section
variable {s : State} {i : SlotId} {l : DemandList} {mapped : Nat} {w : Owed}

theorem carryHeld_none (none_ : (s.slot i).owed = none) : s.carryHeld i l mapped = s := by
  simp only [State.carryHeld, none_]

/-- A mapping at or below what was asked for answers the REDUCE held. -/
theorem carryHeld_met (owed : (s.slot i).owed = some w) (some_ : w.targetPower ≠ 0) (met : mapped ≤ w.targetPower) :
    s.carryHeld i l mapped = (s.modSlot i fun r => { r with owed := none }).notify i (.reduced mapped) := by
  simp only [State.carryHeld, owed, some_, met, if_true, if_false]

/-- One above it enters REDUCING toward the held target, or to 0. -/
theorem carryHeld_reduces (owed : (s.slot i).owed = some w) (above : w.targetPower = 0 ∨ w.targetPower < mapped)
    (powered : (s.slot i).state = .powered) (none_ : (s.slot i).restated = none) :
    s.carryHeld i l mapped = (s.modSlot i fun r => { r with owed := none }).beginReduce i (w.target l).1 (w.target l).2
      w.origin := by
  have slot : (s.modSlot i fun r => { r with owed := none }).slot i = { s.slot i with owed := none } :=
    slot_modSlot_same ..
  have reduce := takeReduce_powered (s := s.modSlot i fun r => { r with owed := none }) (i := i)
    (by rw [slot]; exact powered) (by rw [slot]; exact none_)
  by_cases zero : w.targetPower = 0
  · simp only [State.carryHeld, owed, zero, if_true, Owed.target, reduce]
  · have unmet : ¬ mapped ≤ w.targetPower := Nat.not_le.mpr (above.resolve_left zero)
    simp only [State.carryHeld, owed, zero, unmet, if_false, Owed.target, reduce]
    cases l.highestPoint w.targetPower <;> rfl

theorem carryHeld_rest (powered : (s.slot i).state = .powered) (none_ : (s.slot i).restated = none) :
    (s.carryHeld i l mapped).ae = s.ae ∧ (s.carryHeld i l mapped).eu = s.eu := by
  cases owed : (s.slot i).owed with
  | none => rw [carryHeld_none owed]; exact ⟨rfl, rfl⟩
  | some w =>
    by_cases met : w.targetPower ≠ 0 ∧ mapped ≤ w.targetPower
    · rw [carryHeld_met owed met.1 met.2]; exact ⟨rfl, rfl⟩
    · rw [carryHeld_reduces owed (by omega) powered none_]; exact ⟨rfl, rfl⟩

theorem onAccept_offer {o : Offered} (state : (s.slot i).state = .offering) (offered : (s.slot i).offered = some o) :
    s.onAccept i = s.acceptOffer i o := by simp only [State.onAccept, state, offered]

theorem onAccept_raise {o : Offered} (state : (s.slot i).state = .raising) (offered : (s.slot i).offered = some o) :
    s.onAccept i = s.acceptRaise i o := by simp only [State.onAccept, state, offered]

theorem onAccept_mapping {o : Offered} (state : (s.slot i).state = .restating) (offered : (s.slot i).offered = some o)
    (pending : (s.slot i).restated = some l) : s.onAccept i = s.acceptMapping i l o := by
  simp only [State.onAccept, state, offered, pending]

/-- What was owed during a raise, carried out from the state that the raise leaves (R152, R155). -/
theorem owed_carried {s b t : State} {x : Exchange} {r : Reply} (powered : (b.slot i).state = .powered)
    (unpending : (b.slot i).restated = none) (current : (b.slot i).current = some l) (owed : (b.slot i).owed = some w)
    (link_b : b.link i = (s.link i).goodReply x r) (cu_b : b.cu = s.cu) (link : t.link i = (b.carryOwed i).link i)
    (slot : afterWatch (s.policy i).maxPower ((b.carryOwed i).slot i) (t.slot i)) :
    (w.origin = .host →
      t.link i = ((s.link i).goodReply x r).asked (.reduce 0 0) s.cu.settings.retryLimit ∧
      afterWatch (s.policy i).maxPower (SlotRec.reducingTo { b.slot i with owed := none } 0 0 .host
        (s.cu.settings.reduceSteps * 10)) (t.slot i)) ∧
    (w.origin ≠ .host → (s.policy i).maxPower < (b.slot i).grantedPower →
      t.link i = ((s.link i).goodReply x r).asked (.reduce l.policyTarget.1 l.policyTarget.2)
        s.cu.settings.retryLimit ∧
      afterWatch (s.policy i).maxPower (SlotRec.reducingTo { b.slot i with owed := none } l.policyTarget.1
        l.policyTarget.2 .policy (s.cu.settings.reduceSteps * 10)) (t.slot i)) ∧
    (w.origin ≠ .host → (b.slot i).grantedPower ≤ (s.policy i).maxPower →
      t.link i = (s.link i).goodReply x r ∧
      afterWatch (s.policy i).maxPower { b.slot i with owed := none } (t.slot i)) := by
  have policy_b : b.policy i = s.policy i := congrArg (·.settings.policy[i.val]) cu_b
  refine ⟨fun host => ?_, fun policy above => ?_, fun policy within => ?_⟩
  · rw [carryOwed_host owed host powered unpending] at link slot
    rw [slot_beginReduce, slot_modSlot_same, State.modSlot_cu, cu_b] at slot
    rw [link_beginReduce, link_modSlot, link_b, State.modSlot_cu, cu_b, LinkRec.goodReply_reduce] at link
    exact ⟨link, slot⟩
  · rw [carryOwed_policy owed policy powered unpending, policy_b, if_neg (Nat.not_le.mpr above), current] at link slot
    rw [slot_beginReduce, slot_modSlot_same, State.modSlot_cu, cu_b] at slot
    rw [link_beginReduce, link_modSlot, link_b, State.modSlot_cu, cu_b, LinkRec.goodReply_reduce] at link
    exact ⟨link, slot⟩
  · rw [carryOwed_policy owed policy powered unpending, policy_b, if_pos within] at link slot
    rw [slot_modSlot_same] at slot
    rw [link_modSlot, link_b] at link
    exact ⟨link, slot⟩

end

/-- Settles O34: by the state found, with the levels already held and what was owed. -/
theorem acceptActsByState : Obligations.AcceptActsByState := by
  intro s i status x o aw allowed offered
  obtain ⟨t, run, around, ae, eu, link, slot⟩ :=
    reply_happening { kind := .accept, status := status, payload := [] } aw allowed rfl (Nat.zero_le _)
  generalize hr : ({ kind := .accept, status := status, payload := [] } : Reply) = r at ae eu link slot ⊢
  have taken : (s.elapse.linkGood i x r).onReply i x.frame r = (s.replied i x r).onAccept i := by rw [← hr]; rfl
  rw [taken] at ae eu link slot
  have offered_g : ((s.replied i x r).slot i).offered = some o := by rw [slot_replied]; exact offered
  have state_g {st : SlotState} (h : (s.slot i).state = st) : ((s.replied i x r).slot i).state = st := by
    rw [slot_replied]; exact h
  have restated_g : ((s.replied i x r).slot i).restated = (s.slot i).restated := by rw [slot_replied]; rfl
  refine ⟨t, by rw [← hr] at taken; exact run, fun offering high => ?_, fun offering low => ?_, fun raising free => ?_,
    fun w owed l current none_ raising => ?_, fun l pending restating free => ?_, fun l pending w owed restating => ?_⟩
  · rw [onAccept_offer (state_g offering) offered_g, acceptOffer_eq] at ae eu link slot
    have slot_b := slot_offerStands (s.replied i x r) i o
    rw [slot_replied, replied_cu] at slot_b
    have high_b : (((s.replied i x r).offerStands i o).slot i).fltN = true := by rw [slot_b]; exact high
    have rest : t.ae = s.ae ∧ t.link i = (s.link i).goodReply x r := by
      cases pg : (s.slot i).pg
      · rw [poweringLevels_wait high_b (by rw [slot_b]; exact pg)] at ae link
        exact ⟨ae.trans (replied_ae ..), link.trans (link_replied ..)⟩
      · rw [poweringLevels_good high_b (by rw [slot_b]; exact pg), link_becomePowered] at link
        rw [poweringLevels_good high_b (by rw [slot_b]; exact pg), becomePowered_ae] at ae
        exact ⟨ae.trans (replied_ae ..), link.trans (link_replied ..)⟩
    refine ⟨around, rest.1, rest.2, fun pg => ?_, fun pg => ?_⟩
    · rw [poweringLevels_wait high_b (by rw [slot_b]; exact pg)] at eu slot
      rw [slot_b] at slot
      exact ⟨eu, slot⟩
    · rw [poweringLevels_good high_b (by rw [slot_b]; exact pg)] at eu slot
      rw [slot_becomePowered, slot_b] at slot
      rw [becomePowered_eu, slot_b] at eu
      obtain ⟨watch, more, eq⟩ := afterWatch_eq slot
      have power : (t.slot i).grantedPower = ((s.slot i).current.map fun l => l.powerAt o.index).getD 0 := by
        rw [eq]; rfl
      rw [power]
      exact ⟨eu, slot⟩
  · rw [onAccept_offer (state_g offering) offered_g, acceptOffer_eq] at ae eu link slot
    have slot_b := slot_offerStands (s.replied i x r) i o
    rw [slot_replied, replied_cu] at slot_b
    rw [poweringLevels_fault (by rw [slot_b]; exact low)] at ae eu link slot
    have on : (((s.replied i x r).offerStands i o).slot i).en = true := by rw [slot_b]; rfl
    rw [slot_fault_on _ on, slot_b] at slot
    rw [link_fault_on _ on] at link
    rw [fault_ae] at ae
    rw [fault_eu, slot_b] at eu
    have slot' : afterWatch (s.policy i).maxPower (((((s.slot i).restored.powerless).struck .switchFault
        (s.policy i).classLimit s.holdoffTimer).sending (.accepted .offer o.power)).sending (.faulted .switchFault))
        (t.slot i) := by
      rw [← policy_replied s i i x r, ← replied_holdoffTimer s i x r]
      rw [← policy_replied s i i x r] at slot
      exact slot
    refine ⟨around, enHigh_false slot' rfl, ae.trans (replied_leaveQueue_ae ..), link.trans ?_, eu, slot'⟩
    rw [← LinkRec.cut_goodReply, ← link_replied]
    rfl
  · rw [onAccept_raise (state_g raising) offered_g, acceptRaise_eq] at ae eu link slot
    have slot_b := slot_raiseStands (s.replied i x r) i o
    rw [slot_replied] at slot_b
    rw [carryOwed_none (by rw [slot_b]; exact free)] at ae eu link slot
    rw [slot_b] at slot
    rw [link_raiseStands, link_replied] at link
    rw [raiseStands_ae, replied_ae] at ae
    rw [raiseStands_eu, replied_eu] at eu
    exact ⟨around, ae, link, eu, slot⟩
  · rw [onAccept_raise (state_g raising) offered_g, acceptRaise_eq] at ae eu link slot
    have slot_b := slot_raiseStands (s.replied i x r) i o
    rw [slot_replied] at slot_b
    have link_b : ((s.replied i x r).raiseStands i o).link i = (s.link i).goodReply x r := by
      rw [link_raiseStands, link_replied]
    have cu_b : ((s.replied i x r).raiseStands i o).cu = s.cu := by rw [raiseStands_cu, replied_cu]
    have policy_b : ((s.replied i x r).raiseStands i o).policy i = s.policy i := by
      rw [policy_raiseStands, policy_replied]
    have ae_b : ((s.replied i x r).raiseStands i o).ae = s.ae := by rw [raiseStands_ae, replied_ae]
    have eu_b : ((s.replied i x r).raiseStands i o).eu =
        ((s.elapse.linkGood i x r).event .raised (some i) o.index o.power).eu := by
      rw [raiseStands_eu, replied_eu, State.event_eu]
    generalize (s.replied i x r).raiseStands i o = b at *
    have current_b : (b.slot i).current = some l := by rw [slot_b]; exact current
    have power : (b.slot i).grantedPower = l.powerAt o.index := by
      rw [slot_b]; simp [SlotRec.sending, SlotRec.grantedPower, current]
    have powered : (b.slot i).state = .powered := by rw [slot_b]; rfl
    have unpending : (b.slot i).restated = none := by rw [slot_b]; exact none_
    have owed_b : (b.slot i).owed = some w := by rw [slot_b]; exact owed
    obtain ⟨ae_c, eu_c⟩ := carryOwed_rest powered unpending
    obtain ⟨host, above, within⟩ := owed_carried powered unpending current_b owed_b link_b cu_b link slot
    rw [power] at above within
    rw [slot_b] at host above within
    exact ⟨around, (ae.trans ae_c).trans ae_b, (eu.trans eu_c).trans eu_b, host, above, within⟩
  · rw [onAccept_mapping (state_g restating) offered_g (restated_g.trans pending), acceptMapping_eq] at ae eu link slot
    have slot_b := slot_mappingStands (s.replied i x r) i l o
    rw [slot_replied, policy_replied] at slot_b
    rw [carryHeld_none (by rw [slot_b]; exact free)] at ae eu link slot
    rw [slot_b] at slot
    rw [link_mappingStands, link_replied] at link
    rw [mappingStands_ae, replied_ae] at ae
    rw [mappingStands_eu, replied_eu] at eu
    exact ⟨around, ae, link, eu, slot⟩
  · rw [onAccept_mapping (state_g restating) offered_g (restated_g.trans pending), acceptMapping_eq] at ae eu link slot
    have slot_b := slot_mappingStands (s.replied i x r) i l o
    rw [slot_replied, policy_replied] at slot_b
    have link_b : ((s.replied i x r).mappingStands i l o).link i = (s.link i).goodReply x r := by
      rw [link_mappingStands, link_replied]
    have cu_b : ((s.replied i x r).mappingStands i l o).cu = s.cu := by rw [mappingStands_cu, replied_cu]
    have ae_b : ((s.replied i x r).mappingStands i l o).ae = s.ae := by rw [mappingStands_ae, replied_ae]
    have eu_b : ((s.replied i x r).mappingStands i l o).eu =
        ((s.elapse.linkGood i x r).event .restated (some i) o.index o.power).eu := by
      rw [mappingStands_eu, replied_eu, State.event_eu]
    generalize (s.replied i x r).mappingStands i l o = b at *
    have powered : (b.slot i).state = .powered := by rw [slot_b]; rfl
    have unpending : (b.slot i).restated = none := by rw [slot_b]; rfl
    have owed_b : (b.slot i).owed = some w := by rw [slot_b]; exact owed
    obtain ⟨ae_c, eu_c⟩ := carryHeld_rest (l := l) (mapped := o.power) powered unpending
    refine ⟨around, (ae.trans ae_c).trans ae_b, (eu.trans eu_c).trans eu_b, fun some_ met => ?_, fun above => ?_⟩
    · rw [carryHeld_met owed_b some_ met] at link slot
      rw [slot_notify, slot_modSlot_same, slot_b] at slot
      rw [link_notify, link_modSlot, link_b] at link
      exact ⟨link, slot⟩
    · rw [carryHeld_reduces owed_b above powered unpending] at link slot
      rw [slot_beginReduce, slot_modSlot_same, slot_b, State.modSlot_cu, cu_b] at slot
      rw [link_beginReduce, link_modSlot, link_b, State.modSlot_cu, cu_b, LinkRec.goodReply_reduce] at link
      exact ⟨link, slot⟩

/-! ### Giving up an offer, a mapping, power or demand -/

/-- A raise declined, before what is owed is carried out (R108). -/
def State.raiseDeclines (s : State) (i : SlotId) (o : Offered) : State :=
  ((s.modSlot i fun r => { r with state := .powered, raiseDeclined := true, offered := none }).event .raiseDeclined
    (some i) o.index o.power).notify i (.declined .raise (s.slot i).grantedPower)

section
variable (s : State) (i : SlotId) (o : Offered) (n : Notice)

theorem declineRaise_eq : s.declineRaise i o = (s.raiseDeclines i o).carryOwed i := by
  simp only [State.declineRaise, slot_modSlot_same]
  rfl

@[simp] theorem slot_raiseDeclines : (s.raiseDeclines i o).slot i =
    SlotRec.sending { s.slot i with state := .powered, raiseDeclined := true, offered := none }
      (.declined .raise (s.slot i).grantedPower) := by
  rw [State.raiseDeclines, slot_notify, slot_event, slot_modSlot_same]
@[simp] theorem link_raiseDeclines : (s.raiseDeclines i o).link i = s.link i := rfl
@[simp] theorem raiseDeclines_ae : (s.raiseDeclines i o).ae = s.ae := rfl
@[simp] theorem raiseDeclines_cu : (s.raiseDeclines i o).cu = s.cu := rfl
@[simp] theorem raiseDeclines_eu : (s.raiseDeclines i o).eu =
    s.eu.append .raiseDeclined (some i) (byteOf o.index) (BitVec.ofNat 16 o.power) := rfl

@[simp] theorem slot_dropOffer : (s.dropOffer i).slot i = (s.slot i).listless (s.policy i).classLimit := by
  rw [State.dropOffer, slot_linkWithdraw, slot_discard, slot_modSlot_same, policy_modSlot]
  rfl
@[simp] theorem link_dropOffer : (s.dropOffer i).link i = (s.link i).withdraw := by
  rw [State.dropOffer, link_linkWithdraw, link_discard, link_modSlot]
@[simp] theorem dropOffer_ae : (s.dropOffer i).ae = s.ae := rfl
@[simp] theorem dropOffer_eu : (s.dropOffer i).eu = s.eu := rfl

@[simp] theorem slot_declineOffer : (s.declineOffer i o n).slot i =
    ((s.slot i).listless (s.policy i).classLimit).sending n := by
  rw [State.declineOffer, slot_notify, slot_event, slot_dropOffer]
@[simp] theorem link_declineOffer : (s.declineOffer i o n).link i = (s.link i).withdraw := by
  rw [State.declineOffer, link_notify, link_event, link_dropOffer]
@[simp] theorem declineOffer_ae : (s.declineOffer i o n).ae = s.ae := rfl
@[simp] theorem declineOffer_eu : (s.declineOffer i o n).eu =
    s.eu.append .offerDeclined (some i) (byteOf o.index) (BitVec.ofNat 16 o.power) := rfl

@[simp] theorem slot_releaseCut : (s.releaseCut i n).slot i =
    ((s.slot i).powerless.listless (s.policy i).classLimit).sending n := by
  simp only [State.releaseCut, slot_notify, slot_event, slot_discard, slot_enter, slot_cut, policy_enter, policy_cut]
  rfl
@[simp] theorem link_releaseCut : (s.releaseCut i n).link i = (s.link i).cut := by
  simp only [State.releaseCut, link_notify, link_event, link_discard, link_enter, link_cut]
@[simp] theorem releaseCut_ae : (s.releaseCut i n).ae = s.ae := rfl
@[simp] theorem releaseCut_eu : (s.releaseCut i n).eu =
    s.eu.append .released (some i) (byteOf (s.slot i).granted) (BitVec.ofNat 16 (s.slot i).grantedPower) := rfl

@[simp] theorem slot_withdrawDemand : (s.withdrawDemand i).slot i =
    SlotRec.sending { (s.slot i).listless (s.policy i).classLimit with offered := (s.slot i).offered } .released := by
  simp only [State.withdrawDemand, slot_notify, slot_discard, slot_enter, slot_leaveQueue, policy_enter,
    policy_leaveQueue]
  rfl
@[simp] theorem link_withdrawDemand : (s.withdrawDemand i).link i = s.link i := rfl
@[simp] theorem withdrawDemand_ae : (s.withdrawDemand i).ae = (s.leaveQueue i).ae := rfl
@[simp] theorem withdrawDemand_eu : (s.withdrawDemand i).eu = s.eu := rfl

@[simp] theorem slot_resyncIdle : (s.resyncIdle i).slot i =
    ((s.slot i).powerless.listless (s.policy i).classLimit).sending .released := by
  simp only [State.resyncIdle, slot_notify, slot_event, slot_discard, slot_enter, slot_cut, policy_enter, policy_cut]
  rfl
@[simp] theorem link_resyncIdle : (s.resyncIdle i).link i = (s.link i).cut := by
  simp only [State.resyncIdle, link_notify, link_event, link_discard, link_enter, link_cut]
@[simp] theorem resyncIdle_ae : (s.resyncIdle i).ae = s.ae := rfl
@[simp] theorem resyncIdle_eu : (s.resyncIdle i).eu =
    s.eu.append .released (some i) (byteOf 0) (BitVec.ofNat 16 (s.policy i).maxPower) := rfl

end

/-- Withdrawal right after a good reply. -/
theorem LinkRec.goodReply_withdraw (l : LinkRec) (x : Exchange) (r : Reply) :
    (l.goodReply x r).withdraw = { l.goodReply x r with pendingReq := none, queryDue := false } :=
  LinkRec.withdraw_free rfl

section
variable {s : State} {i : SlotId} {o : Offered}

theorem onDecline_offer (state : (s.slot i).state = .offering) (offered : (s.slot i).offered = some o) :
    s.onDecline i = s.declineOffer i o (.declined .offer 0) := by simp only [State.onDecline, state, offered]

theorem onDecline_raise (state : (s.slot i).state = .raising) (offered : (s.slot i).offered = some o) :
    s.onDecline i = s.declineRaise i o := by simp only [State.onDecline, state, offered]

theorem onDecline_mapping (state : (s.slot i).state = .restating) :
    s.onDecline i = s.releaseCut i (.declined .mapping 0) := by simp only [State.onDecline, state]

end

/-- Settles O35: by the state found. -/
theorem declineActsByState : Obligations.DeclineActsByState := by
  intro s i status x o aw allowed offered
  obtain ⟨t, run, around, ae, eu, link, slot⟩ :=
    reply_happening { kind := .decline, status := status, payload := [] } aw allowed rfl (Nat.zero_le _)
  generalize hr : ({ kind := .decline, status := status, payload := [] } : Reply) = r at ae eu link slot ⊢
  have taken : (s.elapse.linkGood i x r).onReply i x.frame r = (s.replied i x r).onDecline i := by rw [← hr]; rfl
  rw [taken] at ae eu link slot
  have offered_g : ((s.replied i x r).slot i).offered = some o := by rw [slot_replied]; exact offered
  have state_g {st : SlotState} (h : (s.slot i).state = st) : ((s.replied i x r).slot i).state = st := by
    rw [slot_replied]; exact h
  refine ⟨t, run, fun offering => ?_, fun raising free => ?_, fun w owed l current none_ raising => ?_,
    fun restating => ?_⟩
  · rw [onDecline_offer (state_g offering) offered_g] at ae eu link slot
    rw [slot_declineOffer, slot_replied, policy_replied] at slot
    rw [link_declineOffer, link_replied, LinkRec.goodReply_withdraw] at link
    rw [declineOffer_ae, replied_ae] at ae
    exact ⟨around, ae, link, eu, slot⟩
  · rw [onDecline_raise (state_g raising) offered_g, declineRaise_eq] at ae eu link slot
    have slot_b := slot_raiseDeclines (s.replied i x r) i o
    rw [slot_replied] at slot_b
    rw [carryOwed_none (by rw [slot_b]; exact free)] at ae eu link slot
    rw [slot_b] at slot
    rw [link_raiseDeclines, link_replied] at link
    rw [raiseDeclines_ae, replied_ae] at ae
    rw [raiseDeclines_eu, replied_eu] at eu
    exact ⟨around, ae, link, eu, slot⟩
  · rw [onDecline_raise (state_g raising) offered_g, declineRaise_eq] at ae eu link slot
    have slot_b := slot_raiseDeclines (s.replied i x r) i o
    rw [slot_replied] at slot_b
    have link_b : ((s.replied i x r).raiseDeclines i o).link i = (s.link i).goodReply x r := by
      rw [link_raiseDeclines, link_replied]
    have cu_b : ((s.replied i x r).raiseDeclines i o).cu = s.cu := by rw [raiseDeclines_cu, replied_cu]
    have ae_b : ((s.replied i x r).raiseDeclines i o).ae = s.ae := by rw [raiseDeclines_ae, replied_ae]
    have eu_b : ((s.replied i x r).raiseDeclines i o).eu =
        ((s.elapse.linkGood i x r).event .raiseDeclined (some i) o.index o.power).eu := by
      rw [raiseDeclines_eu, replied_eu, State.event_eu]
    generalize (s.replied i x r).raiseDeclines i o = b at *
    have power : (b.slot i).grantedPower = (s.slot i).grantedPower := by rw [slot_b]; rfl
    have current_b : (b.slot i).current = some l := by rw [slot_b]; exact current
    have powered : (b.slot i).state = .powered := by rw [slot_b]; rfl
    have unpending : (b.slot i).restated = none := by rw [slot_b]; exact none_
    have owed_b : (b.slot i).owed = some w := by rw [slot_b]; exact owed
    obtain ⟨ae_c, eu_c⟩ := carryOwed_rest powered unpending
    obtain ⟨host, above, within⟩ := owed_carried powered unpending current_b owed_b link_b cu_b link slot
    rw [power] at above within
    rw [slot_b] at host above within
    exact ⟨around, (ae.trans ae_c).trans ae_b, (eu.trans eu_c).trans eu_b, host, above, within⟩
  · rw [onDecline_mapping (state_g restating)] at ae eu link slot
    rw [slot_releaseCut, slot_replied, policy_replied] at slot
    rw [link_releaseCut, link_replied, LinkRec.cut_goodReply] at link
    rw [releaseCut_ae, replied_ae] at ae
    rw [releaseCut_eu, slot_replied, replied_eu] at eu
    exact ⟨around, ae, enHigh_false slot rfl, link, eu, slot⟩

end Sys2Proof.Machine
end

section
/-! REDUCED, RELEASE, IDLE and RESTATE-MAP (chapters 2, 3 and 6). -/

namespace Sys2Proof.Machine

/-! ### A reduction's progress and end -/

section
variable (s : State) (i : SlotId) (index power : Nat) (d : Reduction)

@[simp] theorem slot_completeAt : (s.completeAt i index power).slot i =
    ((s.slot i).reduced index).sending (.reduced power) := by
  rw [State.completeAt, slot_notify, slot_event, slot_modLink, slot_modSlot_same]
@[simp] theorem link_completeAt : (s.completeAt i index power).link i =
    { (s.link i).polling false with pendingReq := none } := by
  rw [State.completeAt, link_notify, link_event, link_modLink_same, link_modSlot]
@[simp] theorem completeAt_ae : (s.completeAt i index power).ae = s.ae := rfl
@[simp] theorem completeAt_eu : (s.completeAt i index power).eu =
    s.eu.append .reduced (some i) (byteOf index) (BitVec.ofNat 16 power) := rfl

@[simp] theorem slot_completePart : (s.completePart i index power).slot i =
    SlotRec.sending { s.slot i with granted := index } (.reduced power) := by
  rw [State.completePart, slot_notify, slot_event, slot_modSlot_same]
@[simp] theorem link_completePart : (s.completePart i index power).link i = s.link i := rfl
@[simp] theorem completePart_ae : (s.completePart i index power).ae = s.ae := rfl
@[simp] theorem completePart_eu : (s.completePart i index power).eu =
    s.eu.append .reduced (some i) (byteOf index) (BitVec.ofNat 16 power) := rfl

/-- Whether a reduction to 0 leaves the slot its list (R122). -/
def SlotRec.keepsList (r : SlotRec) (d : Reduction) : Bool :=
  d.origin = .reclaim && (r.current.map DemandList.anyAvail).getD false

@[simp] theorem slot_completeZero : (s.completeZero i d).slot i =
    (if (s.slot i).keepsList d then
      { (s.slot i).powerless with state := if (s.policy i).admits then .standby else .parked }
    else (s.slot i).powerless.listless (s.policy i).classLimit).sending (.reduced 0) := by
  unfold State.completeZero SlotRec.keepsList
  dsimp only
  rw [slot_notify, slot_event]
  split
  · rw [slot_enter, slot_cut, policy_cut]
  · rw [slot_discard, slot_enter, slot_cut, policy_enter, policy_cut]; rfl
@[simp] theorem link_completeZero : (s.completeZero i d).link i = (s.link i).cut := by
  unfold State.completeZero
  dsimp only
  rw [link_notify, link_event]
  split
  · rw [link_enter, link_cut]
  · rw [link_discard, link_enter, link_cut]
@[simp] theorem completeZero_ae : (s.completeZero i d).ae = s.ae := by
  unfold State.completeZero
  dsimp only
  rw [State.notify_ae, State.event_ae]
  split <;> rfl
@[simp] theorem completeZero_eu : (s.completeZero i d).eu =
    s.eu.append .revoked (some i) (byteOf (s.slot i).granted) (BitVec.ofNat 16 (s.slot i).grantedPower) := by
  unfold State.completeZero
  dsimp only
  rw [State.notify_eu, State.event_eu]
  split <;> rfl

theorem onNoted_ae : (s.onNoted i).ae = s.ae := by
  unfold State.onNoted
  split <;> rfl

/-- A REDUCED reply tells the AE by a notice alone. -/
theorem onReduced_ae (answers : Bool) : (s.onReduced i answers index).ae = s.ae := by
  unfold State.onReduced
  split
  · split_ifs
    · exact onNoted_ae s i
    · rfl
    · exact completeZero_ae ..
    · split
      · rfl
      · split_ifs <;> rfl
  · rfl

end

section
variable {s : State} {i : SlotId} {answers : Bool} {index : Nat} {d : Reduction} {l : DemandList}
  (state : (s.slot i).state = .reducing) (reduction : (s.slot i).reduction = some d)
  (current : (s.slot i).current = some l)
include state reduction current

/-- A REDUCED that names the held point: NOTED, or nothing (R120). -/
theorem onReduced_held (held : index = (s.slot i).granted) :
    s.onReduced i answers index = if answers then s.onNoted i else s := by
  simp only [State.onReduced, state, reduction, current, held, if_true]

variable (moved : index ≠ (s.slot i).granted)
include moved

/-- One that names a point at or below the target (R121). -/
theorem onReduced_target {p : Point} (point : l.point index = some p) (low : p.power ≤ d.targetPower) :
    s.onReduced i answers index = s.completeAt i index p.power := by
  have nonzero : index ≠ 0 := fun zero => by rw [zero, DemandList.point_zero] at point; cases point
  simp only [State.onReduced, state, reduction, current, moved, nonzero, point, low, if_true, if_false]

theorem onReduced_zero (zero : index = 0) : s.onReduced i answers index = s.completeZero i d := by
  simp only [State.onReduced, state, reduction, current, zero, if_true]
  rw [if_neg (by rw [← zero]; exact moved)]

/-- One between the target and the entry power, and below the held point (R123). -/
theorem onReduced_part {p : Point} (point : l.point index = some p) (above : d.targetPower < p.power)
    (within : p.power ≤ d.entryPower) (lower : p.power < (s.slot i).grantedPower) :
    s.onReduced i answers index = s.completePart i index p.power := by
  have nonzero : index ≠ 0 := fun zero => by rw [zero, DemandList.point_zero] at point; cases point
  simp [State.onReduced, state, reduction, current, moved, nonzero, point, Nat.not_le.mpr above, within, lower]

/-- One that names no point, or a point above those bounds. -/
theorem onReduced_bad (bad : l.point index = none ∧ index ≠ 0 ∨
      ∃ p, l.point index = some p ∧ d.targetPower < p.power ∧
        (d.entryPower < p.power ∨ (s.slot i).grantedPower ≤ p.power)) :
    s.onReduced i answers index = s.modLink i fun l => l.withNear .kindBad := by
  rcases bad with ⟨none_, nonzero⟩ | ⟨p, point, above, bound⟩
  · simp only [State.onReduced, state, reduction, current, moved, nonzero, none_, if_false]
  · have nonzero : index ≠ 0 := fun zero => by rw [zero, DemandList.point_zero] at point; cases point
    have unfit : ¬ (p.power ≤ d.entryPower ∧ p.power < (s.slot i).grantedPower) := by omega
    simp [State.onReduced, state, reduction, current, moved, nonzero, point, Nat.not_le.mpr above, unfit]

end

/-- An index beyond the list names no point. -/
theorem DemandList.point_beyond {l : DemandList} {index : Nat} (beyond : l.count < index) : l.point index = none := by
  have : index ≠ 0 := by omega
  simp only [DemandList.point, this, if_false, List.getElem?_eq_none_iff]
  simp only [DemandList.count] at beyond
  omega

/-- Settles O37: by where the point named stands to the target, the entry power and the held point. -/
theorem reducedCompletesTheReduction : Obligations.ReducedCompletesTheReduction := by
  intro s i status index x d l aw allowed reducing reduction current moved
  obtain ⟨t, run, around, ae, eu, link, slot⟩ :=
    reply_happening { kind := .reduced, status := status, payload := [index] } aw allowed rfl (Nat.le_add_left 1 20)
  generalize hr : ({ kind := .reduced, status := status, payload := [index] } : Reply) = r at ae eu link slot ⊢
  have taken : (s.elapse.linkGood i x r).onReply i x.frame r =
      (s.replied i x r).onReduced i (x.frame.code == 4) index.toNat := by rw [← hr]; rfl
  rw [taken] at ae eu link slot
  have state_g : ((s.replied i x r).slot i).state = .reducing := by rw [slot_replied]; exact reducing
  have reduction_g : ((s.replied i x r).slot i).reduction = some d := by rw [slot_replied]; exact reduction
  have current_g : ((s.replied i x r).slot i).current = some l := by rw [slot_replied]; exact current
  have moved_g : index.toNat ≠ ((s.replied i x r).slot i).granted := by rw [slot_replied]; exact moved
  rw [onReduced_ae, replied_ae] at ae
  refine ⟨t, run, around, ae, fun p point low => ?_, fun zero => ?_, fun p point above within lower => ?_,
    fun bad => ?_⟩
  · rw [onReduced_target state_g reduction_g current_g moved_g point low] at eu link slot
    rw [slot_completeAt, slot_replied] at slot
    rw [link_completeAt, link_replied] at link
    exact ⟨by rw [link]; simp [LinkRec.polling], eu, slot⟩
  · rw [onReduced_zero state_g reduction_g current_g moved_g (by rw [zero]; rfl)] at eu link slot
    rw [slot_completeZero, slot_replied, policy_replied] at slot
    rw [link_completeZero, link_replied, LinkRec.cut_goodReply] at link
    rw [completeZero_eu, slot_replied] at eu
    have keeps : (s.slot i).restored.keepsList d = (d.origin = .reclaim && l.anyAvail) := by
      simp [SlotRec.keepsList, current]
    refine ⟨enHigh_false slot (by split <;> rfl), link, eu, fun gone => ?_, fun reclaim avail => ?_⟩
    · rw [if_neg (by rw [keeps]; rcases gone with h | h <;> simp [h])] at slot
      exact slot
    · rw [if_pos (by simp [keeps, reclaim, avail])] at slot
      exact slot
  · rw [onReduced_part state_g reduction_g current_g moved_g point above within (by rw [slot_replied]; exact lower)]
      at eu link slot
    rw [slot_completePart, slot_replied] at slot
    rw [link_completePart, link_replied] at link
    exact ⟨link, eu, slot⟩
  · rw [onReduced_bad state_g reduction_g current_g moved_g (by
      rcases bad with beyond | ⟨p, point, above, bound⟩
      · exact .inl ⟨DemandList.point_beyond beyond, by omega⟩
      · exact .inr ⟨p, point, above, by rw [slot_replied]; exact bound⟩)] at eu link slot
    rw [slot_modLink, slot_replied] at slot
    rw [link_modLink_same, link_replied] at link
    exact ⟨link, eu, slot⟩

/-! ### RELEASE and IDLE -/

/-- What RELEASE and IDLE have in common (R24 to R26, R31). -/
theorem onRelease_onIdle_powered {s : State} {i : SlotId} (powered : (s.slot i).state.poweredFamily = true) :
    s.onRelease i = s.releaseCut i .released ∧ s.onIdle i = s.releaseCut i .released := by
  cases h : (s.slot i).state <;> simp [h, SlotState.poweredFamily] at powered <;>
    simp only [State.onRelease, State.onIdle, h, and_self]

theorem onRelease_onIdle_queued {s : State} {i : SlotId}
    (queued : (s.slot i).state = .waiting ∨ (s.slot i).state = .parked) :
    s.onRelease i = s.withdrawDemand i ∧ s.onIdle i = s.withdrawDemand i := by
  rcases queued with h | h <;> simp only [State.onRelease, State.onIdle, h, and_self]

theorem onRelease_onIdle_listless {s : State} {i : SlotId}
    (idle : (s.slot i).state = .standby ∨ (s.slot i).state = .identify) :
    s.onRelease i = (s.enter i .standby).discard i ∧ s.onIdle i = (s.enter i .standby).discard i := by
  rcases idle with h | h <;> simp only [State.onRelease, State.onIdle, h, and_self]

/-- A demand given up without a notice. -/
theorem slot_enter_discard (s : State) (i : SlotId) : ((s.enter i .standby).discard i).slot i =
    { (s.slot i).listless (s.policy i).classLimit with offered := (s.slot i).offered } := by
  rw [slot_discard, slot_enter, policy_enter]
  rfl

/-- With nothing held in STANDBY there is nothing to give up. -/
theorem SlotRec.listless_of_idle {r : SlotRec} {classLimit : Nat} (state : r.state = .standby) (current : r.current = none)
    (arriving : r.arriving = none) (restated : r.restated = none) (effClass : r.effClass = classLimit) :
    { r.listless classLimit with offered := r.offered } = r := by
  obtain ⟨⟩ := r
  simp only at state current arriving restated effClass
  subst state current arriving restated effClass
  rfl

/-- Settles O38: by the state found; RELEASE and IDLE differ in OFFERING and RESYNC alone. -/
theorem releaseAndIdleGiveUpPower : Obligations.ReleaseAndIdleGiveUpPower := by
  intro s i status x c k aw allowed kind
  generalize hr : ({ kind := k, status := status, payload := [] } : Reply) = r
  obtain ⟨t, run, around, ae, eu, link, slot⟩ : ∃ t, exec c s = .next t ∧
      endsAs i s (if k = .release then (s.replied i x r).onRelease i else (s.replied i x r).onIdle i) t := by
    rw [← hr]
    rcases kind with ⟨rfl, rfl⟩ | ⟨rfl, rfl⟩
    · exact reply_happening { kind := .release, status := status, payload := [] } aw allowed rfl (Nat.zero_le _)
    · exact reply_happening { kind := .idle, status := status, payload := [] } aw allowed rfl (Nat.zero_le _)
  have state_g : ((s.replied i x r).slot i).state = (s.slot i).state := by rw [slot_replied]; rfl
  refine ⟨t, run, fun powered => ?_, fun queued => ?_, fun idle identify => ?_, fun standby => ?_,
    fun o offered release offering => ?_, fun idle resync => ?_⟩
  · obtain ⟨eq, eq'⟩ := onRelease_onIdle_powered (s := s.replied i x r) (i := i) (by rw [state_g]; exact powered)
    rw [eq, eq', ite_self] at ae eu link slot
    rw [slot_releaseCut, slot_replied, policy_replied] at slot
    rw [link_releaseCut, link_replied, LinkRec.cut_goodReply] at link
    rw [releaseCut_ae, replied_ae] at ae
    rw [releaseCut_eu, slot_replied, replied_eu] at eu
    exact ⟨around, ae, enHigh_false slot rfl, link, eu, slot⟩
  · obtain ⟨eq, eq'⟩ := onRelease_onIdle_queued (s := s.replied i x r) (i := i) (by rw [state_g]; exact queued)
    rw [eq, eq', ite_self] at ae eu link slot
    rw [slot_withdrawDemand, slot_replied, policy_replied] at slot
    rw [link_withdrawDemand, link_replied] at link
    rw [withdrawDemand_ae, replied_leaveQueue_ae] at ae
    exact ⟨around, ae, link, eu, slot⟩
  · obtain ⟨eq, eq'⟩ := onRelease_onIdle_listless (s := s.replied i x r) (i := i) (by rw [state_g]; exact .inr identify)
    rw [eq, eq', ite_self] at ae eu link slot
    rw [slot_enter_discard, slot_replied, policy_replied] at slot
    rw [link_discard, link_enter, link_replied] at link
    rw [State.discard_ae, State.enter_ae, replied_ae] at ae
    exact ⟨around, ae, link, eu, slot⟩
  · obtain ⟨eq, eq'⟩ := onRelease_onIdle_listless (s := s.replied i x r) (i := i) (by rw [state_g]; exact .inl standby)
    rw [eq, eq', ite_self] at ae eu link slot
    rw [slot_enter_discard, slot_replied, policy_replied] at slot
    rw [link_discard, link_enter, link_replied] at link
    rw [State.discard_ae, State.enter_ae, replied_ae] at ae
    refine ⟨around, ae, link, eu, fun current arriving restated effClass => ?_, slot⟩
    rw [SlotRec.listless_of_idle (r := (s.slot i).restored) standby current arriving restated effClass] at slot
    exact slot
  · have offered_g : ((s.replied i x r).slot i).offered = some o := by rw [slot_replied]; exact offered
    have decline : (s.replied i x r).onRelease i = (s.replied i x r).declineOffer i o .released := by
      simp only [State.onRelease, state_g, offering, offered_g]
    rw [if_pos release, decline] at ae eu link slot
    rw [slot_declineOffer, slot_replied, policy_replied] at slot
    rw [link_declineOffer, link_replied, LinkRec.goodReply_withdraw] at link
    rw [declineOffer_ae, replied_ae] at ae
    exact ⟨around, ae, link, eu, slot⟩
  · have gone : (s.replied i x r).onIdle i = (s.replied i x r).resyncIdle i := by
      simp only [State.onIdle, state_g, resync]
    rw [if_neg (by simp [idle]), gone] at ae eu link slot
    rw [slot_resyncIdle, slot_replied, policy_replied] at slot
    rw [link_resyncIdle, link_replied, LinkRec.cut_goodReply] at link
    rw [resyncIdle_ae, replied_ae] at ae
    rw [resyncIdle_eu, replied_eu, policy_replied] at eu
    exact ⟨around, ae, enHigh_false slot rfl, link, eu, slot⟩

/-! ### RESTATE-MAP -/

section
variable {s : State} {i : SlotId} {m : Option Offered} {rest : List (Option Offered)}

theorem nextMap_eq (requests : (s.slot i).mapRequests = m :: rest) :
    s.nextMap i = (s.modSlot i fun r => { r with mapRequests := rest }).takeMap i m := by
  simp only [State.nextMap, requests]

/-- A request in any state but POWERED with a pending list is discarded (R55). -/
theorem takeMap_discarded (other : (s.slot i).state ≠ .powered ∨ (s.slot i).restated = none) : s.takeMap i m = s := by
  unfold State.takeMap
  split
  next state restated => rcases other with h | h <;> simp_all
  next => rfl

variable {l : DemandList}

theorem takeMap_none (powered : (s.slot i).state = .powered) (pending : (s.slot i).restated = some l) :
    s.takeMap i none = (s.modSlot i fun r => { r with restated := none }).refuse i := by
  simp only [State.takeMap, powered, pending]

theorem takeMap_some {o : Offered} {p : Point} (powered : (s.slot i).state = .powered)
    (pending : (s.slot i).restated = some l) (point : l.point o.index = some p) :
    s.takeMap i (some o) = (s.modSlot i fun r => { r with
      state := .restating, offered := some { index := o.index, power := o.power, tag := p.tag } }).linkRequest i
        (.offer o.index o.power p.tag true) := by
  simp only [State.takeMap, powered, pending, point, Option.map_some, Option.getD_some]

end

/-- Settles O39: the oldest request, by the state that takes it. -/
theorem restateMapOffersTheMappedPoint : Obligations.RestateMapOffersTheMappedPoint := by
  intro s i m rest up requests
  obtain ⟨t, run, around, ae, eu, link, slot⟩ := atSlot_happening (i := i) (fun s => s.nextMap i) up (by simp)
  rw [nextMap_eq (s := s.elapse) requests] at ae eu link slot
  generalize hu : (s.elapse.modSlot i fun r => { r with mapRequests := rest }) = u at ae eu link slot
  have slot_u : u.slot i = { s.slot i with mapRequests := rest } := by rw [← hu]; exact slot_modSlot_same ..
  have link_u : u.link i = s.link i := by rw [← hu]; rfl
  have ae_u : u.ae = s.ae := by rw [← hu]; rfl
  have eu_u : u.eu = s.elapse.eu := by rw [← hu]; rfl
  have limit_u : u.retryLimit = s.cu.settings.retryLimit := by rw [← hu]; rfl
  have ae_t : (u.takeMap i m).ae = u.ae := by
    unfold State.takeMap
    split
    · split <;> rfl
    · rfl
  refine ⟨t, run, around, (ae.trans ae_t).trans ae_u, fun l pending powered => ⟨fun o some_ p point => ?_, fun none_ => ?_⟩,
    fun other => ?_⟩
  · have powered_u : (u.slot i).state = .powered := by rw [slot_u]; exact powered
    have pending_u : (u.slot i).restated = some l := by rw [slot_u]; exact pending
    rw [some_, takeMap_some powered_u pending_u point] at eu link slot
    rw [slot_linkRequest, slot_modSlot_same, slot_u] at slot
    rw [link_linkRequest, link_modSlot, link_u] at link
    have limit : (u.modSlot i fun r => { r with
        state := .restating, offered := some { index := o.index, power := o.power, tag := p.tag } }).retryLimit =
        s.cu.settings.retryLimit := limit_u
    rw [limit] at link
    have turn : Frame.offer o.index o.power p.tag true ≠ .poll := nofun
    refine ⟨slot, eu.trans eu_u, fun serves free => ?_, fun serves busy => ?_⟩
    · rw [link, LinkRec.request_asked serves turn, LinkRec.asked, if_neg (by simp [free])]
    · rw [link, LinkRec.request_asked serves turn, LinkRec.asked, if_pos busy]
  · have powered_u : (u.slot i).state = .powered := by rw [slot_u]; exact powered
    have pending_u : (u.slot i).restated = some l := by rw [slot_u]; exact pending
    rw [none_, takeMap_none powered_u pending_u] at eu link slot
    rw [slot_refuse, slot_modSlot_same, slot_u] at slot
    rw [link_refuse, link_modSlot, link_u] at link
    rw [refuse_eu, slot_modSlot_same, slot_u, State.modSlot_eu, eu_u] at eu
    refine ⟨slot, ?_, fun serves => by rw [link, LinkRec.ask, if_neg serves]⟩
    rw [eu]
    simp only [powered]
    rfl
  · rw [takeMap_discarded (by rw [slot_u]; exact other)] at eu link slot
    rw [slot_u] at slot
    exact ⟨slot, link.trans link_u, eu.trans eu_u⟩

end Sys2Proof.Machine
end

section
/-! Notices that the AE takes while it makes no decision (chapters 1, 5, 6 and 11): the account alone moves. -/

namespace Sys2Proof.Machine

/-! ### The happening of a notice -/

theorem running_of_cu {s t : State} (same : t.cu = s.cu) : t.running = s.running := by
  have cmds (u : Fin 4) : t.cmd u = s.cmd u := by rw [State.cmd, State.cmd, same]
  simp only [State.running, cmds]

/-- The state after one input's passing time, slot `i`'s oldest notice taken out of its outbox. -/
def State.taken (s : State) (i : SlotId) (rest : List Notice) : State :=
  s.elapse.modSlot i fun r => { r with outbox := rest }

section
variable (s : State) (i : SlotId) (rest : List Notice)

@[simp] theorem slot_taken : (s.taken i rest).slot i = { s.slot i with outbox := rest } := by
  rw [State.taken, slot_modSlot_same, slot_elapse]
theorem slot_taken_other {j : SlotId} (other : j ≠ i) : (s.taken i rest).slot j = s.slot j := by
  rw [State.taken, slot_modSlot_other _ _ other, slot_elapse]
@[simp] theorem entry_taken (j : SlotId) : (s.taken i rest).entry j = s.entry j := rfl
@[simp] theorem policy_taken (j : SlotId) : (s.taken i rest).policy j = s.policy j := rfl
@[simp] theorem link_taken (j : SlotId) : (s.taken i rest).link j = s.link j := rfl
@[simp] theorem taken_links : (s.taken i rest).links = s.links := rfl
@[simp] theorem taken_ae : (s.taken i rest).ae = s.ae := rfl
@[simp] theorem taken_cu : (s.taken i rest).cu = s.cu := rfl
@[simp] theorem taken_eu : (s.taken i rest).eu = s.elapse.eu := rfl
@[simp] theorem taken_inputs : (s.taken i rest).inputs = s.inputs := rfl

/-- A slot record's field that no notice touches. -/
theorem taken_keeps {α : Type} (f : SlotRec → α) (outbox : ∀ r l, f { r with outbox := l } = f r) (j : SlotId) :
    f ((s.taken i rest).slot j) = f (s.slot j) := by
  by_cases same : j = i
  · rw [same, slot_taken, outbox]
  · rw [slot_taken_other s i rest same]

theorem taken_frame : EngineFrame s.elapse (s.taken i rest) := by simp [State.taken]

end

theorem sameHost_elapse {s t : State} (frame : EngineFrame s.elapse t) : sameHost s t := frame.host

section
variable {s : State} {i : SlotId} {n : Notice} {rest : List Notice} {kind : Notice → Bool}
  (high : s.resetLow = false) (oldest : (s.slot i).outbox = n :: rest) (asked : kind n = true)
include high oldest asked

/-- A notice's whole happening where no policy step waits (R10). -/
theorem notice_relayed : happening (State.noticeOf kind i) s =
    .next ((((s.taken i rest).aeNotice i n).excessExit s.ae.excess).relay n |>.policyDue i) := by
  have popped : s.elapse.popNotice i = s.taken i rest := by
    rw [State.popNotice, State.taken, State.modSlot, State.modSlot]
    have tail_eq : (s.elapse.slots[i.val]).outbox.tail = rest := by
      show (s.slot i).outbox.tail = rest
      rw [oldest, List.tail_cons]
    simp only [updateAt, tail_eq]
  rw [happening_running _ high, State.noticeOf, slot_elapse, oldest]
  simp only [asked, if_true, popped, State.elapse_ae]

/-- Where no command runs, either, and the notice answers none, only the AE acts on it. -/
theorem notice_happening (unwaited : s.cu.policyWait = []) (other : ∀ k num r d, n ≠ .answer k num r d) (idle : s.running = none) :
    happening (State.noticeOf kind i) s = .next ((s.taken i rest).aeNotice i n) := by
  have frame : EngineFrame s.elapse ((s.taken i rest).aeNotice i n) :=
    (taken_frame s i rest).trans (by simp)
  have cu_eq : ((s.taken i rest).aeNotice i n).cu = s.cu := frame.2.2.2.1
  rw [notice_relayed high oldest asked, State.excessExit, running_of_cu cu_eq, idle]
  have relayed (t : State) : t.relay n = t := by
    cases n with
    | answer k num r d => exact absurd rfl (other k num r d)
    | _ => rfl
  rw [relayed, State.policyDue, cu_eq, unwaited, List.foldl_nil]

end

/-! ### The account where nothing is to be decided -/

theorem aeSettled_of_calm {s : State} (idle : s.ae.reclaim.active = false) (calm : s.ae.excess = false) : aeSettled s :=
  ⟨fun _ => .inl calm, fun active => absurd active (by rw [idle]; exact Bool.false_ne_true)⟩

/-- HOLD keeps a settled account as it is, whatever caused a pass (R101). -/
theorem State.aeRules_held {s : State} (due : Bool) (hold : s.ae.hold = true) (settled : aeSettled s) :
    s.aeRules due = s := by
  simp [State.aeRules, State.endTests_settled settled, State.budgetTrigger_settled settled, hold]

theorem judgeNotice_idle {s : State} (i : SlotId) (n : Notice) (c : Nat) (idle : s.ae.reclaim.active = false) :
    s.judgeNotice i n c = s := by
  rw [State.judgeNotice, Reclaim.judge, if_neg (by rw [idle]; exact Bool.false_ne_true)]

theorem resyncConcludes_other {s : State} {i : SlotId} (n : Notice) (other : (s.entry i).resync = false) :
    s.resyncConcludes i n = s := by
  simp [State.resyncConcludes, other]

theorem resyncConcludes_unheld {s : State} {i : SlotId} {n : Notice} (unheld : n.holding = none) :
    s.resyncConcludes i n = s := by
  simp [State.resyncConcludes, unheld]

theorem modEntry_modEntry (s : State) (i : SlotId) (f g : AeSlot → AeSlot) :
    (s.modEntry i f).modEntry i g = s.modEntry i fun e => g (f e) := by
  simp only [State.modEntry, updateAt, Vector.getElem_set_self, Vector.set_set]

/-- A claim that does not rise does not raise committed. -/
theorem committed_modEntry_le (s : State) (i : SlotId) (f : AeSlot → AeSlot)
    (falls : (f (s.entry i)).claim ≤ (s.entry i).claim) : (s.modEntry i f).ae.committed ≤ s.ae.committed := by
  have := committed_modEntry s i f
  omega

/-- With committed within EB and no excess kept, an evaluation changes nothing. -/
theorem evalExcess_calm {s : State} (calm : s.ae.excess = false) (within : s.ae.committed ≤ s.ae.effective) :
    s.evalExcess = s :=
  evalExcess_idle (by rw [State.excessRight, calm]; simpa using within)

/-- An AE entry after a nonzero holding (R5, R6). -/
def AeSlot.holding (e : AeSlot) (h : Nat) : AeSlot :=
  { e with confirmed := h, claim := if e.mark = .raise then e.claim else h }

/-- An AE entry whose claim is freed (R5). -/
def AeSlot.freed (e : AeSlot) : AeSlot := { e with claim := 0, confirmed := 0, mark := .none, restating := false }

theorem AeSlot.holding_claim_le {e : AeSlot} {h : Nat} (within : h ≤ e.claim) : (e.holding h).claim ≤ e.claim := by
  unfold AeSlot.holding
  dsimp only
  split <;> omega

/-- One AE entry and the grant order list given anew. -/
def State.booked (s : State) (i : SlotId) (f : AeSlot → AeSlot) (grants : List SlotId) : State :=
  { s with ae := { s.ae with slots := updateAt s.ae.slots i f, grantOrder := grants } }

theorem modEntry_booked (s : State) (i : SlotId) (f : AeSlot → AeSlot) :
    s.modEntry i f = s.booked i f s.ae.grantOrder := rfl

section
variable {s : State} {i : SlotId} {h : Nat} (calm : s.ae.excess = false) (within : s.ae.committed ≤ s.ae.effective)
include calm within

/-- A claim that does not rise brings no excess. -/
theorem evalExcess_fall (f : AeSlot → AeSlot) (falls : (f (s.entry i)).claim ≤ (s.entry i).claim) :
    (s.modEntry i f).evalExcess = s.modEntry i f :=
  evalExcess_calm calm ((committed_modEntry_le s i f falls).trans within)

/-- A nonzero holding within the claim. -/
theorem takeHolding_within (nonzero : h ≠ 0) (lower : h ≤ (s.entry i).claim) :
    s.takeHolding i h = s.modEntry i (·.holding h) := by
  rw [State.takeHolding, if_neg nonzero]
  exact evalExcess_fall calm within (·.holding h) (AeSlot.holding_claim_le lower)

theorem takeHolding_zero : s.takeHolding i 0 = s.booked i AeSlot.freed (s.ae.grantOrder.filter (· != i)) := by
  rw [State.takeHolding, if_pos rfl]
  exact evalExcess_calm calm ((committed_modEntry_le s i AeSlot.freed (Nat.zero_le _)).trans within)

theorem takeAnswer_within (nonzero : h ≠ 0) (lower : h ≤ (s.entry i).claim) :
    s.takeAnswer i h = s.modEntry i fun e => AeSlot.holding { e with mark := .none } h := by
  have unmarked : (s.modEntry i fun e => { e with mark := .none }).ae.committed ≤ s.ae.effective :=
    (committed_modEntry_le s i _ le_rfl).trans within
  rw [State.takeAnswer, takeHolding_within (s := s.modEntry i fun e => { e with mark := .none }) calm unmarked nonzero (by rw [entry_modEntry_same]; exact lower),
    modEntry_modEntry]

theorem takeAnswer_zero : s.takeAnswer i 0 = s.booked i AeSlot.freed (s.ae.grantOrder.filter (· != i)) := by
  have unmarked : (s.modEntry i fun e => { e with mark := .none }).ae.committed ≤ s.ae.effective :=
    (committed_modEntry_le s i _ le_rfl).trans within
  rw [State.takeAnswer, takeHolding_zero (s := s.modEntry i fun e => { e with mark := .none }) calm unmarked]
  simp only [State.booked, State.modEntry, updateAt, Vector.getElem_set_self, Vector.set_set]
  rfl

end

/-! ### Notices under HOLD -/

section
variable {s : State} {i : SlotId} {n : Notice} {rest : List Notice} {kind : Notice → Bool} {u : State}
  (high : s.resetLow = false) (still : aeStill s) (oldest : (s.slot i).outbox = n :: rest) (asked : kind n = true)
  (other : ∀ k num r d, n ≠ .answer k num r d)
include high still oldest asked other

/-- A notice taken under HOLD with no reclaim active: the account after it, and no decision, where it brings no
excess. -/
theorem still_account (account : (s.taken i rest).account i n = u) (hold : u.ae.hold = true)
    (idle : u.ae.reclaim.active = false) (calm : u.ae.excess = false) :
    happening (State.noticeOf kind i) s = .next u := by
  obtain ⟨-, -, -, -, unwaited, none_runs⟩ := still
  rw [notice_happening high oldest asked unwaited other none_runs, State.aeNotice]
  rw [account, State.aeRules_held _ hold (aeSettled_of_calm idle calm)]

end

/-! ### NOTED (R120, R126) -/

section
variable {s : State} {i : SlotId}

/-- NOTED in REDUCING turns follow-up polling on and tells the AE, ... -/
theorem onNoted_first (state : (s.slot i).state = .reducing) (unpolled : (s.link i).followUp = false) :
    s.onNoted i = (s.modLink i (·.polling true)).notify i .noted := by
  simp [State.onNoted, state, unpolled]

/-- ... once. -/
theorem onNoted_again (polled : (s.link i).followUp = true) : s.onNoted i = s := by
  simp [State.onNoted, polled]

end

/-- What a happening at slot `i` that takes NOTED leaves. -/
theorem noted_ends {s t : State} {i : SlotId} {x : Exchange} {r : Reply} (reducing : (s.slot i).state = .reducing)
    (ends : endsAs i s ((s.replied i x r).onNoted i) t) :
    aroundSlot i s t ∧ t.ae = s.ae ∧ t.eu = (s.elapse.linkGood i x r).eu ∧
      ((s.link i).followUp = false →
        t.link i = { (s.link i).goodReply x r with followUp := true } ∧
        afterWatch (s.policy i).maxPower ((s.slot i).restored.sending .noted) (t.slot i)) ∧
      ((s.link i).followUp = true →
        t.link i = (s.link i).goodReply x r ∧ afterWatch (s.policy i).maxPower (s.slot i).restored (t.slot i)) := by
  obtain ⟨around, ae, eu, link, slot⟩ := ends
  have state_g : ((s.replied i x r).slot i).state = .reducing := by rw [slot_replied]; exact reducing
  have followUp_g : ((s.replied i x r).link i).followUp = (s.link i).followUp := by rw [link_replied]; rfl
  rw [onNoted_ae, replied_ae] at ae
  refine ⟨around, ae, ?_, fun unpolled => ?_, fun polled => ?_⟩
  · cases polls : (s.link i).followUp
    · rw [eu, onNoted_first state_g (followUp_g.trans polls)]
      rfl
    · rw [eu, onNoted_again (followUp_g.trans polls)]
      rfl
  · rw [onNoted_first state_g (followUp_g.trans unpolled)] at link slot
    rw [slot_notify, slot_modLink, slot_replied] at slot
    rw [link_notify, link_modLink_same, link_replied] at link
    exact ⟨by rw [link]; simp [LinkRec.polling], slot⟩
  · rw [onNoted_again (followUp_g.trans polled)] at link slot
    rw [slot_replied] at slot
    rw [link_replied] at link
    exact ⟨link, slot⟩

/-- The NOTED notice leaves the account as it is. -/
theorem account_noted {s : State} {i : SlotId} (idle : s.ae.reclaim.active = false) : s.account i .noted = s := by
  rw [State.account, resyncConcludes_unheld rfl, judgeNotice_idle _ _ _ (by exact idle)]
  rfl

/-- Settles O36: NOTED at the slot, in both replies that bring it, and its notice at the AE. -/
theorem notedKeepsReducing : Obligations.NotedKeepsReducing := by
  intro s i status index x rest
  refine ⟨fun aw reducing => ⟨fun allowed => ?_, fun a p reduce held some_d some_l => ?_, fun poll held => ?_⟩,
    fun high still oldest => ?_⟩
  · obtain ⟨t, run, ends⟩ :=
      reply_happening { kind := .noted, status := status, payload := [] } aw allowed rfl (Nat.zero_le 21)
    exact ⟨t, run, noted_ends reducing ends⟩
  · obtain ⟨d, reduction⟩ := Option.isSome_iff_exists.mp some_d
    obtain ⟨l, current⟩ := Option.isSome_iff_exists.mp some_l
    obtain ⟨t, run, ends⟩ := reply_happening { kind := .reduced, status := status, payload := [index] } aw
      (by rw [reduce]; rfl) rfl (Nat.le_add_left 1 20)
    generalize hr : ({ kind := .reduced, status := status, payload := [index] } : Reply) = r at ends ⊢
    have taken : (s.elapse.linkGood i x r).onReply i x.frame r = (s.replied i x r).onNoted i := by
      have replied : (s.elapse.linkGood i x r).onReply i x.frame r =
          (s.replied i x r).onReduced i (x.frame.code == 4) index.toNat := by rw [← hr]; rfl
      rw [replied, onReduced_held (d := d) (l := l) (by rw [slot_replied]; exact reducing)
        (by rw [slot_replied]; exact reduction) (by rw [slot_replied]; exact current) (by rw [slot_replied]; exact held),
        reduce]
      rfl
    rw [taken] at ends
    exact ⟨t, run, noted_ends reducing ends⟩
  · obtain ⟨t, run, around, ae, eu, link, slot⟩ := reply_happening
      { kind := .reduced, status := status, payload := [index] } aw (by rw [poll]; rfl) rfl (Nat.le_add_left 1 20)
    generalize hr : ({ kind := .reduced, status := status, payload := [index] } : Reply) = r at ae eu link slot ⊢
    have taken : (s.elapse.linkGood i x r).onReply i x.frame r = s.replied i x r := by
      have replied : (s.elapse.linkGood i x r).onReply i x.frame r =
          (s.replied i x r).onReduced i (x.frame.code == 4) index.toNat := by rw [← hr]; rfl
      rw [replied, poll]
      cases some_d : (s.slot i).reduction with
      | none => simp only [State.onReduced, slot_replied, SlotRec.restored, reducing, some_d]
      | some d =>
        cases some_l : (s.slot i).current with
        | none => simp only [State.onReduced, slot_replied, SlotRec.restored, reducing, some_d, some_l]
        | some l =>
          rw [onReduced_held (d := d) (l := l) (by rw [slot_replied]; exact reducing)
            (by rw [slot_replied]; exact some_d) (by rw [slot_replied]; exact some_l) (by rw [slot_replied]; exact held)]
          rfl
    rw [taken] at ae eu link slot
    rw [slot_replied] at slot
    rw [link_replied] at link
    rw [replied_ae] at ae
    exact ⟨t, run, around, ae, eu, link, slot⟩
  · obtain ⟨hold, idle, calm, -⟩ := id still
    refine ⟨_, still_account high still oldest (by rfl) nofun (account_noted idle) hold idle calm, ⟨sameHost_elapse (taken_frame s i rest), fun j => slot_taken_other s i rest, rfl, rfl⟩, rfl, rfl,
      slot_taken s i rest⟩


/-! ### Holdings (R5) -/

section
variable {s : State} {i : SlotId} {f : AeSlot → AeSlot} {grants : List SlotId}

@[simp] theorem entry_booked : (s.booked i f grants).entry i = f (s.entry i) := updateAt_same _ _ _
theorem entry_booked_other {j : SlotId} (other : j ≠ i) : (s.booked i f grants).entry j = s.entry j :=
  updateAt_other _ _ other
@[simp] theorem slot_booked (j : SlotId) : (s.booked i f grants).slot j = s.slot j := rfl

theorem booked_booked (g : AeSlot → AeSlot) (grants' : List SlotId) :
    (s.booked i f grants).booked i g grants' = s.booked i (fun e => g (f e)) grants' := by
  simp only [State.booked, updateAt, Vector.getElem_set_self, Vector.set_set]

theorem joinTail_booked (claimed : (f (s.entry i)).claim ≠ 0) :
    (s.booked i f grants).joinTail i = s.booked i f (grants.filter (· != i) ++ [i]) := by
  rw [State.joinTail, State.joinGrants, entry_booked, if_neg claimed]
  rfl

theorem joinBySlot_booked (claimed : (f (s.entry i)).claim ≠ 0) :
    (s.booked i f grants).joinBySlot i = s.booked i f (insertBySlot i (grants.filter (· != i))) := by
  rw [State.joinBySlot, State.joinGrants, entry_booked, if_neg claimed]
  rfl

/-- What stands around one AE entry and the grant order list, at a notice. -/
theorem aroundNotice_booked (s : State) (i : SlotId) (rest : List Notice) (f : AeSlot → AeSlot)
    (grants : List SlotId) : aroundNotice i s ((s.taken i rest).booked i f grants) :=
  ⟨sameHost_elapse (taken_frame s i rest), fun _ => slot_taken_other s i rest, rfl, rfl⟩

end

section
variable {s : State} {i : SlotId} {h : Nat} (calm : s.ae.excess = false)
  (within : s.ae.committed ≤ s.ae.effective) (nonzero : h ≠ 0) (lower : h ≤ (s.entry i).claim)
include calm within nonzero lower

theorem takeNotice_answered (n : Notice) (answer : n = .accepted .offer h ∨ n = .accepted .raise h) :
    s.takeNotice i n = s.booked i (fun e => AeSlot.holding { e with mark := .none } h)
      (s.ae.grantOrder.filter (· != i) ++ [i]) := by
  have joined : s.takeNotice i n = (s.takeAnswer i h).joinTail i := by rcases answer with rfl | rfl <;> rfl
  rw [joined, takeAnswer_within calm within nonzero lower, modEntry_booked, joinTail_booked nonzero]

theorem takeNotice_declinedRaise : s.takeNotice i (.declined .raise h) =
    s.booked i (fun e => AeSlot.holding { e with mark := .none } h) s.ae.grantOrder :=
  takeAnswer_within calm within nonzero lower

theorem takeNotice_restated (n : Notice) (ends : n = .accepted .mapping h ∨ n = .reduced h) :
    s.takeNotice i n = s.booked i (fun e => { e.holding h with restating := false }) s.ae.grantOrder := by
  have restated : s.takeNotice i n = (s.takeHolding i h).modEntry i fun e => { e with restating := false } := by
    rcases ends with rfl | rfl
    · rfl
    · exact if_neg nonzero
  rw [restated, takeHolding_within calm within nonzero lower, modEntry_modEntry, modEntry_booked]

theorem takeNotice_powered (left : (s.entry i).resync = false) : s.takeNotice i (.powered h) =
    s.booked i (·.holding h) s.ae.grantOrder := by
  show s.takePowered i h = _
  simp only [State.takePowered, left, Bool.false_eq_true, if_false]
  exact takeHolding_within calm within nonzero lower

end

/-- The account after a notice of a slot that is not in RESYNC, with no reclaim active. -/
theorem account_booked {s : State} {i : SlotId} {n : Notice} {f : AeSlot → AeSlot} {grants : List SlotId}
    (idle : s.ae.reclaim.active = false) (left : (f (s.entry i)).resync = false)
    (taken : s.takeNotice i n = s.booked i f grants) : s.account i n = s.booked i f grants := by
  rw [State.account, taken, judgeNotice_idle _ _ _ (by exact idle), resyncConcludes_other _ (by rw [entry_booked]; exact left)]

/-- Settles O41: the entry and the grant order list that each notice leaves. -/
theorem holdingNoticesSetTheClaim : Obligations.HoldingNoticesSetTheClaim := by
  intro s i n h rest c high still oldest left nonzero lower which
  obtain ⟨hold, idle, calm, within, -⟩ := id still
  have ended {kind : Notice → Bool} {f : AeSlot → AeSlot} {grants : List SlotId} (asked : kind n = true)
      (other : ∀ k num r d, n ≠ .answer k num r d) (stays : (f (s.entry i)).resync = false)
      (taken : (s.taken i rest).takeNotice i n = (s.taken i rest).booked i f grants) :=
    still_account high still oldest asked other (account_booked idle stays taken) hold idle calm
  have shape {f : AeSlot → AeSlot} {grants : List SlotId} :
      ((s.taken i rest).booked i f grants).ae =
        { s.ae with slots := ((s.taken i rest).booked i f grants).ae.slots, grantOrder := grants } := rfl
  rcases which with ⟨rfl, rfl⟩ | ⟨rfl, rfl⟩ | ⟨rfl, rfl⟩ | ⟨rfl, rfl⟩ | ⟨rfl, rfl⟩ | ⟨rfl, rfl⟩
  · refine ⟨_, ended (by rfl) nofun left (takeNotice_answered (s := s.taken i rest) calm within nonzero lower _ (.inl rfl)),
      aroundNotice_booked .., rfl, slot_taken s i rest, fun j => entry_booked_other, ?_⟩
    rw [entry_booked, shape]
    simp [AeSlot.holding, left]
  · refine ⟨_, ended (by rfl) nofun left (takeNotice_answered (s := s.taken i rest) calm within nonzero lower _ (.inr rfl)),
      aroundNotice_booked .., rfl, slot_taken s i rest, fun j => entry_booked_other, ?_⟩
    rw [entry_booked, shape]
    simp [AeSlot.holding, left]
  · refine ⟨_, ended (by rfl) nofun left (takeNotice_restated (s := s.taken i rest) calm within nonzero lower _ (.inl rfl)),
      aroundNotice_booked .., rfl, slot_taken s i rest, fun j => entry_booked_other, ?_⟩
    rw [entry_booked, shape]
    simp +contextual [AeSlot.holding, left]
  · refine ⟨_, ended (by rfl) nofun left (takeNotice_declinedRaise (s := s.taken i rest) calm within nonzero lower),
      aroundNotice_booked .., rfl, slot_taken s i rest, fun j => entry_booked_other, ?_⟩
    rw [entry_booked, shape]
    simp [AeSlot.holding, left]
  · refine ⟨_, ended (by rfl) nofun left (takeNotice_restated (s := s.taken i rest) calm within nonzero lower _ (.inr rfl)),
      aroundNotice_booked .., rfl, slot_taken s i rest, fun j => entry_booked_other, ?_⟩
    rw [entry_booked, shape]
    simp +contextual [AeSlot.holding, left]
  · refine ⟨_, ended (by rfl) nofun left (takeNotice_powered (s := s.taken i rest) calm within nonzero lower left),
      aroundNotice_booked .., rfl, slot_taken s i rest, fun j => entry_booked_other, ?_⟩
    rw [entry_booked, shape]
    simp +contextual [AeSlot.holding, left]


/-! ### The end of the RESYNC period (R199) -/

/-- A property that some AE entry has. -/
theorem any_entries_iff (a : Ae) (p : AeSlot → Bool) :
    a.slots.toList.any p = true ↔ ∃ j : SlotId, p a.slots[j.val] = true := by
  simp only [List.any_eq_true, Vector.mem_toList_iff, Vector.mem_iff_getElem]
  constructor
  · rintro ⟨e, ⟨k, inside, rfl⟩, holds⟩
    exact ⟨⟨k, inside⟩, holds⟩
  · rintro ⟨j, holds⟩
    exact ⟨_, ⟨j.val, j.isLt, rfl⟩, holds⟩

/-- The account after the last POWERED of the RESYNC period. -/
def State.resynced (s : State) (i : SlotId) (h : Nat) : State :=
  let t := s.booked i (fun e => { e.holding h with resync := false }) (insertBySlot i (s.ae.grantOrder.filter (· != i)))
  { t with ae := { t.ae with resyncActive := false, resyncPowered := s.ae.resyncPowered + 1 } }

theorem account_lastPowered {s : State} {i : SlotId} {h : Nat} (idle : s.ae.reclaim.active = false)
    (calm : s.ae.excess = false) (within : s.ae.committed ≤ s.ae.effective) (nonzero : h ≠ 0)
    (lower : h ≤ (s.entry i).claim) (unmarked : (s.entry i).mark = .none) (period : s.ae.resyncActive = true)
    (inside : (s.entry i).resync = true) (last : ∀ j, j ≠ i → (s.entry j).resync = false) :
    s.account i (.powered h) = (s.resynced i h).event .resyncDone none (s.ae.resyncPowered + 1)
      (s.resynced i h).ae.committed := by
  have claimed : ((s.entry i).holding h).claim ≠ 0 := by simpa [AeSlot.holding, unmarked] using nonzero
  have taken : s.takeNotice i (.powered h) =
      { s.booked i (·.holding h) (insertBySlot i (s.ae.grantOrder.filter (· != i))) with
        ae := { (s.booked i (·.holding h) (insertBySlot i (s.ae.grantOrder.filter (· != i)))).ae with
          resyncPowered := s.ae.resyncPowered + 1 } } := by
    show s.takePowered i h = _
    simp only [State.takePowered, inside, if_true]
    rw [takeHolding_within calm within nonzero lower, modEntry_booked, joinBySlot_booked claimed]
    rfl
  rw [State.account, taken, judgeNotice_idle _ _ _ (by exact idle)]
  generalize counted : State.mk .. = t
  have entry_t (j : SlotId) : t.entry j = (s.booked i (·.holding h)
      (insertBySlot i (s.ae.grantOrder.filter (· != i)))).entry j := by rw [← counted]; rfl
  have concluded : (t.modEntry i fun e => { e with resync := false }).ae.slots.toList.any AeSlot.resync = false := by
    rw [Bool.eq_false_iff, ne_eq, any_entries_iff]
    rintro ⟨j, still⟩
    have still : ((t.modEntry i fun e => { e with resync := false }).entry j).resync = true := still
    by_cases same : j = i
    · rw [same, entry_modEntry_same] at still
      cases still
    · rw [entry_modEntry_other _ _ same, entry_t, entry_booked_other same, last j same] at still
      cases still
  have in_resync : (t.entry i).resync = true := by rw [entry_t, entry_booked]; exact inside
  have active_t : (t.modEntry i fun e => { e with resync := false }).ae.resyncActive = true := by
    rw [← counted]; exact period
  have same : (t.modEntry i fun e => { e with resync := false }) =
      { s.resynced i h with ae := { (s.resynced i h).ae with resyncActive := true } } := by
    rw [← counted]
    simp only [State.resynced, State.booked, State.modEntry, updateAt, Vector.getElem_set_self, Vector.set_set, period]
  have ended : t.resyncConcludes i (.powered h) =
      ({ t.modEntry i (fun e => { e with resync := false }) with
        ae := { (t.modEntry i fun e => { e with resync := false }).ae with resyncActive := false } } : State).event
        .resyncDone none (t.modEntry i fun e => { e with resync := false }).ae.resyncPowered
          (t.modEntry i fun e => { e with resync := false }).ae.committed := by
    simp only [State.resyncConcludes, in_resync, Notice.holding, Option.isSome_some, Bool.and_true, if_true, active_t,
      concluded, Bool.not_false]
  rw [ended, same]
  rfl

/-- Settles O44: the account and RESYNC_DONE of the last notice. -/
theorem lastNoticeEndsResync : Obligations.LastNoticeEndsResync := by
  intro s i h rest high still oldest period inside last unmarked nonzero lower
  obtain ⟨hold, idle, calm, within, -⟩ := id still
  refine ⟨_, still_account high still oldest (by rfl) nofun (account_lastPowered (s := s.taken i rest) idle calm within
    nonzero lower unmarked period inside last) hold idle calm,
    ⟨sameHost_elapse ((taken_frame s i rest).trans (by simp [EngineFrame, State.resynced, State.booked])),
      fun j => slot_taken_other s i rest, rfl, rfl⟩, slot_taken s i rest, ?_, fun j other => ?_, rfl, rfl⟩
  · refine (updateAt_same _ _ _).trans ?_
    show { (s.entry i).holding h with resync := false } = _
    simp [AeSlot.holding, unmarked]
  · exact updateAt_other _ _ other


/-! ### An ANSWER at the CU (R142) -/

theorem startNext_unqueued {s : State} (unqueued : ∀ u, (s.cmd u).state ≠ .queued) : s.startNext = s := by
  have nothing : s.nextQueued = none := by
    simp only [State.nextQueued, List.find?_eq_none, Bool.and_eq_true, beq_iff_eq, not_and]
    exact fun u _ queued => absurd queued (unqueued u)
  unfold State.startNext State.cuRun
  split
  · rfl
  · rw [nothing]

theorem conclude_cmd (s : State) (k u : Fin 4) (r : CmdResult) (d : Byte) : (s.conclude k r d).cmd u =
    if u = k then { s.cmd u with state := r.concludes, result := r, detail := d } else s.cmd u := by
  rw [State.conclude, cmd_event, cmd_modCmd]

theorem account_answer {s : State} {i : SlotId} {k : Fin 4} {num d : Byte} {r : CmdResult}
    (idle : s.ae.reclaim.active = false) : s.account i (.answer k num r d) = s := by
  rw [State.account, resyncConcludes_unheld rfl, judgeNotice_idle _ _ _ (by exact idle)]
  rfl

theorem CmdResult.concludes_ne_queued (r : CmdResult) : r.concludes ≠ .queued := by cases r <;> decide

theorem cmd_taken (s : State) (i : SlotId) (rest : List Notice) (u : Fin 4) : (s.taken i rest).cmd u = s.cmd u := rfl

/-- Settles O45: the ANSWER relayed, by whether the command it names still runs. -/
theorem answerConcludesTheCommand : Obligations.AnswerConcludesTheCommand := by
  intro s i k num r d rest high hold idle calm unwaited oldest unqueued
  have passed : (s.taken i rest).aeNotice i (.answer k num r d) = s.taken i rest := by
    rw [State.aeNotice, account_answer (by exact idle), State.aeRules_held (s := s.taken i rest) _ hold (aeSettled_of_calm idle calm)]
  have unexited : (s.taken i rest).excessExit s.ae.excess = s.taken i rest := by
    unfold State.excessExit
    split
    · simp [calm]
    · rfl
  have undue (t : State) (same : t.cu.policyWait = s.cu.policyWait) : t.policyDue i = t := by
    rw [State.policyDue, same, unwaited, List.foldl_nil]
  refine ⟨_, notice_relayed high oldest (by rfl), ?_⟩
  rw [passed, unexited]
  by_cases runs : (s.cmd k).state = .running ∧ (s.cmd k).num = num
  · have concluded : (s.taken i rest).relay (.answer k num r d) = (s.taken i rest).conclude k r d := by
      have matching : (s.taken i rest).runs k num = true := by simp [State.runs, cmd_taken, runs]
      refine (if_pos matching).trans (startNext_unqueued fun u => ?_)
      rw [conclude_cmd]
      split
      · exact r.concludes_ne_queued
      · exact unqueued u
    rw [concluded, undue ((s.taken i rest).conclude k r d) rfl]
    refine ⟨slot_taken s i rest, fun j => slot_taken_other s i rest, rfl, rfl, rfl, rfl, rfl, rfl,
      fun _ _ _ => ⟨?_, fun u other => ?_, rfl, rfl⟩, fun other => ?_⟩
    · rw [conclude_cmd, if_pos rfl, cmd_taken]
    · rw [conclude_cmd, if_neg other, cmd_taken]
    · rcases other with h | h
      · exact absurd runs.1 h
      · exact absurd runs.2 h
  · have disregarded : (s.taken i rest).relay (.answer k num r d) = s.taken i rest := by
      refine if_neg ?_
      simpa [State.runs, cmd_taken] using runs
    rw [disregarded, undue (s.taken i rest) rfl]
    exact ⟨slot_taken s i rest, fun j => slot_taken_other s i rest, rfl, rfl, rfl, rfl, rfl, rfl,
      fun state num_eq _ => absurd ⟨state, num_eq⟩ runs, fun _ => ⟨rfl, rfl⟩⟩

end Sys2Proof.Machine
end

section
/-! The choice of victims (R115 to R117): its two stages as what they list, and the states that choose alike. -/

namespace Sys2Proof.Machine

section
variable {s : State} {need : Nat} {pool : List SlotId}

/-! ### Stage 1 -/

/-- Stage 1 lists reductions alone, in the order of the candidates; it stops short of one only once the shortfall is
covered. -/
theorem stage1_chosen (l : List SlotId) (a : Selection) : ∃ chosen : List SlotId, chosen.Sublist l ∧
    (∀ i ∈ chosen, s.reducible i = true) ∧
    (s.stage1 need l a).victims = a.victims ++ chosen.map s.reduceEntry ∧
    (s.stage1 need l a).total = a.total + (chosen.map fun i => (s.reduceEntry i).expected).sum ∧
    ((s.stage1 need l a).total < need → chosen = l.filter s.reducible) := by
  induction l generalizing a with
  | nil => exact ⟨[], .refl _, by simp, by simp [State.stage1], by simp [State.stage1], by simp⟩
  | cons i l ih =>
    by_cases covered : need ≤ a.total
    · exact ⟨[], List.nil_sublist _, by simp, by simp [State.stage1, covered], by simp [State.stage1, covered],
        fun short => absurd covered (Nat.not_le.mpr (by simpa [State.stage1, covered] using short))⟩
    · by_cases fits : s.reducible i = true
      · obtain ⟨chosen, sub, each, victims, total, all⟩ := ih
          { victims := a.victims ++ [s.reduceEntry i], total := a.total + (s.reduceEntry i).expected }
        refine ⟨i :: chosen, sub.cons_cons i, by simpa [fits] using each, ?_, ?_, ?_⟩ <;>
          simp only [State.stage1, covered, fits, if_true, if_false]
        · simp [victims]
        · simp [total, Nat.add_assoc]
        · intro short
          rw [List.filter_cons_of_pos fits, all short]
      · obtain ⟨chosen, sub, each, victims, total, all⟩ := ih a
        refine ⟨chosen, sub.cons i, each, ?_, ?_, ?_⟩ <;>
          simp only [State.stage1, covered, fits, if_false]
        · exact victims
        · exact total
        · intro short
          rw [List.filter_cons_of_neg fits]
          exact all short

/-! ### What a selection lists -/

/-- A selection from candidates: each listed once, with its REVOKE entry or, where it can be reduced, its REDUCE entry;
the total is that of the yields expected. -/
def State.ChosenFrom (s : State) (pool : List SlotId) (a : Selection) : Prop :=
  (a.victims.map Victim.slot).Nodup ∧
    (∀ v ∈ a.victims, v.slot ∈ pool ∧
      (v = s.revokeEntry v.slot ∨ s.reducible v.slot = true ∧ v = s.reduceEntry v.slot)) ∧
    a.total = (a.victims.map Victim.expected).sum

/-- Stage 1 chooses from the candidates, and revokes none. -/
theorem stage1_chosenFrom (nodup : pool.Nodup) :
    s.ChosenFrom pool (s.stage1 need pool { victims := [], total := 0 }) ∧
      ∀ v ∈ (s.stage1 need pool { victims := [], total := 0 }).victims, v.revoke = false := by
  obtain ⟨chosen, sub, each, victims, total, -⟩ := stage1_chosen (s := s) (need := need) pool { victims := [], total := 0 }
  rw [List.nil_append] at victims
  rw [Nat.zero_add] at total
  refine ⟨⟨?_, ?_, ?_⟩, ?_⟩ <;> rw [victims]
  · have slots : (chosen.map s.reduceEntry).map Victim.slot = chosen := by
      rw [List.map_map]
      exact List.map_id' chosen
    rw [slots]
    exact sub.nodup nodup
  · intro v listed
    obtain ⟨i, member, rfl⟩ := List.mem_map.mp listed
    exact ⟨sub.subset member, .inr ⟨each i member, rfl⟩⟩
  · rw [total, List.map_map]
    rfl
  · intro v listed
    obtain ⟨i, -, rfl⟩ := List.mem_map.mp listed
    rfl

/-! ### Stage 2 -/

/-- The sum of a list's yields, one slot's entry replaced. -/
theorem sum_replaced {l : List Victim} {v w : Victim} (nodup : (l.map Victim.slot).Nodup) (member : v ∈ l) :
    ((l.map fun u => if u.slot = v.slot then w else u).map Victim.expected).sum + v.expected =
      (l.map Victim.expected).sum + w.expected := by
  induction l with
  | nil => cases member
  | cons a l ih =>
    simp only [List.map_cons, List.nodup_cons] at nodup
    obtain ⟨alone, nodup⟩ := nodup
    rcases List.mem_cons.mp member with rfl | later
    · have untouched : l.map (fun u => if u.slot = v.slot then w else u) = l := by
        refine (List.map_congr_left fun u hu => if_neg fun eq => ?_).trans (List.map_id l)
        exact alone (List.mem_map.mpr ⟨u, hu, eq⟩)
      simp only [List.map_cons, if_true, untouched, List.sum_cons]
      omega
    · have other : a.slot ≠ v.slot := fun eq => alone (List.mem_map.mpr ⟨v, later, eq.symm⟩)
      have rest := ih nodup later
      simp only [List.map_cons, other, if_false, List.sum_cons] at rest ⊢
      omega

theorem listed_iff (i : SlotId) (l : List Victim) : listed i l = true ↔ i ∈ l.map Victim.slot := by
  simp [listed]

variable {a : Selection} {i : SlotId}

/-- Revoking one candidate, not yet revoked, keeps the selection one from the candidates. -/
theorem State.ChosenFrom.revokeOne (chosen : s.ChosenFrom pool a) (candidate : i ∈ pool)
    (unrevoked : ∀ v ∈ a.victims, v.slot = i → v.revoke = false) : s.ChosenFrom pool (s.revokeOne i a) := by
  obtain ⟨nodup, each, total⟩ := chosen
  by_cases already : listed i a.victims = true
  · obtain ⟨v, member, at_i⟩ := List.mem_map.mp ((listed_iff i _).mp already)
    obtain ⟨-, revoked | ⟨reducible, reduce⟩⟩ := each v member
    · exact absurd (unrevoked v member at_i) (by rw [revoked]; exact Bool.true_eq_false_eq_False)
    · rw [at_i] at reducible reduce
      have floor_le : s.floorPower i ≤ (s.entry i).claim := by
        unfold State.reducible at reducible
        unfold State.floorPower
        split at reducible
        · rename_i l current
          simp only [Bool.and_eq_true, decide_eq_true_eq] at reducible
          simpa [current] using reducible.2.le
        · cases reducible
      have replaced := sum_replaced (w := s.revokeEntry i) nodup member
      rw [at_i] at replaced
      have slots : (a.victims.map fun v => if v.slot = i then s.revokeEntry i else v).map Victim.slot =
          a.victims.map Victim.slot := by
        rw [List.map_map]
        refine List.map_congr_left fun u _ => ?_
        by_cases eq : u.slot = i
        · simp [eq, State.revokeEntry]
        · simp [eq]
      unfold State.ChosenFrom State.revokeOne
      simp only [already, if_true]
      refine ⟨by rw [slots]; exact nodup, fun u member_u => ?_, ?_⟩
      · obtain ⟨w, member_w, rfl⟩ := List.mem_map.mp member_u
        by_cases eq : w.slot = i
        · rw [if_pos eq]
          exact ⟨candidate, .inl rfl⟩
        · rw [if_neg eq]
          exact each w member_w
      · have taken : v.expected = (s.entry i).claim - s.floorPower i := by rw [reduce]; rfl
        have whole : (s.revokeEntry i).expected = (s.entry i).claim := rfl
        omega
  · unfold State.ChosenFrom State.revokeOne
    simp only [already, Bool.false_eq_true, if_false]
    refine ⟨?_, fun u member => ?_, ?_⟩
    · rw [List.map_append, List.nodup_append]
      refine ⟨nodup, by simp, fun j listed_j k hk => ?_⟩
      rintro rfl
      rw [List.map_cons, List.map_nil, List.mem_singleton] at hk
      have at_i : j = i := hk
      exact already ((listed_iff i _).mpr (at_i ▸ listed_j))
    · rcases List.mem_append.mp member with old | new
      · exact each u old
      · rw [List.mem_singleton.mp new]
        exact ⟨candidate, .inl rfl⟩
    · simp [total, State.revokeEntry]

theorem revokeEntry_mem_revokeOne : s.revokeEntry i ∈ (s.revokeOne i a).victims := by
  unfold State.revokeOne
  split
  · rename_i already
    obtain ⟨v, member, at_i⟩ := List.mem_map.mp ((listed_iff i _).mp already)
    exact List.mem_map.mpr ⟨v, member, if_pos at_i⟩
  · simp

theorem mem_revokeOne {v : Victim} (member : v ∈ a.victims) (other : v.slot ≠ i) : v ∈ (s.revokeOne i a).victims := by
  unfold State.revokeOne
  split
  · exact List.mem_map.mpr ⟨v, member, if_neg other⟩
  · exact List.mem_append_left _ member

/-- The entry of another slot is one that was listed before. -/
theorem of_mem_revokeOne {v : Victim} (member : v ∈ (s.revokeOne i a).victims) (other : v.slot ≠ i) :
    v ∈ a.victims := by
  unfold State.revokeOne at member
  split at member
  · obtain ⟨u, listed_u, eq⟩ := List.mem_map.mp member
    by_cases at_i : u.slot = i
    · rw [if_pos at_i] at eq
      exact absurd (congrArg Victim.slot eq).symm other
    · rw [if_neg at_i] at eq
      exact eq ▸ listed_u
  · rcases List.mem_append.mp member with old | new
    · exact old
    · rw [List.mem_singleton.mp new] at other
      exact absurd rfl other

/-- Stage 2 goes on choosing from the candidates, keeps what is revoked, and stops short of a candidate only once the
shortfall is covered. -/
theorem stage2_chosenFrom (l : List SlotId) (nodup : l.Nodup) (sub : l ⊆ pool) (chosen : s.ChosenFrom pool a)
    (unrevoked : ∀ v ∈ a.victims, v.slot ∈ l → v.revoke = false) :
    s.ChosenFrom pool (s.stage2 need l a) ∧
      (∀ v ∈ a.victims, v.slot ∉ l → v ∈ (s.stage2 need l a).victims) ∧
      (need ≤ (s.stage2 need l a).total ∨ ∀ i ∈ l, s.revokeEntry i ∈ (s.stage2 need l a).victims) := by
  induction l generalizing a with
  | nil => exact ⟨chosen, fun v member _ => member, .inr (by simp)⟩
  | cons i l ih =>
    obtain ⟨alone, nodup⟩ := List.nodup_cons.mp nodup
    unfold State.stage2
    split
    · rename_i covered
      exact ⟨chosen, fun v member _ => member, .inl covered⟩
    · have revoked := chosen.revokeOne (i := i) (sub List.mem_cons_self)
        fun v member at_i => unrevoked v member (by rw [at_i]; exact List.mem_cons_self)
      obtain ⟨chosen', kept, ends⟩ := ih nodup (fun j hj => sub (.tail _ hj)) revoked fun v member at_l => by
        have other : v.slot ≠ i := fun eq => alone (eq ▸ at_l)
        exact unrevoked v (of_mem_revokeOne member other) (.tail _ at_l)
      refine ⟨chosen', fun v member outside => ?_, ends.imp_right fun all j at_j => ?_⟩
      · rw [List.mem_cons, not_or] at outside
        exact kept v (mem_revokeOne member outside.1) outside.2
      · rcases List.mem_cons.mp at_j with rfl | later
        · exact kept _ revokeEntry_mem_revokeOne alone
        · exact all j later

/-- With the shortfall covered, stage 2 revokes none. -/
theorem stage2_covered (l : List SlotId) (covered : need ≤ a.total) : s.stage2 need l a = a := by
  cases l with
  | nil => rfl
  | cons i l => simp [State.stage2, covered]

end

/-- The whole choice is one from the candidates. -/
theorem selectVictims_chosenFrom (s : State) (need : Nat) {pool : List SlotId} (nodup : pool.Nodup) :
    s.ChosenFrom pool (s.stage2 need pool (s.stage1 need pool { victims := [], total := 0 })) :=
  (stage2_chosenFrom pool nodup (fun _ h => h) (stage1_chosenFrom nodup).1
    fun v member _ => (stage1_chosenFrom nodup).2 v member).1

/-- Settles O57: the two stages' invariants, and the closed form of stage 1 for the revocations. -/
theorem victimsCoverTheShortfall : Obligations.VictimsCoverTheShortfall := by
  intro s need pool nodup
  obtain ⟨first, unrevoked⟩ := stage1_chosenFrom (s := s) (need := need) nodup
  obtain ⟨-, -, ends⟩ := stage2_chosenFrom (need := need) pool nodup (fun _ h => h) first
    fun v member _ => unrevoked v member
  obtain ⟨slots, each, total⟩ := selectVictims_chosenFrom s need nodup
  refine ⟨slots, fun v member => ?_, ?_, fun ⟨v, member, revoked⟩ => ?_⟩
  · obtain ⟨candidate, eq | ⟨reducible, eq⟩⟩ := each v member
    · refine ⟨candidate, by rw [eq]; rfl, ?_⟩
      rw [if_pos (by rw [eq]; rfl), eq]
      exact ⟨rfl, rfl, rfl⟩
    · refine ⟨candidate, by rw [eq]; rfl, ?_⟩
      rw [if_neg (by rw [eq]; exact Bool.false_ne_true)]
      exact ⟨reducible, congrArg Victim.targetPower eq, congrArg Victim.expected eq⟩
  · refine ends.imp (fun covered => ?_) fun all i candidate => ⟨_, all i candidate, rfl, rfl⟩
    rw [total] at covered
    exact covered
  · obtain ⟨chosen, -, -, -, total1, all⟩ :=
      stage1_chosen (s := s) (need := need) pool { victims := [], total := 0 }
    by_cases short : (s.stage1 need pool { victims := [], total := 0 }).total < need
    · rw [all short, Nat.zero_add] at total1
      exact total1 ▸ short
    · have same : s.selectVictims need pool = (s.stage1 need pool { victims := [], total := 0 }).victims := by
        rw [State.selectVictims, stage2_covered pool (Nat.not_lt.mp short)]
      rw [same] at member
      rw [unrevoked v member] at revoked
      cases revoked

end Sys2Proof.Machine
end

section
/-! The decision rules of R91 as a chain of small acts (`RulesClosed`), and that none of them brings excess (R6, R92). -/

namespace Sys2Proof.Machine

/-! ### The acts of the decision rules -/

/-- The reclaim record given anew. -/
def State.withReclaim (s : State) (r : Reclaim) : State := { s with ae := { s.ae with reclaim := r } }

/-- A record that a reclaim starts with (R118): for the head of the queue (R95), or for excess. -/
def State.opens (s : State) (r : Reclaim) : Prop :=
  r.active = true ∧
    ((r.kind = .admission ∧ ∃ b, r.beneficiary = some b ∧ r.victims = s.selectVictims r.shortfall (s.admitCandidates b)) ∨
      (r.kind = .budget ∧ r.beneficiary = none ∧ r.earmark = 0 ∧
        r.victims = s.selectVictims r.shortfall s.budgetCandidates))

/-- The record of a conversion (R134). -/
def State.converted (s : State) (n : Nat) : Reclaim :=
  { s.ae.reclaim with
    kind := .budget, beneficiary := none, earmark := 0, shortfall := n
    victims := s.ae.reclaim.victims ++ if n = 0 then [] else s.selectVictims n s.conversionCandidates }

/-- The slot stands in WAITING, where the property keeps the admission queue right (R86). -/
def Served (P : State → Prop) (s : State) (i : SlotId) : Prop :=
  (∀ u, P u → u.queueRight) → (s.slot i).state = .waiting

/-- A property of the state that every act of the decision rules keeps. -/
structure RulesClosed (P : State → Prop) : Prop where
  event : ∀ s k o a b, P s → P (s.event k o a b)
  blocked : ∀ s i x, P s → P (s.modEntry i fun e => { e with blocked := x })
  reduce : ∀ s i index power, P s → P (s.takeReduce i index power .reclaim)
  opened : ∀ s r, s.ae.reclaim.active = false → s.opens r → P s → P (s.withReclaim r)
  converted : ∀ s n, P s → P (s.withReclaim (s.converted n))
  ended : ∀ s, P s → P (s.withReclaim { s.ae.reclaim with active := false, earmark := 0 })
  offer : ∀ s i p, s.fitting i = some p → Served P s i → P s → P (s.offer i p)
  raise : ∀ s i p, s.raiseCandidate i = true → s.raisePoint i = some p → P s → P (s.raise i p)

/-- An offer to one slot leaves the record of another. -/
theorem slot_offer_other (s : State) {i j : SlotId} (p : Nat × Point) (other : j ≠ i) : (s.offer i p).slot j = s.slot j := by
  have unclaimed (t : State) : t.evalExcess.slot j = t.slot j := by rw [State.slot, evalExcess_slots]; rfl
  rw [State.offer, State.takeOffer, slot_linkRequest, slot_modSlot_other _ _ other, State.claimFor, unclaimed,
    slot_modEntry, slot_leaveQueue]

/-- An ADMIT reclaim's end frees what was earmarked for its beneficiary: the point that fits is the same. -/
theorem fitting_endReclaim {s : State} {b : SlotId} (code : Nat) (own : s.isBeneficiary b = true) :
    (s.endReclaim code).fitting b = s.fitting b := by
  have same : (s.endReclaim code).available b = s.available b := by
    unfold State.available
    rw [own]
    simp [State.endReclaim, State.isBeneficiary]
    rfl
  unfold State.fitting
  rw [same]
  rfl

namespace RulesClosed

variable {P : State → Prop} (closed : RulesClosed P) {s : State}
include closed

theorem requestReductions (l : List Victim) (h : P s) : P (s.requestReductions l) := by
  unfold State.requestReductions
  induction l generalizing s with
  | nil => exact h
  | cons v l ih => exact ih (closed.reduce s _ _ _ h)

theorem startReclaim {kind : ReclaimKind} {b : Option SlotId} {n e : Nat} {l : List Victim}
    (h : P (s.withReclaim ⟨true, kind, b, n, e, l, 0⟩)) : P (s.startReclaim kind b n e l) :=
  closed.requestReductions l (closed.event _ _ _ _ _ h)

theorem endReclaim (code : Nat) (h : P s) : P (s.endReclaim code) :=
  closed.event _ _ _ _ _ (closed.ended s h)

theorem convert (h : P s) : P s.convert :=
  closed.event _ _ _ _ _ (closed.requestReductions _ (closed.converted s _ h))

theorem startAdmit (b : SlotId) (n : Nat) (idle : s.ae.reclaim.active = false) (h : P s) : P (s.startAdmit b n) := by
  have opened := closed.opened s ⟨true, .admission, some b, n, s.floorPower b, s.selectVictims n (s.admitCandidates b), 0⟩
    idle ⟨rfl, .inl ⟨rfl, b, rfl, rfl⟩⟩ h
  exact closed.startReclaim (closed.blocked _ b false opened)

theorem budgetTrigger (h : P s) : P s.budgetTrigger := by
  unfold State.budgetTrigger
  split
  · rename_i triggers
    simp only [Bool.and_eq_true, Bool.not_eq_true'] at triggers
    obtain ⟨⟨⟨-, idle⟩, -⟩, -⟩ := triggers
    exact closed.startReclaim (closed.opened s _ idle ⟨rfl, .inr ⟨rfl, rfl, rfl, rfl⟩⟩ h)
  · exact h

theorem admitRules {b : SlotId} (own : s.isBeneficiary b = true) (h : P s) : P (s.admitRules b) := by
  unfold State.admitRules
  split
  · exact closed.endReclaim _ h
  · rename_i waits
    split
    · rename_i p fits
      exact closed.offer _ b p (by rw [fitting_endReclaim _ own]; exact fits) (fun _ => not_not.mp waits)
        (closed.endReclaim _ h)
    · split_ifs
      · exact closed.endReclaim _ h
      · exact closed.convert h
      · exact h

theorem endTests (h : P s) : P s.endTests := by
  unfold State.endTests
  dsimp only
  split
  · rename_i active
    split
    · rename_i b kind own
      exact closed.admitRules (by simp [State.isBeneficiary, active, kind, own]) h
    · unfold State.budgetRules
      split_ifs
      · exact closed.endReclaim _ h
      · exact closed.endReclaim _ h
      · exact h
    · exact h
  · exact h

/-- Slots of the admission queue stand in WAITING, each once, where the property keeps the queue right. -/
theorem backfill (l : List SlotId) (served : ∀ i ∈ l, Served P s i) (distinct : (∀ u, P u → u.queueRight) → l.Nodup)
    (h : P s) : P (s.backfill l) := by
  unfold State.backfill
  split
  · clear * - closed served distinct h
    induction l generalizing s with
    | nil => exact h
    | cons i l ih =>
      have later (queued : ∀ u, P u → u.queueRight) : i ∉ l ∧ l.Nodup := List.nodup_cons.mp (distinct queued)
      rw [List.foldl_cons]
      split
      · exact ih (fun j hj => served j (.tail _ hj)) (fun queued => (later queued).2) h
      · split
        · rename_i p fits
          refine ih (fun j hj queued => ?_) (fun queued => (later queued).2)
            (closed.offer s i p fits (served i List.mem_cons_self) h)
          have other : j ≠ i := fun same => (later queued).1 (same ▸ hj)
          rw [slot_offer_other s p other]
          exact served j (.tail _ hj) queued
        · exact ih (fun j hj => served j (.tail _ hj)) (fun queued => (later queued).2) h
  · exact h

end RulesClosed

/-! ### Passes -/

theorem nodup_ofClass_flatMap (s : State) {classes : List Nat} (each : classes.Nodup) {l : List SlotId} (nodup : l.Nodup) :
    (classes.flatMap fun c => s.ofClass c l).Nodup := by
  refine List.nodup_flatMap.mpr ⟨fun c _ => nodup.filter _, each.imp fun {c d} differ => ?_⟩
  rw [Function.onFun, List.disjoint_left]
  intro i in_c in_d
  simp only [State.ofClass, List.mem_filter, beq_iff_eq] at in_c in_d
  exact differ (in_c.2.symm.trans in_d.2)

theorem queue_nodup {s : State} (nodup : s.ae.entryOrder.Nodup) : s.queue.Nodup :=
  nodup_ofClass_flatMap s (by decide) nodup
theorem shedding_nodup {s : State} (nodup : s.ae.grantOrder.Nodup) : s.shedding.Nodup :=
  nodup_ofClass_flatMap s (by decide) (List.nodup_reverse.mpr nodup)
theorem raiseOrder_nodup {s : State} (nodup : s.ae.grantOrder.Nodup) : s.raiseOrder.Nodup :=
  nodup_ofClass_flatMap s (by decide) nodup

/-- A request to reduce leaves a slot in WAITING where it stands. -/
theorem takeReduce_waiting (s : State) (i j : SlotId) (index power : Nat) (origin : Origin)
    (waits : (s.slot j).state = .waiting) : ((s.takeReduce i index power origin).slot j).state = .waiting := by
  by_cases same : j = i
  · subst same
    simp [State.takeReduce, waits]
  · rw [((SlotFrame.takeReduce_iff (s := s) index power origin).mpr (.refl i s)).2 j same |>.1]
    exact waits

theorem requestReductions_waiting (s : State) (j : SlotId) (l : List Victim) (waits : (s.slot j).state = .waiting) :
    ((s.requestReductions l).slot j).state = .waiting := by
  unfold State.requestReductions
  induction l generalizing s with
  | nil => exact waits
  | cons v l ih => exact ih _ (takeReduce_waiting s _ j _ _ _ waits)

theorem settleHead_waiting (s : State) (h j : SlotId) (waits : (s.slot j).state = .waiting) :
    ((s.settleHead h).slot j).state = .waiting := by
  unfold State.settleHead
  split
  · unfold State.block
    split <;> exact waits
  · exact requestReductions_waiting _ j _ waits

namespace RulesClosed

variable {P : State → Prop} (closed : RulesClosed P) {s : State}
include closed

theorem settleHead (i : SlotId) (h : P s) : P (s.settleHead i) := by
  unfold State.settleHead
  split
  · unfold State.block
    split
    · exact h
    · exact closed.event _ _ _ _ _ (closed.blocked s i true h)
  · rename_i unblocked
    refine closed.startAdmit i _ ?_ h
    unfold State.blockReason at unblocked
    split at unblocked
    · cases unblocked
    · rename_i idle; simpa using idle

theorem passFrom (n : Nat) (h : P s) : P (State.passFrom n s) := by
  induction n generalizing s with
  | zero => exact h
  | succ n ih =>
    unfold State.passFrom
    split
    · exact h
    · rename_i i rest queue
      have served (j : SlotId) (hj : j ∈ i :: rest) : Served P s j := fun queued =>
        ((queued s h).2 j).mp (mem_queue (queue ▸ hj))
      have distinct (queued : ∀ u, P u → u.queueRight) : rest.Nodup :=
        (List.nodup_cons.mp (queue ▸ queue_nodup (queued s h).1)).2
      split
      · exact closed.backfill rest (fun j hj => served j (.tail _ hj)) distinct h
      · split
        · rename_i p fits
          exact ih (closed.offer s i p fits (served i List.mem_cons_self) h)
        · exact closed.backfill rest (fun j hj queued => settleHead_waiting s i j (served j (.tail _ hj) queued)) distinct
            (closed.settleHead i h)

theorem raisePass (h : P s) : P s.raisePass := by
  unfold State.raisePass
  split
  · generalize s.raiseOrder = order
    clear * - closed h
    induction order generalizing s with
    | nil => exact h
    | cons i order ih =>
      refine ih ?_
      unfold State.raiseVisit
      split
      · rename_i candidate
        split
        · rename_i p point
          exact closed.raise s i p candidate point h
        · exact h
      · exact h
  · exact h

/-- The decision rules of one happening are such acts alone. -/
theorem aeRules (due : Bool) (h : P s) : P (s.aeRules due) := by
  have ruled : P s.endTests.budgetTrigger := closed.budgetTrigger (closed.endTests h)
  unfold State.aeRules
  dsimp only
  split
  · exact closed.raisePass (closed.passFrom 9 ruled)
  · exact ruled

end RulesClosed

/-! ### What an act leaves of the account -/

theorem committed_account (a : Ae) : a.account.committed = a.committed := by
  simp [Ae.account, Ae.committed, Vector.toList_map, Function.comp_def]

section
variable {s t : State} (same : t.ae.account = s.ae.account)
include same

theorem committed_of_account : t.ae.committed = s.ae.committed := by
  rw [← committed_account, same, committed_account]

theorem effective_of_account : t.ae.effective = s.ae.effective :=
  show t.ae.account.effective = s.ae.account.effective by rw [same]

theorem excess_of_account : t.ae.excess = s.ae.excess :=
  show t.ae.account.excess = s.ae.account.excess by rw [same]

theorem reclaim_of_account : t.ae.reclaim = s.ae.reclaim :=
  show t.ae.account.reclaim = s.ae.account.reclaim by rw [same]

theorem grantOrder_of_account : t.ae.grantOrder = s.ae.grantOrder :=
  show t.ae.account.grantOrder = s.ae.account.grantOrder by rw [same]

/-- An AE entry, its blocked flag aside. -/
theorem entry_of_account (i : SlotId) :
    { t.entry i with blocked := false } = ({ s.entry i with blocked := false } : AeSlot) := by
  have slots : t.ae.account.slots[i.val] = s.ae.account.slots[i.val] := by rw [same]
  simp only [Ae.account, Vector.getElem_map] at slots
  exact slots

theorem claim_of_account (i : SlotId) : (t.entry i).claim = (s.entry i).claim :=
  (AeSlot.mk.inj (entry_of_account same i)).1

end

theorem account_leaveQueue (s : State) (i : SlotId) : (s.leaveQueue i).ae.account = s.ae.account :=
  ((AccountFrame.leaveQueue_iff i).mpr (.refl s)).1

theorem account_takeReduce (s : State) (i : SlotId) (index power : Nat) (origin : Origin) :
    (s.takeReduce i index power origin).ae.account = s.ae.account :=
  ((AccountFrame.takeReduce_iff i index power origin).mpr (.refl s)).1

theorem account_takeRaise (s : State) (i : SlotId) (o : Offered) : (s.takeRaise i o).ae.account = s.ae.account :=
  ((AccountFrame.takeRaise_iff i o).mpr (.refl s)).1

theorem account_blocked (s : State) (i : SlotId) (x : Bool) :
    (s.modEntry i fun e => { e with blocked := x }).ae.account = s.ae.account := by
  simp [State.modEntry, Ae.account, map_updateAt]

@[simp] theorem evalExcess_committed (s : State) : s.evalExcess.ae.committed = s.ae.committed := by
  rw [evalExcess_ae]; rfl
@[simp] theorem evalExcess_effective (s : State) : s.evalExcess.ae.effective = s.ae.effective := by
  rw [evalExcess_ae]; rfl

/-- A raised claim moves committed by the rise; EB stands. -/
theorem claimFor_committed (s : State) (i : SlotId) (power : Nat) (mark : Mark) :
    (s.claimFor i power mark).ae.committed + (s.entry i).claim = s.ae.committed + power := by
  rw [State.claimFor, evalExcess_committed]
  exact committed_modEntry s i _

theorem claimFor_effective (s : State) (i : SlotId) (power : Nat) (mark : Mark) :
    (s.claimFor i power mark).ae.effective = s.ae.effective := by
  rw [State.claimFor, evalExcess_effective, effective_modEntry]

/-- The power of the point that fits is available (R92). -/
theorem fitting_le {s : State} {i : SlotId} {p : Nat × Point} (fits : s.fitting i = some p) :
    p.2.power ≤ s.available i := by
  obtain ⟨l, -, found⟩ := Option.bind_eq_some_iff.mp fits
  exact (highestWithin_spec found).2.2

/-- The power of a raise point is available beside the claim (R105). -/
theorem raisePoint_le {s : State} {i : SlotId} {p : Nat × Point} (point : s.raisePoint i = some p) :
    p.2.power ≤ s.available i + (s.entry i).claim := by
  obtain ⟨l, -, found⟩ := Option.bind_eq_some_iff.mp point
  exact (highestBetween_spec found).2.2.2

/-- EB is `e`, and committed is within it. -/
def State.within (e : Nat) (s : State) : Prop := s.ae.effective = e ∧ s.ae.committed ≤ e

theorem State.within.of_account {s t : State} {e : Nat} (same : t.ae.account = s.ae.account) (h : s.within e) :
    t.within e :=
  ⟨(effective_of_account same).trans h.1, (committed_of_account same).le.trans h.2⟩

/-- No act of the decision rules brings excess: an offer and a raise take no more than is available. -/
theorem rulesClosed_within (e : Nat) : RulesClosed (State.within e) where
  event _ _ _ _ _ h := h
  blocked s i x h := h.of_account (account_blocked s i x)
  reduce s i index power h := h.of_account (account_takeReduce s i index power .reclaim)
  opened _ _ _ _ h := h
  converted _ _ h := h
  ended _ h := h
  offer s i p fits _ h := by
    have left := account_leaveQueue s i
    have moved := claimFor_committed (s.leaveQueue i) i p.2.power .offer
    rw [committed_of_account left] at moved
    have room := (fitting_le fits).trans (available_le s i)
    obtain ⟨budget, below⟩ := h
    refine ⟨((claimFor_effective ..).trans (effective_of_account left)).trans budget, ?_⟩
    show ((s.leaveQueue i).claimFor i p.2.power .offer).ae.committed ≤ e
    omega
  raise s i p _ point h := by
    have moved := claimFor_committed s i p.2.power .raise
    have room := raisePoint_le point
    have free := available_le s i
    obtain ⟨budget, below⟩ := h
    refine State.within.of_account (account_takeRaise _ i _) ⟨(claimFor_effective ..).trans budget, ?_⟩
    omega

/-- Settles O56: by `rulesClosed_within`. -/
theorem decisionsStayWithinBudget : Obligations.DecisionsStayWithinBudget := by
  intro s due within
  obtain ⟨budget, below⟩ := (rulesClosed_within s.ae.effective).aeRules due ⟨rfl, within⟩
  exact ⟨by rw [budget]; exact below, budget⟩

end Sys2Proof.Machine
end

section
/-! What every act of a Slot Sequencer keeps of its slot (`SlotRec.Keeps`): the enable with the state, the strikes with
LOCKED_OUT, lists of points with power, and the slot's standing well at its claim; and of the admission queue. -/

namespace Sys2Proof.Machine

/-! ### A slot record that keeps what the one before kept -/

/-- LOCKED_OUT exactly at three strikes (R39). -/
def SlotRec.strikesRight (r : SlotRec) : Prop := r.strikes ≤ 3 ∧ (r.state = .lockedOut ↔ r.strikes = 3)

/-- A list the record holds. -/
def SlotRec.holds (r : SlotRec) (l : DemandList) : Prop :=
  r.current = some l ∨ r.arriving = some l ∨ r.restated = some l

/-- A list whose points all have power (R46). -/
def DemandList.powers (l : DemandList) : Prop := ∀ p ∈ l.points, p.power ≠ 0

def SlotRec.listsRight (r : SlotRec) : Prop := ∀ l, r.holds l → l.powers

theorem State.listsRight_iff (s : State) : s.listsRight ↔ ∀ i, (s.slot i).listsRight := Iff.rfl
theorem State.strikesRight_iff (s : State) : s.strikesRight ↔ ∀ i, (s.slot i).strikesRight := Iff.rfl

/-- What the record `r'` keeps of what the record `r` kept. -/
structure SlotRec.Keeps (r r' : SlotRec) : Prop where
  enable : r.en = r.state.enabled → r'.en = r'.state.enabled
  strikes : r.strikesRight → r'.strikesRight
  lists : r.listsRight → r'.listsRight
  power : r.listsRight → ∀ claim, r.powerRight claim → r'.powerRight claim

theorem SlotRec.Keeps.refl (r : SlotRec) : r.Keeps r := ⟨id, id, id, fun _ _ => id⟩

theorem SlotRec.Keeps.trans {r₁ r₂ r₃ : SlotRec} (h : r₁.Keeps r₂) (k : r₂.Keeps r₃) : r₁.Keeps r₃ :=
  ⟨k.enable ∘ h.enable, k.strikes ∘ h.strikes, k.lists ∘ h.lists,
    fun lists claim power => k.power (h.lists lists) claim (h.power lists claim power)⟩

/-! ### Standing well, by state -/

theorem SlotState.enabled_iff (st : SlotState) : st.enabled = true ↔ st.poweredFamily = true ∨ st = .resync := by
  simp [SlotState.enabled]

/-- Neither enabled, nor offered power, nor queued for it. -/
def SlotState.off (st : SlotState) : Prop := st.enabled = false ∧ st ≠ .offering ∧ st ≠ .waiting

/-- A slot without power stands well by its requests to map alone. -/
theorem SlotRec.powerRight_off {r : SlotRec} (off : r.state.off) (claim : Nat) :
    r.powerRight claim ↔ ∀ l, r.restated = some l → ∀ o, some o ∈ r.mapRequests → o.of l := by
  obtain ⟨unenabled, unoffered, unqueued⟩ := off
  unfold SlotRec.powerRight
  cases st : r.state <;> simp_all [SlotState.enabled, SlotState.poweredFamily]

/-- A slot in POWERING, POWERED or REDUCING. -/
theorem SlotRec.powerRight_on {r : SlotRec} (on : r.state = .powering ∨ r.state = .powered ∨ r.state = .reducing)
    (claim : Nat) : r.powerRight claim ↔ claim ≠ 0 ∧ r.outbox.any Notice.frees = false ∧ r.grantedPower ≠ 0 ∧
      ∀ l, r.restated = some l → ∀ o, some o ∈ r.mapRequests → o.of l := by
  unfold SlotRec.powerRight
  rcases on with st | st | st <;> simp [st, SlotState.enabled, SlotState.poweredFamily]

theorem SlotRec.powerRight_resync {r : SlotRec} (resync : r.state = .resync) (claim : Nat) :
    r.powerRight claim ↔ claim ≠ 0 ∧ r.outbox.any Notice.frees = false ∧
      ∀ l, r.restated = some l → ∀ o, some o ∈ r.mapRequests → o.of l := by
  unfold SlotRec.powerRight
  simp [resync, SlotState.enabled, SlotState.poweredFamily]

theorem SlotRec.powerRight_offering {r : SlotRec} (offering : r.state = .offering) (claim : Nat) :
    r.powerRight claim ↔ claim ≠ 0 ∧ r.outbox.any Notice.frees = false ∧
      (∃ o l, r.offered = some o ∧ r.current = some l ∧ o.of l) ∧
      ∀ l, r.restated = some l → ∀ o, some o ∈ r.mapRequests → o.of l := by
  unfold SlotRec.powerRight
  simp [offering, SlotState.enabled, SlotState.poweredFamily]

theorem SlotRec.powerRight_raising {r : SlotRec} (raising : r.state = .raising) (claim : Nat) :
    r.powerRight claim ↔ claim ≠ 0 ∧ r.outbox.any Notice.frees = false ∧ r.grantedPower ≠ 0 ∧
      (∃ o l, r.offered = some o ∧ r.current = some l ∧ o.of l) ∧
      ∀ l, r.restated = some l → ∀ o, some o ∈ r.mapRequests → o.of l := by
  unfold SlotRec.powerRight
  simp [raising, SlotState.enabled, SlotState.poweredFamily]

theorem SlotRec.powerRight_restating {r : SlotRec} (restating : r.state = .restating) (claim : Nat) :
    r.powerRight claim ↔ claim ≠ 0 ∧ r.outbox.any Notice.frees = false ∧ r.grantedPower ≠ 0 ∧
      (∃ o l, r.offered = some o ∧ r.restated = some l ∧ o.of l) ∧
      ∀ l, r.restated = some l → ∀ o, some o ∈ r.mapRequests → o.of l := by
  unfold SlotRec.powerRight
  simp [restating, SlotState.enabled, SlotState.poweredFamily]

theorem SlotRec.powerRight_waiting {r : SlotRec} (waiting : r.state = .waiting) (claim : Nat) :
    r.powerRight claim ↔ r.outbox.any Notice.frees = false ∧
      ∀ l, r.restated = some l → ∀ o, some o ∈ r.mapRequests → o.of l := by
  unfold SlotRec.powerRight
  simp [waiting, SlotState.enabled, SlotState.poweredFamily]

/-! ### Changes by kind -/

/-- The fields that the slot's invariants speak of, the outbox aside. -/
def SlotRec.matters (r : SlotRec) : SlotState × Bool × Nat × (Option DemandList × Option DemandList × Option DemandList) ×
    Nat × Option Offered × List (Option Offered) :=
  (r.state, r.en, r.strikes, (r.current, r.arriving, r.restated), r.granted, r.offered, r.mapRequests)

/-- A record changed in other fields alone, notices aside that free no claim where the slot stands well. -/
theorem SlotRec.Keeps.of_same {r r' : SlotRec} (same : r'.matters = r.matters)
    (sent : ∃ more, r'.outbox = r.outbox ++ more ∧ ∀ claim, r.powerRight claim → more.any Notice.frees = false) :
    r.Keeps r' := by
  obtain ⟨more, outbox, unfreed⟩ := sent
  simp only [SlotRec.matters, Prod.mk.injEq] at same
  obtain ⟨state, en, strikes, ⟨current, arriving, restated⟩, granted, offered, requests⟩ := same
  refine ⟨?_, ?_, ?_, fun _ claim power => ?_⟩
  · rw [en, state]; exact id
  · unfold SlotRec.strikesRight; rw [strikes, state]; exact id
  · unfold SlotRec.listsRight SlotRec.holds; rw [current, arriving, restated]; exact id
  · have none_ := unfreed claim power
    unfold SlotRec.powerRight SlotRec.grantedPower at power ⊢
    rw [state, current, restated, granted, offered, requests, outbox, List.any_append, none_, Bool.or_false]
    exact power

/-- Losing power, or staying without it: no list but those held, and a pending list's requests as they were. -/
theorem SlotRec.Keeps.of_off {r r' : SlotRec} (off : r'.state.off) (en : r.en = r.state.enabled → r'.en = false)
    (strikes : r.strikesRight → r'.strikesRight) (lists : ∀ l, r'.holds l → r.holds l ∨ l.powers)
    (requests : r'.restated = none ∨ r'.restated = r.restated ∧ r'.mapRequests = r.mapRequests) : r.Keeps r' where
  enable h := (en h).trans off.1.symm
  strikes := strikes
  lists h l held := (lists l held).elim (h l) id
  power _ claim power := by
    rw [SlotRec.powerRight_off off]
    rcases requests with none_ | ⟨same, same'⟩
    · rw [none_]; nofun
    · rw [same, same']
      exact power.2.2.2.2.2

/-- The strikes stand, on the same side of LOCKED_OUT. -/
theorem SlotRec.strikesRight_of {r r' : SlotRec} (same : r'.strikes = r.strikes)
    (side : r'.state = .lockedOut ↔ r.state = .lockedOut) (h : r.strikesRight) : r'.strikesRight := by
  unfold SlotRec.strikesRight at h ⊢
  rw [same, side]
  exact h


/-! ### Acts -/

/-- What an act of slot `i`'s Slot Sequencer keeps. -/
structure ActSound (i : SlotId) (s t : State) : Prop where
  frame : SlotFrame i s t
  queue : s.queueRight → t.queueRight
  keeps : (s.slot i).Keeps (t.slot i)

theorem ActSound.refl (i : SlotId) (s : State) : ActSound i s s := ⟨.refl i s, id, .refl _⟩

theorem ActSound.trans {i : SlotId} {s t u : State} (h : ActSound i s t) (k : ActSound i t u) : ActSound i s u :=
  ⟨h.frame.trans k.frame, k.queue ∘ h.queue, h.keeps.trans k.keeps⟩

section
variable {i : SlotId} {s t : State} (frame : SlotFrame i s t) (keeps : (s.slot i).Keeps (t.slot i))
include frame keeps

/-- The slot stays in the admission queue, or out of it. -/
theorem ActSound.stays (order : t.ae.entryOrder = s.ae.entryOrder)
    (waits : (t.slot i).state = .waiting ↔ (s.slot i).state = .waiting) : ActSound i s t := by
  refine ⟨frame, fun ⟨nodup, member⟩ => ⟨by rw [order]; exact nodup, fun j => ?_⟩, keeps⟩
  rw [order, member j]
  by_cases same : j = i
  · rw [same, waits]
  · rw [(frame.2 j same).1]

/-- The slot leaves the admission queue. -/
theorem ActSound.leaves (order : t.ae.entryOrder = s.ae.entryOrder.filter (· != i))
    (left : (t.slot i).state ≠ .waiting) : ActSound i s t := by
  refine ⟨frame, fun ⟨nodup, member⟩ => ⟨by rw [order]; exact nodup.filter _, fun j => ?_⟩, keeps⟩
  rw [order, List.mem_filter, member j]
  by_cases same : j = i
  · rw [same]
    exact iff_of_false (by simp) left
  · rw [(frame.2 j same).1]
    simp [same]

end

section
variable (i : SlotId) (s : State)

/-- A change of fields that no invariant speaks of. -/
theorem ActSound.of_same {t : State} (frame : SlotFrame i s t) (order : t.ae.entryOrder = s.ae.entryOrder)
    (same : (t.slot i).matters = (s.slot i).matters)
    (sent : ∃ more, (t.slot i).outbox = (s.slot i).outbox ++ more ∧
      ∀ claim, (s.slot i).powerRight claim → more.any Notice.frees = false) : ActSound i s t := by
  have state : (t.slot i).state = (s.slot i).state := congrArg Prod.fst same
  exact .stays frame (.of_same same sent) order (by rw [state])

/-- The slot record stands. -/
theorem ActSound.of_slot {t : State} (frame : SlotFrame i s t) (order : t.ae.entryOrder = s.ae.entryOrder)
    (same : t.slot i = s.slot i) : ActSound i s t :=
  .of_same i s frame order (by rw [same]) ⟨[], by rw [same, List.append_nil], fun _ _ => rfl⟩

theorem modLink_sound (f : LinkRec → LinkRec) : ActSound i s (s.modLink i f) :=
  .of_slot i s (by simp) rfl rfl

theorem event_sound (k : EventKind) (o : Option SlotId) (a b : Nat) : ActSound i s (s.event k o a b) :=
  .of_slot i s (by simp) rfl rfl

theorem modSlot_sound (f : SlotRec → SlotRec) (same : (f (s.slot i)).matters = (s.slot i).matters)
    (sent : ∃ more, (f (s.slot i)).outbox = (s.slot i).outbox ++ more ∧
      ∀ claim, (s.slot i).powerRight claim → more.any Notice.frees = false) : ActSound i s (s.modSlot i f) :=
  .of_same i s (by simp) rfl (by rw [slot_modSlot_same]; exact same) (by rw [slot_modSlot_same]; exact sent)

/-- A change of fields that no invariant speaks of, with no notice. -/
theorem modSlot_quiet (f : SlotRec → SlotRec) (same : (f (s.slot i)).matters = (s.slot i).matters)
    (outbox : (f (s.slot i)).outbox = (s.slot i).outbox) : ActSound i s (s.modSlot i f) :=
  modSlot_sound i s f same ⟨[], by rw [outbox, List.append_nil], fun _ _ => rfl⟩

theorem notify_sound {n : Notice} (unfreed : ∀ claim, (s.slot i).powerRight claim → n.frees = false) :
    ActSound i s (s.notify i n) :=
  modSlot_sound i s _ rfl ⟨[n], rfl, fun claim power => by simp [unfreed claim power]⟩

theorem refuse_sound : ActSound i s (s.refuse i) := .of_slot i s (by simp) rfl rfl

theorem demandEvents_sound (l : DemandList) : ActSound i s (s.demandEvents i l) :=
  .of_slot i s (by simp) (by simp) (by simp)

theorem demandBad_sound (v : Verdict) : ActSound i s (s.demandBad i v) := by
  cases v <;> exact .of_slot i s (by simp) rfl rfl

theorem watchCheck_sound : ActSound i s (s.watchCheck i) := by
  refine .of_same i s (by simp) rfl ?_ ?_ <;> rw [slot_watchCheck] <;> unfold SlotRec.answered
  · split
    · rfl
    · split <;> rfl
  · split
    · exact ⟨[], by simp, fun _ _ => rfl⟩
    · split
      · exact ⟨[_], rfl, fun _ _ => rfl⟩
      · exact ⟨[], by simp, fun _ _ => rfl⟩

theorem setWatch_sound (w : Watch) : ActSound i s (s.setWatch i w) := modSlot_quiet i s _ rfl rfl

theorem owe_sound (o : Owed) : ActSound i s (s.owe i o) := modSlot_quiet i s _ rfl rfl

theorem restore_sound : ActSound i s (s.restore i) := modSlot_quiet i s _ rfl rfl

theorem startGrace_sound : ActSound i s (s.startGrace i) := modSlot_quiet i s _ rfl rfl

theorem onNoted_sound : ActSound i s (s.onNoted i) := by
  unfold State.onNoted
  split
  · exact (modLink_sound i s _).trans (notify_sound i _ fun _ _ => rfl)
  · exact .refl i s

/-! ### Faults, removal, presence and identification -/

/-- A fault leaves a slot without power or list, whatever it was. -/
theorem SlotRec.Keeps.faulted (r before : SlotRec) (cause : FaultCause) (classLimit : Nat) (holdoff : Option Nat) :
    r.Keeps (((if before.en then before.powerless else before).struck cause classLimit holdoff).sending
      (.faulted cause)) := by
  refine .of_off ?_ ?_ ?_ ?_ (.inl rfl)
  · by_cases few : before.strikes < 2 <;> cases en : before.en <;>
      simp [SlotState.off, SlotRec.sending, SlotRec.struck, SlotRec.powerless, few, SlotState.enabled,
        SlotState.poweredFamily]
  · intro _
    cases en : before.en <;> simp [SlotRec.sending, SlotRec.struck, SlotRec.powerless, en]
  · intro _
    have strikes : (if before.en then before.powerless else before).strikes = before.strikes := by split <;> rfl
    by_cases few : before.strikes < 2 <;>
      simp only [SlotRec.strikesRight, SlotRec.sending, SlotRec.struck, strikes, few, if_true, if_false, true_iff,
        reduceCtorEq, false_iff] <;> omega
  · rintro l (held | held | held) <;> cases held

/-- A fault behind acts on the slot's record that alone would keep nothing. -/
theorem fault_behind {u : State} (frame : SlotFrame i s u) (order : u.ae.entryOrder = s.ae.entryOrder)
    (cause : FaultCause) : ActSound i s (u.fault i cause) := by
  refine .leaves (by simpa using frame) ?_ (by rw [fault_ae, ← order]; rfl) ?_ <;> rw [slot_fault]
  · exact .faulted ..
  · have entered (c : Prop) [Decidable c] : (if c then SlotState.faulted else .lockedOut) ≠ .waiting := by
      split <;> simp
    exact entered _

theorem fault_sound (cause : FaultCause) : ActSound i s (s.fault i cause) := fault_behind i s (.refl i s) rfl cause

theorem remove_sound : ActSound i s (s.remove i) := by
  by_cases empty : (s.slot i).state = .empty
  · rw [remove_of_empty empty]
    exact .refl i s
  · refine .leaves (by simp) ?_ (by rw [remove_ae empty]; rfl) ?_ <;> rw [slot_remove empty]
    · refine .of_off ⟨rfl, nofun, nofun⟩ (fun _ => rfl) (fun _ => ?_) ?_ (.inl rfl)
      · simp [SlotRec.strikesRight, SlotRec.sending, SlotRec.removed, SlotRec.reset]
      · rintro l (held | held | held) <;> cases held
    · exact nofun

variable {i s}

theorem settle_sound (empty : (s.slot i).state = .empty) : ActSound i s (s.settle i) := by
  refine .stays (by simp) ?_ rfl ?_ <;> rw [slot_settle]
  · refine .of_off ⟨rfl, nofun, nofun⟩ (fun en => ?_) (SlotRec.strikesRight_of rfl (by simp [empty]))
      (fun l held => .inl held) (.inr ⟨rfl, rfl⟩)
    rw [empty] at en
    exact en
  · simp [empty]

/-- A slot without power and not locked out enters IDENTIFY. -/
theorem identify_sound (off : (s.slot i).state.off) (unlocked : (s.slot i).state ≠ .lockedOut) :
    ActSound i s (s.identify i) := by
  refine .stays (by simp) ?_ rfl ?_ <;> rw [slot_identify]
  · exact .of_off ⟨rfl, nofun, nofun⟩ (fun en => en.trans off.1) (SlotRec.strikesRight_of rfl (by simp [unlocked]))
      (fun l held => .inl held) (.inr ⟨rfl, rfl⟩)
  · simp [off.2.2]

theorem becomePowered_sound (powering : (s.slot i).state = .powering) : ActSound i s (s.becomePowered i) := by
  refine .stays (by simp) ⟨?_, ?_, ?_, ?_⟩ rfl ?_ <;> rw [slot_becomePowered]
  · intro en
    rw [powering] at en
    exact en
  · exact SlotRec.strikesRight_of rfl (by simp [SlotRec.ramped, SlotRec.sending, powering])
  · exact id
  · intro _ claim power
    rw [SlotRec.powerRight_on (.inl powering)] at power
    obtain ⟨claimed, unfreed, granted, requests⟩ := power
    refine (SlotRec.powerRight_on (.inr (.inl rfl)) claim).mpr ⟨claimed, ?_, granted, requests⟩
    simp [SlotRec.ramped, SlotRec.sending, unfreed, Notice.frees, Notice.holding, granted]
  · simp [SlotRec.ramped, SlotRec.sending, powering]

end


/-! ### Points and lists -/

theorem DemandList.point_mem {l : DemandList} {index : Nat} {p : Point} (point : l.point index = some p) :
    p ∈ l.points := by
  unfold DemandList.point at point
  split at point
  · cases point
  · exact List.mem_of_getElem? point

theorem DemandList.powers_trim {l : DemandList} (powers : l.powers) (maxPower : Nat) : (l.trim maxPower).powers := by
  intro p member
  simp only [DemandList.trim, List.mem_map] at member
  obtain ⟨q, member, rfl⟩ := member
  exact powers q member

/-- A list that passes the demand checks has power at each of its points (R46). -/
theorem readDemand_powers {payload : List Byte} {maxPower : Nat} {l : DemandList}
    (valid : readDemand payload maxPower = .valid l) : l.powers := by
  unfold readDemand at valid
  dsimp only at valid
  split at valid
  · cases valid
  · rename_i passed
    split at valid
    · injection valid with eq
      subst eq
      refine DemandList.powers_trim (fun p member => ?_) maxPower
      obtain ⟨-, -, -, range, -⟩ := (demandCheck_iff ..).1.mp passed
      have within := range p member
      omega
    · cases valid


/-! ### Requests to reduce -/

section
variable {i : SlotId} {s : State}

theorem dropPending_slot (s : State) (i : SlotId) :
    (s.dropPending i).slot i = { s.slot i with restated := none } := by
  unfold State.dropPending
  split
  · rw [slot_refuse, slot_modSlot_same]
  · rename_i none_
    have none_ : (s.slot i).restated = none := by simpa using none_
    rw [← none_]

theorem dropPending_order (s : State) (i : SlotId) : (s.dropPending i).ae = s.ae := by
  unfold State.dropPending
  split <;> rfl

/-- POWERED goes to REDUCING, its pending list dropped. -/
theorem beginReduce_sound (powered : (s.slot i).state = .powered) (index power : Nat) (origin : Origin) :
    ActSound i s ((s.dropPending i).beginReduce i index power origin) := by
  refine .stays (by simp [State.beginReduce]) ⟨?_, ?_, ?_, ?_⟩ (by rw [beginReduce_ae, dropPending_order]) ?_ <;>
    rw [slot_beginReduce, dropPending_slot]
  · intro en
    rw [powered] at en
    exact en
  · exact SlotRec.strikesRight_of rfl (by simp [SlotRec.reducingTo, powered])
  · intro lists l held
    rcases held with held | held | held
    · exact lists l (.inl held)
    · exact lists l (.inr (.inl held))
    · cases held
  · intro _ claim power
    obtain ⟨claimed, unfreed, granted, -⟩ := (SlotRec.powerRight_on (.inr (.inl powered)) claim).mp power
    exact (SlotRec.powerRight_on (.inr (.inr rfl)) claim).mpr ⟨claimed, unfreed, granted, nofun⟩
  · simp [SlotRec.reducingTo, powered]

theorem takeReduce_sound (i : SlotId) (s : State) (index power : Nat) (origin : Origin) :
    ActSound i s (s.takeReduce i index power origin) := by
  unfold State.takeReduce
  split
  · rename_i powered
    exact beginReduce_sound powered index power origin
  · unfold State.upgrade
    dsimp only
    split
    · exact (modSlot_quiet i s _ rfl rfl).trans (modLink_sound i _ _)
    · exact modSlot_quiet i s _ rfl rfl
  · exact owe_sound i s _
  · exact .refl i s

theorem policyReduce_sound (i : SlotId) (s : State) : ActSound i s (s.policyReduce i) := by
  unfold State.policyReduce
  dsimp only
  split
  · exact .refl i s
  · split
    · exact takeReduce_sound ..
    · exact takeReduce_sound ..
    · exact owe_sound ..
    · exact owe_sound ..
    · exact .refl i s

theorem carryOwed_sound (i : SlotId) (s : State) : ActSound i s (s.carryOwed i) := by
  unfold State.carryOwed
  dsimp only
  split
  · exact .refl i s
  · have paid : ActSound i s (s.modSlot i fun r => { r with owed := none }) := modSlot_quiet i s _ rfl rfl
    split
    · exact paid.trans (takeReduce_sound ..)
    · exact paid.trans (policyReduce_sound ..)

theorem carryHeld_sound (i : SlotId) (s : State) (l : DemandList) {mapped : Nat}
    (nonzero : ∀ claim, (s.slot i).powerRight claim → mapped ≠ 0) : ActSound i s (s.carryHeld i l mapped) := by
  unfold State.carryHeld
  dsimp only
  split
  · exact .refl i s
  · have paid : ActSound i s (s.modSlot i fun r => { r with owed := none }) := modSlot_quiet i s _ rfl rfl
    split
    · exact paid.trans (takeReduce_sound ..)
    · split
      · refine paid.trans (notify_sound i _ fun claim power => ?_)
        rw [slot_modSlot_same] at power
        have mapped_power : mapped ≠ 0 := nonzero claim power
        simp [Notice.frees, Notice.holding, mapped_power]
      · split
        · exact paid.trans (takeReduce_sound ..)
        · exact paid.trans (takeReduce_sound ..)

end


/-! ### Replies -/

section
variable {i : SlotId} {s : State}

/-- A record whose list in force is a list of points with power. -/
theorem SlotRec.listsRight_listed {r : SlotRec} {l : DemandList} {classLimit : Nat} (powers : l.powers) :
    (r.listed l classLimit).listsRight := by
  rintro m (held | held | held) <;> cases held
  exact powers

/-- A slot without power, or queued for it, takes a list in place of its own. -/
theorem SlotRec.Keeps.listed {r : SlotRec} {l : DemandList} (classLimit : Nat)
    (plain : r.state.off ∨ r.state = .waiting) (powers : l.powers) : r.Keeps (r.listed l classLimit) := by
  refine ⟨id, id, fun _ => SlotRec.listsRight_listed powers, fun _ claim power => ?_⟩
  rcases plain with off | waiting
  · exact (SlotRec.powerRight_off (by exact off) claim).mpr nofun
  · exact (SlotRec.powerRight_waiting (by exact waiting) claim).mpr
      ⟨((SlotRec.powerRight_waiting waiting claim).mp power).1, nofun⟩

theorem takeList_sound {l : DemandList} (state : (s.slot i).state = .identify ∨ (s.slot i).state = .standby ∨
    (s.slot i).state = .waiting ∨ (s.slot i).state = .parked) (powers : l.powers) : ActSound i s (s.takeList i l) := by
  have plain : (s.slot i).state.off ∨ (s.slot i).state = .waiting := by
    rcases state with st | st | st | st <;> simp [SlotState.off, st, SlotState.enabled, SlotState.poweredFamily]
  have given : (s.slot i).Keeps ((s.slot i).given l (s.policy i).classLimit (s.policy i).admits) ∧
      (((s.slot i).given l (s.policy i).classLimit (s.policy i).admits).state = .waiting ↔
        (s.slot i).state = .waiting) := by
    unfold SlotRec.given
    split
    · exact ⟨.listed _ plain powers, Iff.rfl⟩
    · rename_i unqueued
      rw [not_or] at unqueued
      have off : (s.slot i).state.off := plain.resolve_right unqueued.1
      split
      · refine ⟨.of_off ⟨rfl, nofun, nofun⟩ (fun en => en.trans off.1) (SlotRec.strikesRight_of rfl ?_) ?_ (.inl rfl), ?_⟩
        · rcases state with st | st | st | st <;> simp [st]
        · rintro m (held | held | held) <;> cases held
          exact .inr powers
        · simp [unqueued]
      · split
        · exact ⟨.listed _ plain powers, Iff.rfl⟩
        · refine ⟨.of_off off (fun en => en.trans off.1) id ?_ (.inr ⟨rfl, rfl⟩), Iff.rfl⟩
          rintro m (held | held | held)
          · exact .inl (.inl held)
          · cases held
            exact .inr powers
          · exact .inl (.inr (.inr held))
  have taken : (s.takeList i l).slot i = _ := slot_takeList s i l
  obtain ⟨-, ae, -⟩ := takeList_rest s i i l
  refine .stays (by simp) ?_ (by rw [ae]) (by rw [taken]; exact given.2)
  rw [taken]
  exact given.1.trans (.of_same rfl ⟨[_], rfl, fun _ _ => rfl⟩)

theorem beginRestatement_sound {l : DemandList} (powered : (s.slot i).state = .powered) (powers : l.powers) :
    ActSound i s (s.beginRestatement i l) := by
  refine .stays (by simp) ?_ (by rw [beginRestatement_ae]) ?_ <;> rw [slot_beginRestatement]
  · refine SlotRec.Keeps.trans (r₂ := { s.slot i with restated := some l, mapRequests := [] }) ⟨id, id, ?_, ?_⟩
      (.of_same rfl ⟨[_], rfl, fun _ _ => rfl⟩)
    · rintro lists m (held | held | held)
      · exact lists m (.inl held)
      · exact lists m (.inr (.inl held))
      · cases held
        exact powers
    · intro _ claim power
      obtain ⟨claimed, unfreed, granted, -⟩ := (SlotRec.powerRight_on (.inr (.inl powered)) claim).mp power
      exact (SlotRec.powerRight_on (.inr (.inl (by exact powered))) claim).mpr
        ⟨claimed, unfreed, granted, fun _ _ _ requested => absurd requested List.not_mem_nil⟩
  · exact Iff.rfl

/-! ### The end of a power-up, a raise, a mapping and RESYNC -/

/-- A card that gives up or never took its power stands in STANDBY or PARKED, its list kept or gone. -/
theorem SlotRec.Keeps.powerless {r r' : SlotRec} (unlocked : r.state ≠ .lockedOut)
    (state : r'.state = .standby ∨ r'.state = .parked) (en : r.en = r.state.enabled → r'.en = false)
    (strikes : r'.strikes = r.strikes) (lists : ∀ l, r'.holds l → r.holds l ∨ l.powers) (restated : r'.restated = none) :
    r.Keeps r' := by
  refine .of_off ?_ en (SlotRec.strikesRight_of strikes (iff_of_false ?_ unlocked)) lists (.inl restated) <;>
    rcases state with st | st <;> simp [st, SlotState.off, SlotState.enabled, SlotState.poweredFamily]

theorem releaseCut_sound {n : Notice} (family : (s.slot i).state.poweredFamily = true) :
    ActSound i s (s.releaseCut i n) := by
  refine .stays (by simp) ?_ (by rw [releaseCut_ae]) ?_ <;> rw [slot_releaseCut]
  · refine .powerless (fun locked => ?_) (.inl rfl) (fun _ => rfl) rfl ?_ rfl
    · rw [locked] at family; cases family
    · rintro m (held | held | held) <;> cases held
  · refine iff_of_false (by simp [SlotRec.sending, SlotRec.listless]) fun waiting => ?_
    rw [waiting] at family; cases family

theorem declineOffer_sound {o : Offered} {n : Notice} (offering : (s.slot i).state = .offering) :
    ActSound i s (s.declineOffer i o n) := by
  refine .stays (by simp) ?_ (by rw [declineOffer_ae]) ?_ <;> rw [slot_declineOffer]
  · refine .powerless (by simp [offering]) (.inl rfl) (fun en => ?_) rfl ?_ rfl
    · rw [offering] at en; exact en
    · rintro m (held | held | held) <;> cases held
  · simp [offering, SlotRec.sending, SlotRec.listless]

theorem revokeOffering_sound (offering : (s.slot i).state = .offering) : ActSound i s (s.revokeOffering i) := by
  have slot : (s.revokeOffering i).slot i = ((s.slot i).listless (s.policy i).classLimit).sending .released := by
    rw [State.revokeOffering, slot_notify, slot_linkAsk, slot_dropOffer]
  refine .stays (by simp) ?_ rfl ?_ <;> rw [slot]
  · refine .powerless (by simp [offering]) (.inl rfl) (fun en => ?_) rfl ?_ rfl
    · rw [offering] at en; exact en
    · rintro m (held | held | held) <;> cases held
  · simp [offering, SlotRec.sending, SlotRec.listless]

theorem withdrawDemand_sound (queued : (s.slot i).state = .waiting ∨ (s.slot i).state = .parked) :
    ActSound i s (s.withdrawDemand i) := by
  refine .leaves (by simp) ?_ (by rw [withdrawDemand_ae]; rfl) ?_ <;> rw [slot_withdrawDemand]
  · refine .powerless ?_ (.inl rfl) (fun en => ?_) rfl ?_ rfl
    · rcases queued with st | st <;> simp [st]
    · rcases queued with st | st <;> rw [st] at en <;> exact en
    · rintro m (held | held | held) <;> cases held
  · simp [SlotRec.sending, SlotRec.listless]

theorem enterDiscard_sound (idle : (s.slot i).state = .standby ∨ (s.slot i).state = .identify) :
    ActSound i s ((s.enter i .standby).discard i) := by
  refine .stays (by simp) ?_ rfl ?_ <;> rw [slot_discard, slot_enter]
  · refine .powerless ?_ (.inl rfl) (fun en => ?_) rfl ?_ rfl
    · rcases idle with st | st <;> simp [st]
    · rcases idle with st | st <;> rw [st] at en <;> exact en
    · rintro m (held | held | held) <;> cases held
  · rcases idle with st | st <;> simp [SlotRec.discard, st]

theorem resyncIdle_sound (resync : (s.slot i).state = .resync) : ActSound i s (s.resyncIdle i) := by
  refine .stays (by simp) ?_ rfl ?_ <;> rw [slot_resyncIdle]
  · refine .powerless (by simp [resync]) (.inl rfl) (fun _ => rfl) rfl ?_ rfl
    rintro m (held | held | held) <;> cases held
  · simp [resync, SlotRec.sending, SlotRec.listless]

theorem resyncUnpowered_sound {l : DemandList} (resync : (s.slot i).state = .resync) (powers : l.powers) :
    ActSound i s (s.resyncUnpowered i l) := by
  refine .stays (by simp) ?_ (by rw [resyncUnpowered_ae]) ?_ <;> rw [slot_resyncUnpowered]
  · refine .powerless (by simp [resync]) ?_ (fun _ => rfl) rfl ?_ rfl
    · show (if _ then SlotState.standby else .parked) = _ ∨ (if _ then SlotState.standby else .parked) = _
      split <;> simp
    · rintro m (held | held | held) <;> cases held
      exact .inr powers
  · refine iff_of_false ?_ (by simp [resync])
    show (if _ then SlotState.standby else .parked) ≠ _
    split <;> simp

theorem completeZero_sound {d : Reduction} (reducing : (s.slot i).state = .reducing) :
    ActSound i s (s.completeZero i d) := by
  refine .stays (by simp) ?_ (by rw [completeZero_ae]) ?_ <;> rw [slot_completeZero]
  · split
    · refine .powerless (by simp [reducing]) ?_ (fun _ => rfl) rfl ?_ rfl
      · show (if _ then SlotState.standby else .parked) = _ ∨ (if _ then SlotState.standby else .parked) = _
        split <;> simp
      · rintro m (held | held | held)
        · exact .inl (.inl held)
        · exact .inl (.inr (.inl held))
        · cases held
    · refine .powerless (by simp [reducing]) (.inl rfl) (fun _ => rfl) rfl ?_ rfl
      rintro m (held | held | held) <;> cases held
  · refine iff_of_false ?_ (by simp [reducing])
    split
    · show (if _ then SlotState.standby else .parked) ≠ _
      split <;> simp
    · simp [SlotRec.sending, SlotRec.listless]

end


section
variable {i : SlotId} {s : State} {o : Offered} {l : DemandList}

theorem SlotRec.grantedPower_of {r : SlotRec} (current : r.current = some l) : r.grantedPower = l.powerAt r.granted := by
  simp [SlotRec.grantedPower, current]

theorem unfreed_append {n : Notice} {l : List Notice} (unfreed : l.any Notice.frees = false) (more : n.frees = false) :
    (l ++ [n]).any Notice.frees = false := by
  simp [unfreed, more]

theorem poweringLevels_sound (powering : (s.slot i).state = .powering) : ActSound i s (s.poweringLevels i) := by
  unfold State.poweringLevels
  split
  · exact fault_sound ..
  · split
    · exact becomePowered_sound powering
    · exact .refl i s

theorem acceptOffer_sound (offering : (s.slot i).state = .offering) (offered : (s.slot i).offered = some o) :
    ActSound i s (s.acceptOffer i o) := by
  have stands : ActSound i s (s.offerStands i o) := by
    refine .stays (by simp [State.offerStands]) ⟨?_, ?_, ?_, ?_⟩ rfl ?_ <;> rw [slot_offerStands]
    · intro _; rfl
    · exact SlotRec.strikesRight_of rfl (by simp [SlotRec.sending, offering])
    · exact id
    · intro _ claim power
      obtain ⟨claimed, unfreed, ⟨o', l, same, current, point, nonzero⟩, requests⟩ :=
        (SlotRec.powerRight_offering offering claim).mp power
      cases offered.symm.trans same
      refine (SlotRec.powerRight_on (.inl rfl) claim).mpr ⟨claimed, ?_, ?_, requests⟩
      · exact unfreed_append unfreed (by simp [Notice.frees, Notice.holding, nonzero])
      · rw [SlotRec.grantedPower_of (by exact current)]
        exact point ▸ nonzero
    · simp [SlotRec.sending, offering]
  rw [acceptOffer_eq]
  exact stands.trans (poweringLevels_sound (by rw [slot_offerStands]; rfl))

theorem raiseStands_sound (raising : (s.slot i).state = .raising) (offered : (s.slot i).offered = some o) :
    ActSound i s (s.raiseStands i o) := by
  refine .stays (by simp [State.raiseStands]) ⟨?_, ?_, ?_, ?_⟩ rfl ?_ <;> rw [slot_raiseStands]
  · intro en; rw [raising] at en; exact en
  · exact SlotRec.strikesRight_of rfl (by simp [SlotRec.sending, raising])
  · exact id
  · intro _ claim power
    obtain ⟨claimed, unfreed, -, ⟨o', l, same, current, point, nonzero⟩, requests⟩ :=
      (SlotRec.powerRight_raising raising claim).mp power
    cases offered.symm.trans same
    refine (SlotRec.powerRight_on (.inr (.inl rfl)) claim).mpr ⟨claimed, ?_, ?_, requests⟩
    · exact unfreed_append unfreed (by simp [Notice.frees, Notice.holding, nonzero])
    · rw [SlotRec.grantedPower_of (by exact current)]
      exact point ▸ nonzero
  · simp [SlotRec.sending, raising]

theorem raiseDeclines_sound (raising : (s.slot i).state = .raising) : ActSound i s (s.raiseDeclines i o) := by
  refine .stays (by simp [State.raiseDeclines]) ⟨?_, ?_, ?_, ?_⟩ rfl ?_ <;> rw [slot_raiseDeclines]
  · intro en; rw [raising] at en; exact en
  · exact SlotRec.strikesRight_of rfl (by simp [SlotRec.sending, raising])
  · exact id
  · intro _ claim power
    obtain ⟨claimed, unfreed, granted, -, requests⟩ := (SlotRec.powerRight_raising raising claim).mp power
    refine (SlotRec.powerRight_on (.inr (.inl rfl)) claim).mpr ⟨claimed, ?_, granted, requests⟩
    exact unfreed_append unfreed (by simp [Notice.frees, Notice.holding, granted])
  · simp [SlotRec.sending, raising]

theorem mappingStands_sound (restating : (s.slot i).state = .restating) (offered : (s.slot i).offered = some o)
    (pending : (s.slot i).restated = some l) : ActSound i s (s.mappingStands i l o) := by
  refine .stays (by simp [State.mappingStands]) ⟨?_, ?_, ?_, ?_⟩ rfl ?_ <;> rw [slot_mappingStands]
  · intro en; rw [restating] at en; exact en
  · exact SlotRec.strikesRight_of rfl (by simp [SlotRec.sending, restating])
  · intro lists
    rintro m (held | held | held) <;> cases held
    exact lists l (.inr (.inr pending))
  · intro _ claim power
    obtain ⟨claimed, unfreed, -, ⟨o', l', same, pending', of⟩, -⟩ := (SlotRec.powerRight_restating restating claim).mp power
    cases offered.symm.trans same
    cases pending.symm.trans pending'
    refine (SlotRec.powerRight_on (.inr (.inl rfl)) claim).mpr ⟨claimed, ?_, ?_, nofun⟩
    · exact unfreed_append unfreed (by simp [Notice.frees, Notice.holding, of.2])
    · rw [SlotRec.grantedPower_of rfl]
      exact of.1 ▸ of.2
  · simp [SlotRec.sending, restating]

theorem acceptMapping_sound (restating : (s.slot i).state = .restating) (offered : (s.slot i).offered = some o)
    (pending : (s.slot i).restated = some l) : ActSound i s (s.acceptMapping i l o) := by
  rw [acceptMapping_eq]
  refine (mappingStands_sound restating offered pending).trans (carryHeld_sound i _ l fun claim power zero => ?_)
  rw [slot_mappingStands] at power
  have unfreed := ((SlotRec.powerRight_on (.inr (.inl rfl)) claim).mp power).2.1
  simp [SlotRec.sending, zero, Notice.frees, Notice.holding] at unfreed

/-- RESYNC concludes at a point of the card's list. -/
theorem resyncPowered_sound {p : Point} (resync : (s.slot i).state = .resync) (powers : l.powers) {c : Nat}
    (point : l.point c = some p) : ActSound i s (s.resyncPowered i l c) := by
  have at_point : l.powerAt c = p.power := DemandList.powerAt_of_point point
  have nonzero : p.power ≠ 0 := powers p (DemandList.point_mem point)
  have stands : ActSound i s (s.resyncStands i l c) := by
    refine .stays (by simp [State.resyncStands]) ⟨?_, ?_, ?_, ?_⟩ (by rw [resyncStands_ae]) ?_ <;> rw [slot_resyncStands]
    · intro en; rw [resync] at en; exact en
    · exact SlotRec.strikesRight_of rfl (by simp [SlotRec.sending, resync])
    · intro _
      rintro m (held | held | held) <;> cases held
      exact powers
    · intro _ claim power
      obtain ⟨claimed, unfreed, -⟩ := (SlotRec.powerRight_resync resync claim).mp power
      refine (SlotRec.powerRight_on (.inr (.inl rfl)) claim).mpr ⟨claimed, ?_, ?_, nofun⟩
      · exact unfreed_append unfreed (by simp [Notice.frees, Notice.holding, at_point, nonzero])
      · rw [SlotRec.grantedPower_of rfl]
        exact at_point ▸ nonzero
    · simp [SlotRec.sending, resync]
  rw [resyncPowered_eq]
  exact stands.trans (carryOwed_sound ..)

end


/-! ### Every reply and failure -/

section
variable (i : SlotId) (s : State)

theorem cut_frame : SlotFrame i s (s.cut i) := by simp

theorem resyncDemand_sound {v : Verdict} (resync : (s.slot i).state = .resync)
    (powers : ∀ l, v = .valid l → l.powers) : ActSound i s (s.resyncDemand i v) := by
  cases v with
  | malformed n => exact fault_behind i s (u := (s.cut i).demandBad i (.malformed n)) (by simp) rfl _
  | overMax => exact fault_behind i s (u := (s.cut i).demandBad i .overMax) (by simp) rfl _
  | valid l =>
    unfold State.resyncDemand
    dsimp only
    split
    · exact resyncUnpowered_sound resync (powers l rfl)
    · split
      · rename_i available
        cases point : l.point l.currentIndex.toNat with
        | none => simp [point] at available
        | some p => exact resyncPowered_sound resync (powers l rfl) point
      · exact fault_behind i s (u := (s.cut i).demandEvents i l) (by simp) (by simp) _

theorem onDemand_sound (payload : List Byte) : ActSound i s (s.onDemand i payload) := by
  have taken (state : (s.slot i).state = .identify ∨ (s.slot i).state = .standby ∨ (s.slot i).state = .waiting ∨
      (s.slot i).state = .parked) : ActSound i s (s.onDemand i payload) := by
    cases valid : readDemand payload (s.policy i).maxPower with
    | valid l =>
      rw [onDemand_list state valid]
      exact takeList_sound state (readDemand_powers valid)
    | malformed n =>
      rw [onDemand_rejected state valid nofun]
      exact (demandBad_sound i s _).trans (fault_sound ..)
    | overMax =>
      rw [onDemand_rejected state valid nofun]
      exact (demandBad_sound i s _).trans (fault_sound ..)
  have refused (state : (s.slot i).state = .offering ∨ (s.slot i).state = .powering ∨ (s.slot i).state = .raising ∨
      (s.slot i).state = .restating ∨ (s.slot i).state = .reducing ∨
      (s.slot i).state = .powered ∧ (s.slot i).restated.isSome = true) : ActSound i s (s.onDemand i payload) := by
    rw [onDemand_refused state]
    exact refuse_sound i s
  cases state : (s.slot i).state
  case identify | standby | waiting | parked => exact taken (by simp [state])
  case offering | powering | raising | restating | reducing => exact refused (by simp [state])
  case powered =>
    cases pending : (s.slot i).restated with
    | some l => exact refused (by simp [state, pending])
    | none =>
      cases valid : readDemand payload (s.policy i).maxPower with
      | valid l =>
        rw [onDemand_powered state pending valid]
        exact beginRestatement_sound state (readDemand_powers valid)
      | malformed n =>
        rw [onDemand_powered_rejected state pending valid nofun]
        exact (demandBad_sound i s _).trans (modLink_sound i _ _)
      | overMax =>
        rw [onDemand_powered_rejected state pending valid nofun]
        exact (demandBad_sound i s _).trans (modLink_sound i _ _)
  case resync =>
    rw [onDemand_resync state]
    exact resyncDemand_sound i s state fun l valid => readDemand_powers valid
  case empty | settling | faulted | lockedOut =>
    simp only [State.onDemand, state]
    exact .refl i s

theorem onAccept_sound : ActSound i s (s.onAccept i) := by
  unfold State.onAccept
  split
  · rename_i offering offered
    exact acceptOffer_sound offering offered
  · rename_i raising offered
    rw [acceptRaise_eq]
    exact (raiseStands_sound raising offered).trans (carryOwed_sound ..)
  · rename_i restating offered
    split
    · rename_i pending
      exact acceptMapping_sound restating offered pending
    · exact .refl i s
  · exact .refl i s

theorem onDecline_sound : ActSound i s (s.onDecline i) := by
  unfold State.onDecline
  split
  · rename_i offering _
    exact declineOffer_sound offering
  · rename_i raising _
    rw [declineRaise_eq]
    exact (raiseDeclines_sound raising).trans (carryOwed_sound ..)
  · rename_i restating
    exact releaseCut_sound (by rw [restating]; rfl)
  · exact .refl i s

theorem onRelease_sound : ActSound i s (s.onRelease i) := by
  cases state : (s.slot i).state
  case powering | powered | raising | restating | reducing =>
    rw [(onRelease_onIdle_powered (by rw [state]; rfl)).1]
    exact releaseCut_sound (by rw [state]; rfl)
  case offering =>
    cases offered : (s.slot i).offered with
    | some o =>
      simp only [State.onRelease, state, offered]
      exact declineOffer_sound state
    | none =>
      simp only [State.onRelease, state, offered]
      exact .refl i s
  case waiting | parked =>
    rw [(onRelease_onIdle_queued (by simp [state])).1]
    exact withdrawDemand_sound (by simp [state])
  case identify | standby =>
    rw [(onRelease_onIdle_listless (by simp [state])).1]
    exact enterDiscard_sound (by simp [state])
  case empty | settling | faulted | lockedOut | resync =>
    simp only [State.onRelease, state]
    exact .refl i s

theorem onIdle_sound : ActSound i s (s.onIdle i) := by
  cases state : (s.slot i).state <;> simp only [State.onIdle, state]
  case powering | powered | raising | restating | reducing => exact releaseCut_sound (by rw [state]; rfl)
  case waiting | parked => exact withdrawDemand_sound (by simp [state])
  case identify | standby => exact enterDiscard_sound (by simp [state])
  case resync => exact resyncIdle_sound state
  case offering | empty | settling | faulted | lockedOut => exact .refl i s

variable {i s} in
/-- A reduction's next point, held or reached, is one of the list in force, with its power. -/
theorem SlotRec.Keeps.reduced {r r' : SlotRec} {l : DemandList} {p : Point} {index : Nat} (reducing : r.state = .reducing)
    (current : r.current = some l) (point : l.point index = some p) (state : r'.state = .powered ∨ r'.state = .reducing)
    (granted : r'.granted = index) (en : r'.en = r.en) (strikes : r'.strikes = r.strikes)
    (lists : r'.current = r.current ∧ r'.arriving = r.arriving ∧ r'.restated = r.restated)
    (requests : r'.mapRequests = r.mapRequests) (outbox : r'.outbox = r.outbox ++ [.reduced p.power]) : r.Keeps r' := by
  obtain ⟨same, same', same''⟩ := lists
  refine ⟨fun h => ?_, ?_, ?_, fun powers claim power => ?_⟩
  · rw [en, h, reducing]
    rcases state with st | st
    · rw [st]; rfl
    · rw [st]
  · refine SlotRec.strikesRight_of strikes (iff_of_false ?_ (by simp [reducing]))
    rcases state with st | st <;> simp [st]
  · unfold SlotRec.listsRight SlotRec.holds
    rw [same, same', same'']
    exact id
  · obtain ⟨claimed, unfreed, -, unmapped⟩ := (SlotRec.powerRight_on (.inr (.inr reducing)) claim).mp power
    have nonzero : p.power ≠ 0 := powers l (.inl current) p (DemandList.point_mem point)
    refine (SlotRec.powerRight_on (.inr state) claim).mpr ⟨claimed, ?_, ?_, ?_⟩
    · rw [outbox]
      exact unfreed_append unfreed (by simp [Notice.frees, Notice.holding, nonzero])
    · rw [SlotRec.grantedPower_of (same.trans current), granted, DemandList.powerAt_of_point point]
      exact nonzero
    · rw [same'', requests]
      exact unmapped

theorem onReduced_sound (answers : Bool) (index : Nat) : ActSound i s (s.onReduced i answers index) := by
  unfold State.onReduced
  split
  · rename_i d l reducing _ current
    split
    · split
      · exact onNoted_sound i s
      · exact .refl i s
    · split
      · exact completeZero_sound reducing
      · split
        · exact modLink_sound i s _
        · rename_i p point
          split
          · refine .stays (by simp) ?_ rfl ?_ <;> rw [slot_completeAt]
            · exact .reduced reducing current point (.inl rfl) rfl rfl rfl ⟨rfl, rfl, rfl⟩ rfl rfl
            · simp [SlotRec.sending, SlotRec.reduced, reducing]
          · split
            · refine .stays (by simp) ?_ rfl ?_ <;> rw [slot_completePart]
              · exact .reduced reducing current point (.inr reducing) rfl rfl rfl ⟨rfl, rfl, rfl⟩ rfl rfl
              · exact Iff.rfl
            · exact modLink_sound i s _
  · exact .refl i s

theorem onReply_sound (f : Frame) (r : Reply) : ActSound i s (s.onReply i f r) := by
  unfold State.onReply
  dsimp only
  refine (restore_sound i s).trans ?_
  split
  · exact onDemand_sound ..
  · exact onAccept_sound ..
  · exact onDecline_sound ..
  · exact onNoted_sound ..
  · exact onReduced_sound ..
  · exact onRelease_sound ..
  · exact onIdle_sound ..

theorem onFailure_sound : ActSound i s (s.onFailure i) := by
  cases state : (s.slot i).state <;> simp only [State.onFailure, state]
  case identify | standby | waiting | parked | resync => exact fault_sound i s _
  case offering => exact fault_behind i s (u := s.linkWithdraw i) (by simp) rfl _
  case powering | powered | raising | restating | reducing => exact startGrace_sound i s
  case empty | settling | faulted | lockedOut => exact .refl i s

theorem badReply_sound (x : Exchange) (f : NearFlag) : ActSound i s (s.badReply i x f) := by
  unfold State.badReply
  dsimp only
  refine (modLink_sound i s fun l => l.withNear f).trans ?_
  split
  · exact modLink_sound i _ _
  · split
    · exact modLink_sound i _ _
    · unfold State.linkFailed
      dsimp only
      refine (modLink_sound i _ fun l => l.failed x).trans ?_
      split
      · exact (event_sound i _ _ _ _ _).trans (onFailure_sound ..)
      · exact onFailure_sound ..

theorem linkGood_sound (x : Exchange) (r : Reply) : ActSound i s (s.linkGood i x r) :=
  .of_slot i s (by simp) (by rw [(linkGood_frame s i x r).2.1]) (slot_linkGood s i i x r)

theorem judged_sound (x : Exchange) (j : Judged) : ActSound i s (s.judged i x j) := by
  cases j with
  | bad f => exact badReply_sound i s x f
  | good r => exact (linkGood_sound i s x r).trans (onReply_sound ..)

theorem receive_sound (r : Reply) : ActSound i s (s.receive i r) := by
  unfold State.receive
  split
  · exact judged_sound ..
  · split
    · exact modLink_sound i s _
    · exact .refl i s

theorem receiveBytes_sound (bytes : List Byte) : ActSound i s (s.receiveBytes i bytes) := by
  unfold State.receiveBytes
  split
  · exact judged_sound ..
  · split
    · exact modLink_sound i s _
    · exact .refl i s

theorem windowClosed_sound : ActSound i s (s.windowClosed i) := by
  unfold State.windowClosed
  split
  · exact badReply_sound ..
  · split
    · exact modLink_sound i s _
    · exact .refl i s

theorem lineTimeout_sound (attempt : Bool) : ActSound i s (s.lineTimeout i attempt) := by
  have takeUp : ActSound i s (s.takeUpTimeout i) := by
    unfold State.takeUpTimeout
    dsimp only
    refine (modLink_sound i s fun l => l.takeUp s.retryLimit).trans ?_
    split
    · exact badReply_sound ..
    · exact .refl i _
  have timeout : ActSound i s (s.attemptTimeout i) := by
    unfold State.attemptTimeout
    split
    · split
      · exact badReply_sound ..
      · exact .refl i s
    · split
      · exact .refl i s
      · exact takeUp
  unfold State.lineTimeout
  split
  · exact .refl i s
  · split
    · exact timeout
    · exact modLink_sound i s _

/-! ### Requests from the CU and RESTATE-MAP -/

theorem revoke_sound : ActSound i s (s.revoke i) := by
  unfold State.revoke
  split
  · rename_i offering
    exact revokeOffering_sound offering
  · rename_i powering
    exact releaseCut_sound (by rw [powering]; rfl)
  · exact takeReduce_sound ..
  · exact takeReduce_sound ..
  · exact owe_sound ..
  · exact owe_sound ..
  · exact owe_sound ..
  · exact .refl i s

theorem answer_sound (k : Fin 4) (num : Byte) (r : CmdResult) (d : Nat) : ActSound i s (s.answer i k num r d) :=
  notify_sound i s fun _ _ => rfl

theorem takeRevoke_sound (k : Fin 4) (num : Byte) : ActSound i s (s.takeRevoke i k num) := by
  unfold State.takeRevoke
  dsimp only
  split
  · exact answer_sound ..
  · exact ((setWatch_sound i s _).trans (revoke_sound ..)).trans (watchCheck_sound ..)

theorem takeReset_sound (k : Fin 4) (num : Byte) : ActSound i s (s.takeReset i k num) := by
  unfold State.takeReset
  dsimp only
  split
  · rename_i faulted
    refine ActSound.trans ?_ (answer_sound ..)
    refine .stays (by simp) ?_ rfl ?_ <;> rw [slot_identify, slot_modSlot_same]
    · refine .of_off ⟨rfl, nofun, nofun⟩ (fun en => ?_) (fun _ => ⟨Nat.zero_le 3, iff_of_false nofun nofun⟩)
        (fun l held => .inl held) (.inr ⟨rfl, rfl⟩)
      rcases faulted with st | st <;> rw [st] at en <;> exact en
    · rcases faulted with st | st <;> simp [st]
  · exact answer_sound ..

theorem discard_sound (standby : (s.slot i).state = .standby) : ActSound i s (s.discard i) := by
  refine .stays (by simp) ?_ rfl ?_ <;> rw [slot_discard]
  · refine .of_off (by simp [SlotRec.discard, standby, SlotState.off, SlotState.enabled, SlotState.poweredFamily])
      (fun en => ?_) id ?_ (.inl rfl)
    · rw [standby] at en; exact en
    · rintro m (held | held | held) <;> cases held
  · exact Iff.rfl

theorem takeRequery_sound (k : Fin 4) (num : Byte) : ActSound i s (s.takeRequery i k num) := by
  by_cases counts : (s.slot i).awaitsEntry = false ∧ (s.slot i).state = .standby
  · obtain ⟨unawaited, standby⟩ := counts
    have taken : s.takeRequery i k num = ((s.discard i).identify i).answer i k num .ok SlotState.standby.code := by
      simp only [State.takeRequery, unawaited, standby, Bool.false_eq_true, if_false, if_true]
    rw [taken]
    refine ((discard_sound i s standby).trans (identify_sound ?_ ?_)).trans (answer_sound ..) <;>
      rw [slot_discard] <;> simp [SlotRec.discard, standby, SlotState.off, SlotState.enabled, SlotState.poweredFamily]
  · have refused : ∃ d, s.takeRequery i k num = s.answer i k num .wrongState d := by
      refine ⟨_, if_neg fun standby => ?_⟩
      split at standby
      · cases standby
      · rename_i unawaited
        exact counts ⟨by simpa using unawaited, standby⟩
    obtain ⟨d, taken⟩ := refused
    rw [taken]
    exact answer_sound ..

/-- A RESTATE-MAP request taken names a point of the pending list. -/
theorem nextMap_sound : ActSound i s (s.nextMap i) := by
  unfold State.nextMap
  split
  · exact .refl i s
  · rename_i o rest requests
    have dropped : ActSound i s (s.modSlot i fun r => { r with mapRequests := rest }) := by
      refine .stays (by simp) ?_ rfl ?_ <;> rw [slot_modSlot_same]
      · refine ⟨id, id, id, fun _ claim ⟨claims, frees, grants, offers, mapping, unmapped⟩ =>
          ⟨claims, frees, grants, offers, mapping, fun l pending o member => ?_⟩⟩
        exact unmapped l pending o (by rw [requests]; exact .tail _ member)
    by_cases taken : (s.slot i).state = .powered ∧ (s.slot i).restated.isSome = true
    · obtain ⟨powered, some_l⟩ := taken
      obtain ⟨l, pending⟩ := Option.isSome_iff_exists.mp some_l
      cases o with
      | none =>
        rw [takeMap_none (by rw [slot_modSlot_same]; exact powered) (by rw [slot_modSlot_same]; exact pending)]
        refine dropped.trans (ActSound.trans (t := (s.modSlot i fun r => { r with mapRequests := rest }).modSlot i
          fun r => { r with restated := none }) (.stays (by simp) ?_ rfl ?_) (refuse_sound i _)) <;>
          simp only [slot_modSlot_same]
        refine ⟨id, id, ?_, fun _ claim power => ?_⟩
        · rintro lists m (held | held | held)
          · exact lists m (.inl held)
          · exact lists m (.inr (.inl held))
          · cases held
        · obtain ⟨claimed, unfreed, granted, -⟩ :=
            (SlotRec.powerRight_on (.inr (.inl (by exact powered))) claim).mp power
          exact (SlotRec.powerRight_on (.inr (.inl (by exact powered))) claim).mpr ⟨claimed, unfreed, granted, nofun⟩
      | some q =>
        have mapped : ((s.modSlot i fun r => { r with mapRequests := rest }).takeMap i (some q)).slot i =
            { s.slot i with
              mapRequests := rest, state := .restating
              offered := some { q with tag := ((l.point q.index).map Point.tag).getD 0 } } := by
          simp only [State.takeMap, slot_modSlot_same, powered, pending, slot_linkRequest]
        refine .stays (by rw [SlotFrame.takeMap_iff]; simp) ?_ (by unfold State.takeMap; repeat' split; all_goals rfl) ?_ <;>
          rw [mapped]
        · refine ⟨fun en => ?_, SlotRec.strikesRight_of rfl (by simp [powered]), id, fun _ claim power => ?_⟩
          · rw [powered] at en; exact en
          · obtain ⟨claimed, unfreed, granted, unmapped⟩ := (SlotRec.powerRight_on (.inr (.inl powered)) claim).mp power
            have of : q.of l := unmapped l pending q (by rw [requests]; exact List.mem_cons_self)
            refine (SlotRec.powerRight_restating rfl claim).mpr ⟨claimed, unfreed, granted, ⟨_, l, rfl, pending, of⟩, ?_⟩
            intro m pending' o member
            exact unmapped m pending' o (by rw [requests]; exact .tail _ member)
        · simp [powered]
    · rw [takeMap_discarded (by
        rw [slot_modSlot_same]
        by_cases powered : (s.slot i).state = .powered
        · exact .inr (by simpa [powered] using taken)
        · exact .inl powered)]
      exact dropped

/-! ### Timers and inputs -/

theorem sample_sound (presN pg fltN : Option Bool) : ActSound i s (s.sample i presN pg fltN) := by
  have recorded : ActSound i s (s.modSlot i fun r => r.sampled presN pg fltN) := modSlot_quiet i s _ rfl rfl
  have state : ((s.modSlot i fun r => r.sampled presN pg fltN).slot i).state = (s.slot i).state := by
    rw [slot_modSlot_same]; rfl
  unfold State.sample
  dsimp only
  split
  · exact recorded.trans (remove_sound ..)
  · split
    · rename_i present
      exact recorded.trans (settle_sound (by rw [state]; exact present.2))
    · split
      · exact recorded.trans (fault_sound ..)
      · split
        · rename_i good
          exact recorded.trans (becomePowered_sound (by rw [state]; exact good.2))
        · split
          · exact recorded.trans (fault_sound ..)
          · exact recorded

theorem settleExpires_sound : ActSound i s (s.settleExpires i) := by
  unfold State.settleExpires
  split
  · rename_i runs
    have settling : (s.slot i).state = .settling := of_decide_eq_true (Bool.and_eq_true_iff.mp runs).2
    exact identify_sound (by simp [settling, SlotState.off, SlotState.enabled, SlotState.poweredFamily])
      (by simp [settling])
  · exact .refl i s

theorem holdoffExpires_sound : ActSound i s (s.holdoffExpires i) := by
  unfold State.holdoffExpires
  split
  · rename_i runs
    have faulted : (s.slot i).state = .faulted := of_decide_eq_true (Bool.and_eq_true_iff.mp runs).2
    refine (event_sound i s _ _ _ _).trans (identify_sound ?_ ?_) <;> rw [slot_event] <;>
      simp [faulted, SlotState.off, SlotState.enabled, SlotState.poweredFamily]
  · exact .refl i s

theorem cleanExpires_sound : ActSound i s (s.cleanExpires i) := by
  unfold State.cleanExpires
  split
  · rename_i runs
    have family : (s.slot i).state.poweredFamily = true := (Bool.and_eq_true_iff.mp runs).2
    refine .stays (by simp) ?_ rfl ?_ <;> rw [slot_modSlot_same]
    refine ⟨id, fun _ => ⟨Nat.zero_le 3, iff_of_false ?_ nofun⟩, id, fun _ claim power => power⟩
    intro locked
    rw [show (s.slot i).state = .lockedOut from locked] at family
    cases family
  · exact .refl i s

/-- Every act of slot `i`'s Slot Sequencer is sound. -/
theorem SlotAct.sound {f : State → State} (act : SlotAct i f) : ActSound i s (f s) := by
  cases act
  case sample presN pg fltN => exact sample_sound ..
  case settleExpires => exact settleExpires_sound ..
  case rampExpires =>
    show ActSound i s (s.rampExpires i)
    unfold State.rampExpires
    split
    · exact fault_sound ..
    · exact .refl i s
  case reduceExpires =>
    show ActSound i s (s.reduceExpires i)
    unfold State.reduceExpires
    split
    · exact fault_sound ..
    · exact .refl i s
  case graceExpires =>
    show ActSound i s (s.graceExpires i)
    unfold State.graceExpires
    split
    · exact fault_sound ..
    · exact .refl i s
  case holdoffExpires => exact holdoffExpires_sound ..
  case cleanExpires => exact cleanExpires_sound ..
  case lineTimeout attempt => exact lineTimeout_sound ..
  case windowClosed => exact windowClosed_sound ..
  case receive r => exact receive_sound ..
  case receiveBytes bytes => exact receiveBytes_sound ..
  case nextMap => exact nextMap_sound ..
  case takeRevoke k num => exact takeRevoke_sound ..
  case takeReset k num => exact takeReset_sound ..
  case takeRequery k num => exact takeRequery_sound ..
  case unwatch k num => exact modSlot_quiet i s _ rfl rfl
  case watchCheck => exact watchCheck_sound ..

end

end Sys2Proof.Machine
end

section
/-! The account along every step (R13, R14, R113, R114): what a notice makes of it as a chain of small acts
(`NoticeClosed`), and the invariants of committed, the earmark, the grant order list and the victim list. -/

namespace Sys2Proof.Machine

/-! ### The acts of a notice -/

/-- The slot stands without power, for a property that keeps every slot standing well. -/
def Vacant (strict : Prop) (s : State) (i : SlotId) : Prop := strict → (s.slot i).state.off

/-- A property of the state that every act of the AE on a notice's account keeps. -/
structure NoticeClosed (P : State → Prop) (strict : Prop) : Prop where
  event : ∀ s k o a b, P s → P (s.event k o a b)
  entry : ∀ s i f, (∀ e, (f e).claim = e.claim) → P s → P (s.modEntry i f)
  holding : ∀ s i h, (h = 0 → Vacant strict s i) → P s → P (s.takeHolding i h)
  place : ∀ s i place, (∀ l : List SlotId, i ∉ l → l.Nodup → (place l).Nodup ∧ ∀ j ∈ place l, j = i ∨ j ∈ l) →
    P s → P (s.joinGrants i place)
  entering : ∀ s i, (s.slot i).state = .identify ∨ (s.slot i).state = .standby → s.freed i = true → P s →
    P (s.admitDemand i)
  current : ∀ s i l, (s.slot i).state = .identify ∨ (s.slot i).state = .standby → (s.slot i).arriving = some l → P s →
    P (s.makeCurrent i l)
  floor : ∀ s i, P s → P (s.followFloor i)
  mapping : ∀ s i, P s → P (s.mapRestatement i)
  counted : ∀ s n, P s → P { s with ae := { s.ae with resyncPowered := n } }
  period : ∀ s, P s → P { s with ae := { s.ae with resyncActive := false } }
  judged : ∀ s i n c, P s → P (s.judgeNotice i n c)

theorem slot_takeHolding (s : State) (i j : SlotId) (h : Nat) : (s.takeHolding i h).slot j = s.slot j := by
  have evaluated (t : State) : t.evalExcess.slot j = t.slot j := by rw [State.slot, evalExcess_slots]; rfl
  rw [State.takeHolding, evaluated]
  split <;> rfl

namespace NoticeClosed

variable {P : State → Prop} {strict : Prop} (closed : NoticeClosed P strict) {s : State} (i : SlotId)
include closed

theorem admitKept (h : P s) : P (s.admitKept i) := by
  unfold State.admitKept
  split
  · rename_i awaits
    exact closed.entering s i (.inr awaits.1) awaits.2.2 h
  · exact h

theorem takeAnswer (n : Nat) (vacant : n = 0 → Vacant strict s i) (h : P s) : P (s.takeAnswer i n) :=
  closed.holding _ i n vacant (closed.entry s i _ (fun _ => rfl) h)

theorem joinTail (h : P s) : P (s.joinTail i) :=
  closed.place s i _ (fun l absent nodup => by
    refine ⟨List.nodup_append.mpr ⟨nodup, List.nodup_singleton i, fun j hj k hk => ?_⟩, fun j hj => ?_⟩
    · rintro rfl
      exact absent (List.mem_singleton.mp hk ▸ hj)
    · rcases List.mem_append.mp hj with hj | hj
      · exact .inr hj
      · exact .inl (List.mem_singleton.mp hj)) h

theorem joinBySlot (h : P s) : P (s.joinBySlot i) :=
  closed.place s i _ (fun _ absent nodup => ⟨nodup_insertBySlot absent nodup, fun _ => mem_insertBySlot.mp⟩) h

theorem takePowered (n : Nat) (vacant : n = 0 → Vacant strict s i) (h : P s) : P (s.takePowered i n) := by
  have held := closed.holding s i n vacant h
  unfold State.takePowered
  dsimp only
  split
  · exact closed.counted _ _ (closed.joinBySlot i held)
  · exact held

theorem takeDemand (h : P s) : P (s.takeDemand i) := by
  unfold State.takeDemand
  split
  · rename_i l arriving
    split
    · rename_i enters
      obtain ⟨state, -, freed⟩ := enters
      refine closed.entering _ i ?_ ?_ (closed.current s i l state arriving h)
      · rw [slot_makeCurrent]; exact state
      · rw [State.freed, slot_makeCurrent]; exact freed
    · exact h
  · exact closed.floor _ i (closed.admitKept i h)

/-- A notice's account is such acts alone. -/
theorem account (n : Notice) (vacant : n.frees = true → Vacant strict s i) (h : P s) : P (s.account i n) := by
  have freeing {k : Nat} (holds : n.holding = some k) (zero : k = 0) : Vacant strict s i :=
    vacant (by simp [Notice.frees, holds, zero])
  have taken : P (s.takeNotice i n) := by
    cases n with
    | demand restating k =>
      cases restating with
      | true => exact closed.mapping s i h
      | false =>
        cases k with
        | none => exact closed.takeDemand i h
        | some k => exact closed.admitKept i (closed.holding s i k (freeing rfl) h)
    | accepted asked k =>
      cases asked with
      | mapping => exact closed.entry _ i _ (fun _ => rfl) (closed.holding s i k (freeing rfl) h)
      | offer => exact closed.joinTail i (closed.takeAnswer i k (freeing rfl) h)
      | raise => exact closed.joinTail i (closed.takeAnswer i k (freeing rfl) h)
    | declined asked k =>
      cases asked with
      | mapping => exact closed.holding s i k (freeing rfl) h
      | offer => exact closed.takeAnswer i k (freeing rfl) h
      | raise => exact closed.takeAnswer i k (freeing rfl) h
    | noted => exact h
    | reduced k =>
      have restated := closed.entry _ i (fun e => { e with restating := false }) (fun _ => rfl)
        (closed.holding s i k (freeing rfl) h)
      show P (if k = 0 then _ else _)
      split
      · exact closed.admitKept i restated
      · exact restated
    | released => exact closed.admitKept i (closed.holding s i 0 (freeing rfl) h)
    | faulted cause => exact closed.holding s i 0 (freeing rfl) h
    | removed => exact closed.holding s i 0 (freeing rfl) h
    | powered k => exact closed.takePowered i k (freeing rfl) h
    | answer => exact h
  unfold State.account State.resyncConcludes
  dsimp only
  split
  · split
    · exact closed.event _ _ _ _ _ (closed.period _ (closed.entry _ i _ (fun _ => rfl) (closed.judged _ i n _ taken)))
    · exact closed.entry _ i _ (fun _ => rfl) (closed.judged _ i n _ taken)
  · exact closed.judged _ i n _ taken

end NoticeClosed

/-! ### Committed, excess and the earmark (R13, R114) -/

/-- The kept excess condition is right, and nothing is earmarked outside an active ADMIT reclaim. -/
def State.accountRight (s : State) : Prop := s.excessRight ∧ s.earmarkRight

theorem State.accountRight.of_account {s t : State} (same : t.ae.account = s.ae.account) (h : s.accountRight) :
    t.accountRight := by
  obtain ⟨excess, earmark⟩ := h
  refine ⟨?_, ?_⟩
  · unfold State.excessRight
    rw [excess_of_account same, effective_of_account same, committed_of_account same]
    exact excess
  · unfold State.earmarkRight
    rw [reclaim_of_account same]
    exact earmark

theorem account_admitDemand (s : State) (i : SlotId) : (s.admitDemand i).ae.account = s.ae.account := by
  have frame : AccountFrame s (s.admitDemand i) := by simp [State.admitDemand]
  exact frame.1

theorem evalExcess_accountRight {s : State} (h : s.earmarkRight) : s.evalExcess.accountRight :=
  ⟨evalExcess_right s, by unfold State.earmarkRight; rw [evalExcess_ae]; exact h⟩

/-- The reclaim record given anew, with its earmark in order. -/
theorem withReclaim_accountRight {s : State} {r : Reclaim} (h : s.accountRight)
    (earmark : r.earmark ≠ 0 → r.active = true ∧ r.kind = .admission) : (s.withReclaim r).accountRight :=
  ⟨h.1, earmark⟩

theorem rulesClosed_accountRight : RulesClosed State.accountRight where
  event _ _ _ _ _ h := h
  blocked s i x h := h.of_account (account_blocked s i x)
  reduce s i index power h := h.of_account (account_takeReduce s i index power .reclaim)
  opened s r _ opens h := withReclaim_accountRight h fun marked => by
    obtain ⟨active, ⟨kind, -⟩ | ⟨-, -, zero, -⟩⟩ := opens
    · exact ⟨active, kind⟩
    · exact absurd zero marked
  converted s n h := withReclaim_accountRight h fun marked => absurd rfl marked
  ended s h := withReclaim_accountRight h fun marked => absurd rfl marked
  offer s i p _ _ h := evalExcess_accountRight (h.of_account (account_leaveQueue s i)).2
  raise s i p _ _ h := by
    have claimed : (s.claimFor i p.2.power .raise).accountRight :=
      evalExcess_accountRight (s := s.modEntry i fun e => { e with claim := p.2.power, mark := .raise }) h.2
    exact claimed.of_account (account_takeRaise _ i _)

theorem noticeClosed_accountRight : NoticeClosed State.accountRight False where
  event _ _ _ _ _ h := h
  entry s i f keeps h := by
    refine ⟨?_, h.2⟩
    unfold State.excessRight
    rw [committed_modEntry_keep s i f (keeps _)]
    exact h.1
  holding s i k _ h := by
    refine evalExcess_accountRight ?_
    split <;> exact h.2
  place _ _ _ _ h := h
  entering s i _ _ h := h.of_account (account_admitDemand s i)
  current _ _ _ _ _ h := h
  floor s i h := by
    unfold State.followFloor
    split
    · rename_i beneficiary
      simp only [Bool.and_eq_true, State.isBeneficiary, beq_iff_eq] at beneficiary
      exact ⟨h.1, fun _ => beneficiary.1.1⟩
    · exact h
  mapping s i h := by
    obtain eq | ⟨l, -, -, ⟨-, eq⟩ | ⟨k, x, -, eq⟩⟩ := mapRestatement_cases s i <;> rw [eq]
    · exact h
    · exact h
    · refine ⟨?_, h.2⟩
      show (s.modEntry i fun e => { e with restating := true }).excessRight
      unfold State.excessRight
      rw [committed_modEntry_keep s i _ rfl]
      exact h.1
  counted _ _ h := h
  period _ h := h
  judged s i n c h := by
    refine withReclaim_accountRight h ?_
    unfold Reclaim.judge
    split <;> exact h.2


/-! ### The policy step (R150) -/

section
variable (s : State) (i : SlotId)

@[simp] theorem slot_reTrim : (s.reTrim i).slot i = (s.slot i).reTrim (s.policy i).maxPower := by
  unfold State.reTrim
  dsimp only
  split
  · exact slot_modSlot_same ..
  · rw [slot_event, slot_modSlot_same]

@[simp] theorem policy_reTrim (j : SlotId) : (s.reTrim i).policy j = s.policy j := by
  unfold State.reTrim
  dsimp only
  split <;> rfl

@[simp] theorem reTrim_ae : (s.reTrim i).ae = s.ae := by
  unfold State.reTrim
  dsimp only
  split <;> rfl

@[simp] theorem slot_undoOffer : (s.undoOffer i).slot i =
    SlotRec.sending { s.slot i with state := .standby, offered := none } .released := by
  rw [State.undoOffer, slot_notify, slot_modSlot_same, slot_linkAsk, slot_linkWithdraw]

@[simp] theorem slot_undoPowering : (s.undoPowering i).slot i =
    SlotRec.sending { (s.slot i).powerless with state := .standby } .released := by
  rw [State.undoPowering, slot_notify, slot_enter, slot_cut]

theorem undoOffer_ae : (s.undoOffer i).ae = s.ae := rfl
theorem undoPowering_ae : (s.undoPowering i).ae = s.ae := rfl

/-- Lists marked anew are lists of the same powers. -/
theorem SlotRec.Keeps.reTrim (r : SlotRec) (maxPower : Nat) : r.Keeps (r.reTrim maxPower) := by
  have held {l : DemandList} (h : (r.reTrim maxPower).holds l) : ∃ m, r.holds m ∧ (l = m ∨ l = m.trim maxPower) := by
    rcases h with h | h | h
    · obtain ⟨m, current, rfl⟩ := Option.map_eq_some_iff.mp h
      exact ⟨m, .inl current, .inr rfl⟩
    · exact ⟨l, .inr (.inl h), .inl rfl⟩
    · obtain ⟨m, restated, rfl⟩ := Option.map_eq_some_iff.mp h
      exact ⟨m, .inr (.inr restated), .inr rfl⟩
  have same_power (l : DemandList) (k : Nat) : (l.trim maxPower).powerAt k = l.powerAt k := by
    unfold DemandList.powerAt DemandList.point DemandList.trim
    split
    · rfl
    · rw [List.getElem?_map, Option.map_map]
      rfl
  have same_of (o : Offered) (l : DemandList) : o.of (l.trim maxPower) ↔ o.of l := by
    rw [Offered.of, same_power, Offered.of]
  have same_granted : (r.reTrim maxPower).grantedPower = r.grantedPower := by
    unfold SlotRec.grantedPower SlotRec.reTrim
    cases r.current with
    | none => rfl
    | some l => exact same_power l r.granted
  refine ⟨id, id, fun lists l h => ?_, fun _ claim ⟨claims, frees, grants, offers, mapping, unmapped⟩ => ?_⟩
  · obtain ⟨m, held_m, rfl | rfl⟩ := held h
    · exact lists _ held_m
    · exact DemandList.powers_trim (lists m held_m) maxPower
  · refine ⟨claims, frees, fun family => by rw [same_granted]; exact grants family, fun raised => ?_, fun mapped => ?_,
      fun l pending o requested => ?_⟩
    · obtain ⟨o, l, offered, current, of⟩ := offers raised
      exact ⟨o, l.trim maxPower, offered, by simp [SlotRec.reTrim, current], (same_of o l).mpr of⟩
    · obtain ⟨o, l, offered, restated, of⟩ := mapping mapped
      exact ⟨o, l.trim maxPower, offered, by simp [SlotRec.reTrim, restated], (same_of o l).mpr of⟩
    · obtain ⟨m, restated, rfl⟩ := Option.map_eq_some_iff.mp pending
      exact (same_of o m).mpr (unmapped m restated o requested)

theorem reTrim_sound : ActSound i s (s.reTrim i) := by
  refine .stays (by simp) ?_ (by rw [reTrim_ae]) ?_ <;> rw [slot_reTrim]
  · exact .reTrim ..
  · exact Iff.rfl

theorem overMax_sound : ActSound i s (s.overMax i) :=
  fault_behind i s (u := (s.modSlot i fun r => r.reTrim (s.policy i).maxPower).demandBad i .overMax) (by simp) rfl _

variable {s i}

theorem undoOffer_sound (offering : (s.slot i).state = .offering) : ActSound i s (s.undoOffer i) := by
  refine .stays (by simp) ?_ rfl ?_ <;> rw [slot_undoOffer]
  · refine .of_off ⟨rfl, nofun, nofun⟩ (fun en => ?_) (SlotRec.strikesRight_of rfl (by simp [SlotRec.sending, offering]))
      (fun l held => .inl held) (.inr ⟨rfl, rfl⟩)
    rw [offering] at en; exact en
  · simp [SlotRec.sending, offering]

theorem undoPowering_sound (powering : (s.slot i).state = .powering) : ActSound i s (s.undoPowering i) := by
  refine .stays (by simp) ?_ rfl ?_ <;> rw [slot_undoPowering]
  · refine .powerless (by simp [powering]) (.inl rfl) (fun _ => rfl) rfl ?_ rfl
    rintro l (held | held | held)
    · exact .inl (.inl held)
    · exact .inl (.inr (.inl held))
    · cases held
  · simp [SlotRec.sending, powering]

variable (s i)

/-- The re-evaluation sends no notice and stays in its state, or leaves the slot without power and tells it once. -/
def State.judgedAs (s t : State) (i : SlotId) : Prop :=
  ((t.slot i).state = (s.slot i).state ∧ (t.slot i).outbox = (s.slot i).outbox) ∨
    ((t.slot i).state.off ∧ (t.slot i).state ≠ .parked ∧ ∃ n, (t.slot i).outbox = (s.slot i).outbox ++ [n])

theorem overMax_judged : s.judgedAs (s.overMax i) i := by
  have struck (r : SlotRec) (cause : FaultCause) (classLimit : Nat) (holdoff : Option Nat) :
      ((r.struck cause classLimit holdoff).sending (.faulted cause)).state.off ∧
        ((r.struck cause classLimit holdoff).sending (.faulted cause)).state ≠ .parked ∧
        ((r.struck cause classLimit holdoff).sending (.faulted cause)).outbox = r.outbox ++ [.faulted cause] := by
    by_cases few : r.strikes < 2 <;>
      simp [SlotRec.sending, SlotRec.struck, few, SlotState.off, SlotState.enabled, SlotState.poweredFamily]
  have outbox : (((s.modSlot i fun r => r.reTrim (s.policy i).maxPower).demandBad i .overMax).slot i).outbox =
      (s.slot i).outbox := by
    show ((s.modSlot i fun r => r.reTrim (s.policy i).maxPower).slot i).outbox = _
    rw [slot_modSlot_same]
    rfl
  refine .inr ?_
  rw [State.overMax, slot_fault]
  obtain ⟨off, unparked, sent⟩ := struck (if (((s.modSlot i fun r => r.reTrim (s.policy i).maxPower).demandBad i
    .overMax).slot i).en then _ else _) .badDemand _ _
  refine ⟨off, unparked, .faulted .badDemand, ?_⟩
  rw [sent, ← outbox]
  split <;> rfl

theorem reEvaluate_facts : ActSound i s (s.reEvaluate i) ∧ s.judgedAs (s.reEvaluate i) i := by
  have trimmed : ActSound i s (s.reTrim i) ∧ s.judgedAs (s.reTrim i) i :=
    ⟨reTrim_sound s i, .inl (by rw [slot_reTrim]; exact ⟨rfl, rfl⟩)⟩
  have over_max : ActSound i s (s.overMax i) ∧ s.judgedAs (s.overMax i) i := ⟨overMax_sound s i, overMax_judged s i⟩
  have trimmed_state : ((s.reTrim i).slot i).state = (s.slot i).state := by rw [slot_reTrim]; rfl
  cases state : (s.slot i).state <;> simp only [State.reEvaluate, state]
  case waiting | parked =>
    split
    · exact trimmed
    · exact over_max
  case offering =>
    split
    · split
      · refine ⟨trimmed.1.trans (undoOffer_sound (by rw [trimmed_state]; exact state)), .inr ?_⟩
        rw [slot_undoOffer, slot_reTrim]
        exact ⟨⟨rfl, nofun, nofun⟩, nofun, .released, rfl⟩
      · exact trimmed
    · have asked : ActSound i s ((s.linkWithdraw i).linkAsk i .cut) :=
        (modLink_sound i s _).trans (modLink_sound i _ fun l => l.ask .cut)
      refine ⟨asked.trans (overMax_sound _ i), ?_⟩
      exact overMax_judged ((s.linkWithdraw i).linkAsk i .cut) i
  case powering =>
    split
    · split
      · refine ⟨trimmed.1.trans (undoPowering_sound (by rw [trimmed_state]; exact state)), .inr ?_⟩
        rw [slot_undoPowering, slot_reTrim]
        exact ⟨⟨rfl, nofun, nofun⟩, nofun, .released, rfl⟩
      · exact trimmed
    · exact over_max
  case powered | raising | restating | reducing => exact trimmed
  case empty | settling | identify | standby | faulted | lockedOut | resync => exact ⟨.refl i s, .inl ⟨rfl, rfl⟩⟩

end

end Sys2Proof.Machine
end

section
/-! The policy step by its parts (R150), and the properties that every act of the running part keeps (`EngineKept`). -/

namespace Sys2Proof.Machine

/-! ### The parts of the policy step -/

section
variable (s : State) (i : SlotId)

/-- Entering WAITING at the end of the queue, no notice on its way. -/
theorem joinQueue_sound (off : (s.slot i).state.off) (unlocked : (s.slot i).state ≠ .lockedOut)
    (unfreed : (s.slot i).outbox.any Notice.frees = false) : ActSound i s (s.joinQueue i) := by
  have slot : (s.joinQueue i).slot i = { s.slot i with state := .waiting } := slot_enter (s.leaveQueue i) i .waiting
  have order : (s.joinQueue i).ae.entryOrder = s.ae.entryOrder.filter (· != i) ++ [i] := rfl
  refine ⟨by simp, fun ⟨nodup, member⟩ => ⟨?_, fun j => ?_⟩, ⟨?_, ?_, ?_, ?_⟩⟩
  · rw [order]
    exact List.nodup_append.mpr ⟨nodup.filter _, List.nodup_singleton i, by
      simp only [List.mem_filter, List.mem_singleton, bne_iff_ne, ne_eq]
      rintro j ⟨-, ne⟩ k rfl
      exact ne⟩
  · rw [order, List.mem_append, List.mem_filter, List.mem_singleton, member j]
    by_cases same : j = i
    · rw [same, slot]
      simp
    · have other : (s.joinQueue i).slot j = s.slot j := slot_modSlot_other (s.leaveQueue i) _ same
      rw [other]
      simp [same]
  all_goals rw [slot]
  · intro en
    exact en.trans off.1
  · exact SlotRec.strikesRight_of rfl (by simp [unlocked])
  · exact id
  · intro _ claim power
    exact (SlotRec.powerRight_waiting rfl claim).mpr ⟨unfreed, power.2.2.2.2.2⟩

/-- Leaving WAITING for PARKED. -/
theorem park_sound (waiting : (s.slot i).state = .waiting) : ActSound i s ((s.leaveQueue i).enter i .parked) := by
  refine .leaves (by simp) ?_ rfl ?_ <;> rw [slot_enter, slot_leaveQueue]
  · refine .of_off ⟨rfl, nofun, nofun⟩ (fun en => ?_) (SlotRec.strikesRight_of rfl (by simp [waiting]))
      (fun l held => .inl held) (.inr ⟨rfl, rfl⟩)
    rw [waiting] at en
    exact en
  · nofun

/-- The enable for admission applied to a slot whose notices free no claim where it is PARKED. -/
theorem applyAdmit_sound (unfreed : (s.slot i).state = .parked → (s.slot i).outbox.any Notice.frees = false) :
    ActSound i s (s.applyAdmit i) := by
  unfold State.applyAdmit
  split
  · rename_i parks
    exact park_sound s i parks.1
  · split
    · rename_i enters
      refine joinQueue_sound s i ?_ ?_ (unfreed enters.1) <;> rw [enters.1]
      · exact ⟨rfl, nofun, nofun⟩
      · nofun
    · exact .refl i s

theorem reClass_sound : ActSound i s (s.reClass i) := modSlot_quiet i s _ rfl rfl

theorem slot_reClass : ((s.reClass i).slot i).state = (s.slot i).state ∧
    ((s.reClass i).slot i).outbox = (s.slot i).outbox := by
  rw [State.reClass, slot_modSlot_same]
  exact ⟨rfl, rfl⟩

theorem outbox_applyAdmit : ((s.applyAdmit i).slot i).outbox = (s.slot i).outbox := by
  unfold State.applyAdmit
  split
  · rw [slot_enter, slot_leaveQueue]
  · split
    · show (((s.leaveQueue i).enter i .waiting).slot i).outbox = _
      rw [slot_enter, slot_leaveQueue]
    · rfl

theorem state_applyAdmit (off : (s.slot i).state.off) (unparked : (s.slot i).state ≠ .parked) :
    (s.applyAdmit i).slot i = s.slot i := by
  rw [State.applyAdmit, if_neg fun h => off.2.2 h.1, if_neg fun h => unparked h.1]

/-- The part at the SS: what it keeps, and the one notice it may send, of a slot that it has left without power. -/
theorem policyPart_facts (idle : (s.slot i).outbox = []) :
    ActSound i s (((s.reEvaluate i).reClass i).applyAdmit i) ∧
      (((((s.reEvaluate i).reClass i).applyAdmit i).slot i).outbox = [] ∨
        ((((s.reEvaluate i).reClass i).applyAdmit i).slot i).state.off ∧
          ∃ n, ((((s.reEvaluate i).reClass i).applyAdmit i).slot i).outbox = [n]) := by
  obtain ⟨sound, judged⟩ := reEvaluate_facts s i
  obtain ⟨state, outbox⟩ := slot_reClass (s.reEvaluate i) i
  have classed := sound.trans (reClass_sound _ i)
  rw [outbox_applyAdmit, outbox]
  rcases judged with ⟨-, same⟩ | ⟨off, unparked, n, sent⟩
  · rw [idle] at same
    exact ⟨classed.trans (applyAdmit_sound _ i fun _ => by rw [outbox, same]; rfl), .inl same⟩
  · rw [← state] at off unparked
    refine ⟨classed.trans (applyAdmit_sound _ i fun parked => absurd parked unparked), .inr ⟨?_, n, ?_⟩⟩
    · rw [state_applyAdmit _ i off unparked]
      exact off
    · rw [sent, idle]; rfl

/-- Notices leaving the outbox. -/
theorem forget_sound (f : SlotRec → SlotRec) (same : (f (s.slot i)).matters = (s.slot i).matters)
    (fewer : ∀ n ∈ (f (s.slot i)).outbox, n ∈ (s.slot i).outbox) : ActSound i s (s.modSlot i f) := by
  have state : (f (s.slot i)).state = (s.slot i).state := congrArg Prod.fst same
  refine .stays (by simp) ?_ rfl ?_ <;> rw [slot_modSlot_same]
  · have kept : (s.slot i).Keeps { f (s.slot i) with outbox := (s.slot i).outbox } :=
      .of_same same ⟨[], (List.append_nil _).symm, fun _ _ => rfl⟩
    refine ⟨kept.enable, kept.strikes, kept.lists, fun lists claim power => ?_⟩
    obtain ⟨claims, unfreed, rest⟩ := kept.power lists claim power
    refine ⟨claims, fun stands => ?_, rest⟩
    have none_ := unfreed stands
    rw [List.any_eq_false] at none_ ⊢
    exact fun n sent => none_ n (fewer n sent)
  · rw [state]

end

/-! ### Properties kept act by act -/

/-- From `s` to `t` the slots, the policies, RESET_N and the account stand, HOLD aside. -/
structure Quiet (s t : State) : Prop where
  slots : t.slots = s.slots
  account : ∃ hold, t.ae = { s.ae with hold := hold }
  policies : t.cu.settings.policy = s.cu.settings.policy
  low : t.resetLow = s.resetLow

/-- A property of the state kept by every act, those of the notices and the decision rules apart. -/
structure EngineKept (P : State → Prop) (strict : Prop) : Prop where
  notices : NoticeClosed P strict
  rules : RulesClosed P
  quiet : ∀ s t, Quiet s t → P s → P t
  part : ∀ i s t, ActSound i s t → AccountFrame s t → P s → P t
  freeing : ∀ s i, (s.slot i).outbox.any Notice.frees = true → P s → Vacant strict s i
  resync : ∀ s i, (s.slot i).state = .resync → P s →
    P ((s.modEntry i fun e => { e with claim := (s.policy i).maxPower }).evalExcess)
  limits : ∀ s high budget reserve derated, P s → P (State.evalExcess
    { s with ae := { s.ae with derateN := high, budget := budget, reserve := reserve, derated := derated } })
  policy : ∀ (s : State) i (p : Policy), p.maxPower ≠ 0 → P s → P (s.installPolicy i p)
  coldStart : ∀ (s : State) first a, P (s.coldStart first a)
  keptStart : ∀ s : State, P s → P s.keptStart

namespace EngineKept

variable {P : State → Prop} {strict : Prop} (kept : EngineKept P strict) {s : State}
include kept

theorem takePolicy (i : SlotId) (sent : (s.slot i).outbox = [] ∨ (s.slot i).state.off ∧ ∃ n, (s.slot i).outbox = [n])
    (h : P s) : P (s.takePolicy i) := by
  have emptied : P (s.modSlot i fun r => { r with outbox := [] }) :=
    kept.part i s _ (forget_sound s i _ rfl nofun) ((AccountFrame.modSlot_iff i _).mpr (.refl s)) h
  unfold State.takePolicy
  dsimp only
  rcases sent with none_ | ⟨off, n, one⟩
  · rw [none_, List.foldl_nil]
    split
    · rename_i resync
      exact kept.resync _ i resync emptied
    · exact emptied
  · have state : ((s.modSlot i fun r => { r with outbox := [] }).slot i).state = (s.slot i).state := by
      rw [slot_modSlot_same]
    have unsynced : ¬ ((s.modSlot i fun r => { r with outbox := [] }).slot i).state = .resync := by
      rw [state]
      intro resync
      have unenabled := off.1
      rw [resync] at unenabled
      cases unenabled
    rw [one, if_neg unsynced, List.foldl_cons, List.foldl_nil]
    refine kept.notices.account i n (fun _ _ => ?_) emptied
    rw [state]
    exact off

theorem policyStep (q : PolicyReq) (idle : (s.slot q.slot).outbox = []) (h : P s) : P (s.policyStep q) := by
  obtain ⟨sound, sent⟩ := policyPart_facts s q.slot idle
  have taken := kept.takePolicy q.slot sent (kept.part _ _ _ sound (AccountFrame.policyPart s q.slot) h)
  have reduced := kept.part q.slot _ _ (policyReduce_sound q.slot _) ((AccountFrame.policyReduce_iff _).mpr (.refl _)) taken
  unfold State.policyStep
  dsimp only
  refine kept.rules.aeRules true ?_
  split
  · exact kept.part q.slot _ _ ((setWatch_sound q.slot _ _).trans (watchCheck_sound q.slot _)) (by simp) reduced
  · exact reduced

theorem notice (i : SlotId) (n : Notice) (rest : List Notice) (outbox : (s.slot i).outbox = n :: rest) (h : P s) :
    P ((s.popNotice i).aeNotice i n) := by
  have popped : P (s.popNotice i) :=
    kept.part i s _ (forget_sound s i _ rfl fun _ sent => List.mem_of_mem_tail sent)
      ((AccountFrame.modSlot_iff i _).mpr (.refl s)) h
  refine kept.rules.aeRules _ (kept.notices.account i n (fun frees strictly => ?_) popped)
  have state : ((s.popNotice i).slot i).state = (s.slot i).state := by
    rw [State.popNotice, slot_modSlot_same]
  rw [state]
  exact kept.freeing s i (by simp [outbox, frees]) h strictly

theorem warmStart (h : P s) : P s.warmStart := by
  rw [warmStart_eq]
  refine ActClosed.foldl (fun t i held => ?_) _ (kept.keptStart s h)
  have asked : ActSound i t (t.linkQuery i) := modLink_sound i t _
  rw [enterResync_eq]
  split
  · split
    · exact kept.part i t _ (asked.trans (fault_sound i _ _)) (by simp) held
    · exact kept.part i t _ asked (by simp) held
  · exact held

/-- Every act keeps the property. -/
theorem actClosed : ActClosed P where
  link s _ _ h := kept.quiet s _ ⟨rfl, ⟨_, rfl⟩, rfl, rfl⟩ h
  hp s _ h := kept.quiet s _ ⟨rfl, ⟨_, rfl⟩, rfl, rfl⟩ h
  inputs s _ h := kept.quiet s _ ⟨rfl, ⟨_, rfl⟩, rfl, rfl⟩ h
  wu s _ _ h := kept.quiet s _ ⟨rfl, ⟨_, rfl⟩, rfl, rfl⟩ h
  evtPop s h := kept.quiet s _ ⟨rfl, ⟨_, rfl⟩, rfl, rfl⟩ h
  interrupts s _ _ h := kept.quiet s _ ⟨rfl, ⟨_, rfl⟩, rfl, rfl⟩ h
  slot i _ s act h := kept.part i s _ (act.sound i s) ((SlotAct.account i act) s) h
  notice _ i n rest outbox h := kept.notice i n rest outbox h
  rules _ due h := kept.rules.aeRules due h
  derate s high k n h := kept.limits (s.event k none 0 n) high s.ae.budget s.ae.reserve s.ae.derated
    (kept.notices.event s k none 0 n h)
  budgets s b r d h := kept.limits s s.ae.derateN b r d h
  hold s _ h := kept.quiet s _ ⟨rfl, ⟨_, rfl⟩, rfl, rfl⟩ h
  port s _ _ _ h := kept.quiet s _ ⟨rfl, ⟨_, rfl⟩, rfl, rfl⟩ h
  policyWait s _ h := kept.quiet s _ ⟨rfl, ⟨_, rfl⟩, rfl, rfl⟩ h
  timing s _ h := kept.quiet s _ ⟨rfl, ⟨_, rfl⟩, rfl, rfl⟩ h
  policy s i p positive h := kept.policy s i p positive h
  policyStep _ q idle h := kept.policyStep q idle h
  submit s _ _ _ h := kept.quiet s _ ⟨rfl, ⟨_, rfl⟩, rfl, rfl⟩ h
  start s _ _ h := kept.quiet s _ ⟨rfl, ⟨_, rfl⟩, rfl, rfl⟩ h
  conclude s _ _ _ h := kept.quiet s _ ⟨rfl, ⟨_, rfl⟩, rfl, rfl⟩ h
  retire s _ h := kept.quiet s _ ⟨rfl, ⟨_, rfl⟩, rfl, rfl⟩ h
  coldStart s first a _ := kept.coldStart s first a
  warmStart _ h := kept.warmStart h

/-- Every command keeps the property, but for RESET_N taken low. -/
theorem step {t : State} (rest : ∀ u : State, P u → P u.rest) (h : P s) (answer : step s = .next t) : P t := by
  obtain rfl | ⟨c, l, -, answer⟩ := step_cases answer
  · exact h
  have started : P ({ s with pending := l } : State) := kept.quiet s _ ⟨rfl, ⟨_, rfl⟩, rfl, rfl⟩ h
  generalize ({ s with pending := l } : State) = u at answer started
  have elapsed : P u.elapse := kept.quiet u _ ⟨rfl, ⟨_, rfl⟩, rfl, rfl⟩ started
  obtain ⟨first, -, eq⟩ | ⟨-, eq⟩ | ⟨-, eq⟩ | ⟨-, keeps⟩ := kept.actClosed.exec_cases answer
  · rw [eq]; exact kept.coldStart u first 0
  · rw [eq]; exact rest u started
  · rw [eq]; exact started
  · exact keeps elapsed

end EngineKept

end Sys2Proof.Machine
end

section
/-! The account along every step (R13, R14, R113, R114): excess and the earmark, the grant order list, and the victims. -/

namespace Sys2Proof.Machine

/-! ### Excess and the earmark -/

theorem keptStart_ae_eq (s : State) : s.keptStart.ae = { s.keptPower.ae with
    excess := decide (s.keptPower.ae.effective < s.keptPower.ae.committed) } := by
  obtain ⟨-, -, -, ae, -⟩ := keptStart_facts s
  exact ae

theorem engineKept_accountRight : EngineKept State.accountRight False where
  notices := noticeClosed_accountRight
  rules := rulesClosed_accountRight
  quiet s t same h := by
    obtain ⟨hold, ae⟩ := same.account
    unfold State.accountRight State.excessRight State.earmarkRight at h ⊢
    rw [ae]
    exact h
  part _ _ _ _ frame h := h.of_account frame.1
  freeing _ _ _ _ := nofun
  resync _ _ _ h := evalExcess_accountRight h.2
  limits _ _ _ _ _ h := evalExcess_accountRight h.2
  policy _ _ _ _ h := h
  coldStart s first a := by
    unfold State.accountRight State.excessRight State.earmarkRight
    rw [coldStart_ae]
    cases first.derateN
    · decide
    · decide
  keptStart s _ := by
    unfold State.accountRight State.excessRight State.earmarkRight
    rw [keptStart_ae_eq]
    exact ⟨rfl, fun marked => absurd rfl marked⟩

/-! ### The grant order list, the victims, the policies and the lists -/

/-- The AE's lists are right, over policies and demand lists in order. -/
structure State.ledgerRight (s : State) : Prop where
  grants : s.grantsRight
  victims : s.victimsRight
  policies : s.policiesRight
  lists : s.listsRight

theorem State.listsRight.of_slots {s t : State} (slots : t.slots = s.slots) (h : s.listsRight) : t.listsRight := by
  unfold State.listsRight State.slot at h ⊢
  rw [slots]
  exact h

theorem State.policiesRight.of_cu {s t : State} (policies : t.cu.settings.policy = s.cu.settings.policy)
    (h : s.policiesRight) : t.policiesRight := by
  unfold State.policiesRight State.policy at h ⊢
  rw [policies]
  exact h

theorem State.grantsRight.of_claims {s t : State} (order : t.ae.grantOrder = s.ae.grantOrder)
    (claims : ∀ i, (s.entry i).claim ≠ 0 → (t.entry i).claim ≠ 0) (h : s.grantsRight) : t.grantsRight := by
  obtain ⟨nodup, claimed⟩ := h
  unfold State.grantsRight
  rw [order]
  exact ⟨nodup, fun i member => claims i (claimed i member)⟩

theorem State.victimsRight.of_reclaim {s t : State}
    (victims : t.ae.reclaim.victims.map Victim.slot = s.ae.reclaim.victims.map Victim.slot)
    (beneficiary : t.ae.reclaim.beneficiary = s.ae.reclaim.beneficiary) (h : s.victimsRight) : t.victimsRight := by
  obtain ⟨nodup, few, apart⟩ := h
  have length := congrArg List.length victims
  simp only [List.length_map] at length
  refine ⟨by rw [victims]; exact nodup, by omega, fun v member => ?_⟩
  obtain ⟨w, member_w, slot⟩ := List.mem_map.mp (victims ▸ List.mem_map_of_mem (f := Victim.slot) member)
  rw [beneficiary, ← slot]
  exact apart w member_w

/-- Slots listed once are eight at most. -/
theorem victimsRight_of {s : State} (nodup : (s.ae.reclaim.victims.map Victim.slot).Nodup)
    (apart : ∀ v ∈ s.ae.reclaim.victims, some v.slot ≠ s.ae.reclaim.beneficiary) : s.victimsRight := by
  have few := nodup.length_le_card
  rw [List.length_map] at few
  exact ⟨nodup, few.trans (by decide), apart⟩

namespace State.ledgerRight

variable {s t : State} (h : s.ledgerRight)
include h

/-- The account stands, and the lists are right. -/
theorem of_account (same : t.ae.account = s.ae.account) (policies : t.cu.settings.policy = s.cu.settings.policy)
    (lists : t.listsRight) : t.ledgerRight where
  grants := h.grants.of_claims (grantOrder_of_account same) fun i claimed => by rw [claim_of_account same]; exact claimed
  victims := h.victims.of_reclaim (by rw [reclaim_of_account same]) (by rw [reclaim_of_account same])
  policies := h.policies.of_cu policies
  lists := lists

/-- An act of one slot's SS that leaves the account. -/
theorem of_part {i : SlotId} (sound : ActSound i s t) (same : t.ae.account = s.ae.account) : t.ledgerRight := by
  refine h.of_account same (by rw [sound.frame.1.2.2.2.1]) fun j => ?_
  by_cases own : j = i
  · rw [own]
    exact sound.keeps.lists (h.lists i)
  · rw [(sound.frame.2 j own).1]
    exact h.lists j

/-- The slots and the policies stand, and no claim of a slot with a grant has gone. -/
theorem of_claims (slots : t.slots = s.slots) (policies : t.cu.settings.policy = s.cu.settings.policy)
    (order : t.ae.grantOrder = s.ae.grantOrder) (reclaim : t.ae.reclaim = s.ae.reclaim)
    (claims : ∀ i, (s.entry i).claim ≠ 0 → (t.entry i).claim ≠ 0) : t.ledgerRight :=
  ⟨h.grants.of_claims order claims, h.victims.of_reclaim (by rw [reclaim]) (by rw [reclaim]), h.policies.of_cu policies,
    h.lists.of_slots slots⟩

/-- The reclaim record alone changed. -/
theorem withReclaim {r : Reclaim} (victims : (s.withReclaim r).victimsRight) : (s.withReclaim r).ledgerRight :=
  ⟨h.grants, victims, h.policies, h.lists⟩

theorem evalExcess : s.evalExcess.ledgerRight := by
  refine h.of_claims (evalExcess_slots s) (by rw [evalExcess_cu]) ?_ ?_ fun i claimed => ?_
  · rw [evalExcess_ae]
  · rw [evalExcess_ae]
  · unfold State.entry at claimed ⊢
    rw [evalExcess_ae]
    exact claimed

/-- A nonzero claim, or the claim it was. -/
theorem modEntry {i : SlotId} {f : AeSlot → AeSlot} (claims : (s.entry i).claim ≠ 0 → (f (s.entry i)).claim ≠ 0) :
    (s.modEntry i f).ledgerRight := by
  refine h.of_claims rfl rfl rfl rfl fun j claimed => ?_
  by_cases own : j = i
  · subst own
    rw [entry_modEntry_same]
    exact claims claimed
  · rw [entry_modEntry_other s f own]
    exact claimed

theorem claimFor {i : SlotId} {power : Nat} {mark : Mark} (positive : power ≠ 0) : (s.claimFor i power mark).ledgerRight :=
  (h.modEntry fun _ => positive).evalExcess

/-- A point of the current list has power. -/
theorem current_positive {i : SlotId} {l : DemandList} {p : Point} (current : (s.slot i).current = some l)
    (point : p ∈ l.points) : p.power ≠ 0 :=
  h.lists i l (.inl current) p point

/-- A reclaim's victims are candidates, and candidates hold a place in the grant order list once. -/
theorem candidates_nodup (p : SlotId → Bool) : (s.candidates p).Nodup :=
  (shedding_nodup h.grants.1).filter _

theorem opened {r : Reclaim} (opens : s.opens r) : (s.withReclaim r).ledgerRight := by
  refine h.withReclaim ?_
  obtain ⟨-, ⟨-, b, own, victims⟩ | ⟨-, own, -, victims⟩⟩ := opens
  · obtain ⟨nodup, chosen, -⟩ := selectVictims_chosenFrom s r.shortfall (pool := s.admitCandidates b)
      (h.candidates_nodup _)
    refine victimsRight_of (s := s.withReclaim r) (by rw [State.withReclaim, victims]; exact nodup) fun v member => ?_
    have candidate := (chosen v (by rw [State.withReclaim, victims] at member; exact member)).1
    rw [show (s.withReclaim r).ae.reclaim.beneficiary = some b from own]
    rintro same
    rw [Option.some.inj same] at candidate
    simp [State.admitCandidates, State.candidates] at candidate
  · obtain ⟨nodup, -, -⟩ := selectVictims_chosenFrom s r.shortfall (pool := s.budgetCandidates) (h.candidates_nodup _)
    refine victimsRight_of (s := s.withReclaim r) (by rw [State.withReclaim, victims]; exact nodup) fun v member => ?_
    rw [show (s.withReclaim r).ae.reclaim.beneficiary = none from own]
    nofun

theorem converted (n : Nat) : (s.withReclaim (s.converted n)).ledgerRight := by
  refine h.withReclaim (victimsRight_of (s := s.withReclaim (s.converted n)) ?_ fun v _ => nofun)
  show ((s.ae.reclaim.victims ++ if n = 0 then [] else s.selectVictims n s.conversionCandidates).map Victim.slot).Nodup
  split
  · rw [List.append_nil]
    exact h.victims.1
  · obtain ⟨nodup, chosen, -⟩ := selectVictims_chosenFrom s n (pool := s.conversionCandidates) (h.candidates_nodup _)
    rw [List.map_append]
    refine List.nodup_append.mpr ⟨h.victims.1, nodup, fun i old j new => ?_⟩
    rintro rfl
    obtain ⟨v, member, rfl⟩ := List.mem_map.mp new
    have candidate := (chosen v member).1
    simp only [State.conversionCandidates, State.candidates, List.mem_filter, Bool.and_eq_true, Bool.not_eq_true'] at candidate
    have listed_v := (listed_iff v.slot s.ae.reclaim.victims).mpr old
    rw [candidate.2.2] at listed_v
    cases listed_v

theorem takeHolding (i : SlotId) (n : Nat) : (s.takeHolding i n).ledgerRight := by
  refine evalExcess ?_
  split
  · have filtered : (s.zeroClaim i).grantsRight := by
      refine ⟨h.grants.1.filter _, fun j member => ?_⟩
      obtain ⟨member, other⟩ := List.mem_filter.mp member
      have entry : (s.zeroClaim i).entry j = s.entry j := entry_modEntry_other s _ (by simpa using other)
      rw [entry]
      exact h.grants.2 j member
    exact ⟨filtered, h.victims, h.policies, h.lists⟩
  · rename_i positive
    refine h.modEntry fun claimed => ?_
    dsimp only
    split
    · exact claimed
    · exact positive

theorem joinGrants (i : SlotId) (place : List SlotId → List SlotId)
    (places : ∀ l : List SlotId, i ∉ l → l.Nodup → (place l).Nodup ∧ ∀ j ∈ place l, j = i ∨ j ∈ l) :
    (s.joinGrants i place).ledgerRight := by
  refine ⟨?_, h.victims, h.policies, h.lists⟩
  obtain ⟨nodup, claimed⟩ := h.grants
  show (if (s.entry i).claim = 0 then s.ae.grantOrder else place (s.ae.grantOrder.filter (· != i))).Nodup ∧
    ∀ j ∈ (if (s.entry i).claim = 0 then s.ae.grantOrder else place (s.ae.grantOrder.filter (· != i))), (s.entry j).claim ≠ 0
  split
  · exact ⟨nodup, claimed⟩
  · rename_i own
    obtain ⟨nodup', members⟩ := places (s.ae.grantOrder.filter (· != i)) (by simp) (nodup.filter _)
    refine ⟨nodup', fun j member => ?_⟩
    obtain rfl | member := members j member
    · exact own
    · exact claimed j (List.mem_filter.mp member).1

end State.ledgerRight

theorem rulesClosed_ledgerRight : RulesClosed State.ledgerRight where
  event _ _ _ _ _ h := h.of_claims rfl rfl rfl rfl fun _ => id
  blocked s i x h := h.modEntry id
  reduce s i index power h := h.of_part (takeReduce_sound i s index power .reclaim) (account_takeReduce ..)
  opened s r _ opens h := h.opened opens
  converted s n h := h.converted n
  ended s h := h.withReclaim (h.victims.of_reclaim rfl rfl)
  offer s i p fits _ h := by
    obtain ⟨l, current, found⟩ := Option.bind_eq_some_iff.mp fits
    have positive := h.current_positive current (highestWithin_spec found).1
    have left : (s.leaveQueue i).ledgerRight := h.of_account (account_leaveQueue s i) rfl (h.lists.of_slots rfl)
    have claimed := left.claimFor (i := i) (mark := .offer) positive
    refine claimed.of_account (t := s.offer i p) rfl rfl fun j => ?_
    have same : (s.offer i p).slot j = { (((s.leaveQueue i).claimFor i p.2.power .offer).slot j) with
        state := ((s.offer i p).slot j).state, offered := ((s.offer i p).slot j).offered } := by
      unfold State.offer
      by_cases own : j = i
      · subst own
        rw [State.takeOffer, slot_linkRequest, slot_modSlot_same]
      · rw [State.takeOffer, slot_linkRequest, slot_modSlot_other _ _ own]
    rw [same]
    exact claimed.lists j
  raise s i p _ point h := by
    obtain ⟨l, current, found⟩ := Option.bind_eq_some_iff.mp point
    have positive := h.current_positive current (highestBetween_spec found).1
    have claimed := h.claimFor (i := i) (mark := .raise) positive
    refine claimed.of_account (t := s.raise i p) (account_takeRaise _ i _) ?_ fun j => ?_
    · unfold State.raise State.takeRaise
      split <;> rfl
    · have same : (s.raise i p).slot j = { ((s.claimFor i p.2.power .raise).slot j) with
          state := ((s.raise i p).slot j).state, offered := ((s.raise i p).slot j).offered,
          outbox := ((s.raise i p).slot j).outbox } := by
        unfold State.raise State.takeRaise
        by_cases own : j = i
        · subst own
          split
          · rw [slot_notify]; rfl
          · rw [slot_linkRequest, slot_modSlot_same]
        · split
          · rw [State.notify, slot_modSlot_other _ _ own]
          · rw [slot_linkRequest, slot_modSlot_other _ _ own]
      rw [same]
      exact claimed.lists j

theorem noticeClosed_ledgerRight : NoticeClosed State.ledgerRight False where
  event _ _ _ _ _ h := h.of_claims rfl rfl rfl rfl fun _ => id
  entry s i f keeps h := h.modEntry fun claimed => by rw [keeps]; exact claimed
  holding s i n _ h := h.takeHolding i n
  place s i place places h := h.joinGrants i place places
  entering s i state _ h := by
    refine h.of_account (account_admitDemand s i) ?_ fun j => ?_
    · unfold State.admitDemand
      split <;> rfl
    · have same : (s.admitDemand i).slot j = { s.slot j with state := ((s.admitDemand i).slot j).state } := by
        have entered (t : State) (st : SlotState) (slot : t.slot j = s.slot j) :
            (t.enter i st).slot j = { s.slot j with state := ((t.enter i st).slot j).state } := by
          by_cases own : j = i
          · subst own
            rw [slot_enter, slot]
          · rw [State.enter, slot_modSlot_other _ _ own, slot]
        unfold State.admitDemand
        split
        · exact entered (s.leaveQueue i) .waiting rfl
        · exact entered s .parked rfl
      rw [same]
      exact h.lists j
  current s i l _ arriving h := by
    refine h.of_account rfl rfl fun j => ?_
    by_cases own : j = i
    · subst own
      rw [slot_makeCurrent]
      exact SlotRec.listsRight_listed (h.lists j l (.inr (.inl arriving)))
    · rw [State.makeCurrent, slot_modSlot_other _ _ own]
      exact h.lists j
  floor s i h := by
    unfold State.followFloor
    split
    · exact h.withReclaim (h.victims.of_reclaim rfl rfl)
    · exact h
  mapping s i h := by
    have asked (t : State) (o : Option Offered) (ht : t.ledgerRight) :
        (t.modSlot i fun r => { r with mapRequests := r.mapRequests ++ [o] }).ledgerRight := by
      refine ht.of_account rfl rfl fun j => ?_
      by_cases own : j = i
      · subst own
        rw [slot_modSlot_same]
        exact ht.lists j
      · rw [slot_modSlot_other _ _ own]
        exact ht.lists j
    obtain eq | ⟨l, -, -, ⟨-, eq⟩ | ⟨k, x, -, eq⟩⟩ := mapRestatement_cases s i <;> rw [eq]
    · exact h
    · exact asked s none h
    · exact asked _ _ (h.modEntry id)
  counted _ _ h := h.of_claims rfl rfl rfl rfl fun _ => id
  period _ h := h.of_claims rfl rfl rfl rfl fun _ => id
  judged s i n c h := by
    refine h.withReclaim (h.victims.of_reclaim ?_ ?_)
    · show (s.ae.reclaim.judge i n c).victims.map Victim.slot = _
      unfold Reclaim.judge judgeVictims
      split
      · rw [List.map_map]
        refine List.map_congr_left fun v _ => ?_
        rw [Function.comp_apply]
        split <;> rfl
      · rfl
    · show (s.ae.reclaim.judge i n c).beneficiary = _
      unfold Reclaim.judge
      split <;> rfl

theorem installPolicy_policiesRight {s : State} {i : SlotId} {p : Policy} (positive : p.maxPower ≠ 0)
    (h : s.policiesRight) : (s.installPolicy i p).policiesRight := by
  intro j
  have policy : (s.installPolicy i p).policy j = (updateAt s.cu.settings.policy i fun _ => p)[j.val] := rfl
  rw [policy]
  by_cases own : j = i
  · subst own
    rw [updateAt_same]
    exact positive
  · rw [updateAt_other _ _ own]
    exact h j

theorem engineKept_ledgerRight : EngineKept State.ledgerRight False where
  notices := noticeClosed_ledgerRight
  rules := rulesClosed_ledgerRight
  quiet s t same h := by
    obtain ⟨hold, ae⟩ := same.account
    refine h.of_claims same.slots same.policies (by rw [ae]) (by rw [ae]) fun i claimed => ?_
    unfold State.entry at claimed ⊢
    rw [ae]
    exact claimed
  part _ _ _ sound frame h := h.of_part sound frame.1
  freeing _ _ _ _ := nofun
  resync s i _ h := (h.modEntry fun _ => h.policies i).evalExcess
  limits _ _ _ _ _ h := State.ledgerRight.evalExcess (h.of_claims rfl rfl rfl rfl fun _ => id)
  policy s i p positive h := ⟨h.grants, h.victims, installPolicy_policiesRight positive h.policies, h.lists⟩
  coldStart s first a := by
    have cu : (s.coldStart first a).cu = .restarted .reset := (coldStart_engine s first a).2.2.2.1
    refine ⟨?_, ?_, fun i => ?_, fun i l held => ?_⟩
    · unfold State.grantsRight
      rw [coldStart_ae]
      exact ⟨List.nodup_nil, nofun⟩
    · unfold State.victimsRight
      rw [coldStart_ae]
      exact ⟨List.nodup_nil, Nat.zero_le 8, nofun⟩
    · unfold State.policy
      rw [cu]
      revert i
      decide
    · rw [slot_coldStart, firstSlot] at held
      rcases held with held | held | held <;> · split at held <;> cases held
  keptStart s h := by
    obtain ⟨slots, -, cu, ae, -⟩ := keptStart_facts s
    refine ⟨?_, ?_, ?_, fun i l held => ?_⟩
    · unfold State.grantsRight
      rw [ae]
      exact ⟨List.nodup_nil, nofun⟩
    · unfold State.victimsRight
      rw [ae]
      exact ⟨List.nodup_nil, Nat.zero_le 8, nofun⟩
    · exact h.policies.of_cu (by rw [cu]; rfl)
    · rw [State.slot, slots] at held
      change (s.keptPower.slot i).current = some l ∨ (s.keptPower.slot i).arriving = some l ∨
        (s.keptPower.slot i).restated = some l at held
      rw [slot_keptPower] at held
      rcases held with held | held | held <;> cases held

/-- Settles O8: both groups are kept by every act (`EngineKept`); RESET_N taken low leaves the account. -/
theorem stepKeepsAccountSound : Obligations.StepKeepsAccountSound := by
  intro s t answer
  refine ⟨fun h => engineKept_accountRight.step (fun u hu => hu) h answer, fun ⟨grants, victims, policies, lists⟩ => ?_⟩
  obtain ⟨grants', victims', policies', lists'⟩ := engineKept_ledgerRight.step
    (fun u hu => hu.of_account (t := u.rest) rfl rfl fun i => by rw [slot_rest]; exact hu.lists i) ⟨grants, victims, policies, lists⟩ answer
  exact ⟨grants', victims', policies', lists'⟩

end Sys2Proof.Machine
end

section
/-! The slots along every step: the admission queue, the enables and LOCKED_OUT (R17, R39, R86), and a claim under every
asserted enable (R8). -/

namespace Sys2Proof.Machine

/-- EN is asserted exactly in the powered family and RESYNC, while RESET_N is high. -/
theorem State.enablesRight_iff (s : State) :
    s.enablesRight ↔ (s.resetLow = false → ∀ i, (s.slot i).en = (s.slot i).state.enabled) := by
  unfold State.enablesRight State.enHigh
  cases s.resetLow <;> simp

/-- The slots stand right: the queue, the enables, and LOCKED_OUT; or, where `strict`, every slot well at its claim, over
policies and lists in order. -/
structure State.slotsRight (strict : Prop) (s : State) : Prop where
  queue : s.queueRight
  enables : s.enablesRight
  strikes : ¬strict → s.strikesRight
  standing : strict → s.policiesRight ∧ s.listsRight ∧ s.powerRight

/-- Another claim, nonzero where the one before was, leaves a slot standing well. -/
theorem SlotRec.powerRight.claim {r : SlotRec} {c c' : Nat} (h : r.powerRight c) (stays : c ≠ 0 → c' ≠ 0) :
    r.powerRight c' := by
  obtain ⟨claimed, rest⟩ := h
  exact ⟨fun stands => stays (claimed stands), rest⟩

/-- A slot without power stands as well at any claim. -/
theorem SlotRec.powerRight.off {r : SlotRec} {c : Nat} (h : r.powerRight c) (off : r.state.off) (c' : Nat) :
    r.powerRight c' :=
  (SlotRec.powerRight_off off c').mpr ((SlotRec.powerRight_off off c).mp h)

namespace State.slotsRight

variable {strict : Prop} {s t : State} (h : s.slotsRight strict)
include h

/-- A change of one slot's record, its claim and its place in the queue. -/
theorem of_slot {i : SlotId} (frame : SlotFrame i s t) (queue : t.queueRight)
    (enable : (s.slot i).en = (s.slot i).state.enabled → (t.slot i).en = (t.slot i).state.enabled)
    (strikes : (s.slot i).strikesRight → (t.slot i).strikesRight)
    (standing : strict → (t.slot i).listsRight ∧ (t.slot i).powerRight (t.entry i).claim) : t.slotsRight strict := by
  obtain ⟨⟨-, low, -, cu, -⟩, others⟩ := frame
  refine ⟨queue, (enablesRight_iff t).mpr fun high j => ?_, fun plain j => ?_, fun strictly => ?_⟩
  · have before := (enablesRight_iff s).mp h.enables (low ▸ high)
    by_cases own : j = i
    · rw [own]; exact enable (before i)
    · rw [(others j own).1]; exact before j
  · by_cases own : j = i
    · rw [own]; exact strikes (h.strikes plain i)
    · rw [(others j own).1]; exact h.strikes plain j
  · obtain ⟨policies, lists, power⟩ := h.standing strictly
    refine ⟨policies.of_cu (by rw [cu]), fun j => ?_, fun j => ?_⟩
    · by_cases own : j = i
      · rw [own]; exact (standing strictly).1
      · rw [(others j own).1]; exact lists j
    · by_cases own : j = i
      · rw [own]; exact (standing strictly).2
      · rw [(others j own).1, (others j own).2.2]; exact power j

/-- An act of one slot's SS that leaves its claim. -/
theorem of_part {i : SlotId} (sound : ActSound i s t) (claim : (t.entry i).claim = (s.entry i).claim) :
    t.slotsRight strict :=
  h.of_slot sound.frame (sound.queue h.queue) sound.keeps.enable sound.keeps.strikes fun strictly => by
    obtain ⟨-, lists, power⟩ := h.standing strictly
    rw [claim]
    exact ⟨sound.keeps.lists (lists i), sound.keeps.power (lists i) _ (power i)⟩

/-- The slots, the policies and the queue stand, and every slot stands well at its claim. -/
theorem of_claims (slots : t.slots = s.slots) (order : t.ae.entryOrder = s.ae.entryOrder)
    (policies : t.cu.settings.policy = s.cu.settings.policy) (low : t.resetLow = s.resetLow)
    (claims : strict → ∀ i, (s.slot i).powerRight (s.entry i).claim → (s.slot i).powerRight (t.entry i).claim) :
    t.slotsRight strict := by
  have slot (i : SlotId) : t.slot i = s.slot i := by rw [State.slot, slots]; rfl
  refine ⟨?_, (enablesRight_iff t).mpr fun high j => ?_, fun plain j => ?_, fun strictly => ?_⟩
  · unfold State.queueRight
    rw [order]
    simp only [slot]
    exact h.queue
  · rw [slot]
    exact (enablesRight_iff s).mp h.enables (low ▸ high) j
  · rw [slot]
    exact h.strikes plain j
  · obtain ⟨right, lists, power⟩ := h.standing strictly
    refine ⟨right.of_cu policies, lists.of_slots slots, fun i => ?_⟩
    rw [slot]
    exact claims strictly i (power i)

/-- No claim changed. -/
theorem of_same (slots : t.slots = s.slots) (order : t.ae.entryOrder = s.ae.entryOrder)
    (policies : t.cu.settings.policy = s.cu.settings.policy) (low : t.resetLow = s.resetLow)
    (claims : ∀ i, (t.entry i).claim = (s.entry i).claim) : t.slotsRight strict :=
  h.of_claims slots order policies low fun _ i power => by rw [claims]; exact power

theorem evalExcess : s.evalExcess.slotsRight strict := by
  refine h.of_same (evalExcess_slots s) ?_ (by rw [evalExcess_cu]) ?_ fun i => ?_
  · rw [evalExcess_ae]
  · unfold State.evalExcess
    dsimp only
    split <;> split <;> rfl
  · unfold State.entry
    rw [evalExcess_ae]

/-- One claim changed, its slot standing well at the new one. -/
theorem modEntry {i : SlotId} {f : AeSlot → AeSlot}
    (claims : strict → (s.slot i).powerRight (s.entry i).claim → (s.slot i).powerRight (f (s.entry i)).claim) :
    (s.modEntry i f).slotsRight strict := by
  refine h.of_claims rfl rfl rfl rfl fun strictly j power => ?_
  by_cases own : j = i
  · subst own
    rw [entry_modEntry_same]
    exact claims strictly power
  · rw [entry_modEntry_other s f own]
    exact power

/-- A claim given a nonzero power. -/
theorem claimFor {i : SlotId} {power : Nat} {mark : Mark} (positive : strict → power ≠ 0) :
    (s.claimFor i power mark).slotsRight strict :=
  (h.modEntry fun strictly well => well.claim fun _ => positive strictly).evalExcess

end State.slotsRight

/-! ### The decision rules -/

theorem SlotFrame.evalExcess {i : SlotId} {s t : State} (h : SlotFrame i s t) : SlotFrame i s t.evalExcess := by
  unfold State.evalExcess
  dsimp only
  split <;> split
  · exact h
  · exact (SlotFrame.event_iff ..).mpr h
  · exact (SlotFrame.event_iff ..).mpr h
  · exact h

/-- The point that a search of a list finds, as one that an exchange may concern. -/
theorem Offered.of_firstPoint {l : DemandList} {p : Point → Bool} {k : Nat} {x : Point} (powers : l.powers)
    (found : firstPoint p 1 l.points = some (k, x)) :
    Offered.of { index := k, power := x.power, tag := x.tag } l := by
  obtain ⟨member, -, first, at_k⟩ := firstPoint_spec found
  have point : l.point k = some x := by
    rw [DemandList.point, if_neg (by omega)]
    exact at_k
  exact ⟨(DemandList.powerAt_of_point point).symm, powers x member⟩

section
variable {s : State} {i : SlotId} {l : DemandList}

theorem takeRaise_sound {o : Offered} (powered : (s.slot i).state = .powered) (current : (s.slot i).current = some l)
    (concerns : l.powers → o.of l) : ActSound i s (s.takeRaise i o) := by
  unfold State.takeRaise
  split
  · refine notify_sound i s fun claim power => ?_
    have granted := ((SlotRec.powerRight_on (.inr (.inl powered)) claim).mp power).2.2.1
    simp [Notice.frees, Notice.holding, granted]
  · have asked : ActSound i s (s.modSlot i fun r => { r with state := .raising, offered := some o }) := by
      refine .stays (by simp) ⟨?_, ?_, ?_, ?_⟩ rfl ?_ <;> rw [slot_modSlot_same]
      · intro en; rw [powered] at en; exact en
      · exact SlotRec.strikesRight_of rfl (by simp [powered])
      · exact id
      · intro lists claim power
        obtain ⟨claimed, unfreed, granted, requests⟩ := (SlotRec.powerRight_on (.inr (.inl powered)) claim).mp power
        exact (SlotRec.powerRight_raising rfl claim).mpr
          ⟨claimed, unfreed, granted, ⟨o, l, rfl, current, concerns (lists l (.inl current))⟩, requests⟩
      · simp [powered]
    exact asked.trans (modLink_sound i _ _)

/-- The offer to a WAITING slot: it leaves the queue for OFFERING, with its claim. -/
theorem State.slotsRight.offer {strict : Prop} {k : Nat} {x : Point} (h : s.slotsRight strict)
    (waiting : (s.slot i).state = .waiting) (current : (s.slot i).current = some l)
    (concerns : l.powers → Offered.of { index := k, power := x.power, tag := x.tag } l) :
    (s.offer i (k, x)).slotsRight strict := by
  have claimed (t : State) (j : SlotId) : t.evalExcess.slot j = t.slot j := by rw [State.slot, evalExcess_slots]; rfl
  have before (j : SlotId) : ((s.leaveQueue i).claimFor i x.power .offer).slot j = s.slot j := by
    rw [State.claimFor, claimed, slot_modEntry, slot_leaveQueue]
  have own : (s.offer i (k, x)).slot i = { s.slot i with
      state := .offering, offered := some { index := k, power := x.power, tag := x.tag } } := by
    rw [State.offer, State.takeOffer, slot_linkRequest, slot_modSlot_same, before]
  have order : (s.offer i (k, x)).ae.entryOrder = s.ae.entryOrder.filter (· != i) := by
    show ((s.leaveQueue i).claimFor i x.power .offer).ae.entryOrder = _
    rw [State.claimFor, evalExcess_ae]
    rfl
  have claim : ((s.offer i (k, x)).entry i).claim = x.power := by
    show (((s.leaveQueue i).claimFor i x.power .offer).entry i).claim = _
    have entry (t : State) : t.evalExcess.entry i = t.entry i := by unfold State.entry; rw [evalExcess_ae]
    rw [State.claimFor, entry, entry_modEntry_same]
  obtain ⟨nodup, member⟩ := h.queue
  refine h.of_slot (i := i) ?_ ⟨by rw [order]; exact nodup.filter _, fun j => ?_⟩ ?_ ?_ fun strictly => ?_
  · have claimed : SlotFrame i s ((s.leaveQueue i).claimFor i x.power .offer) := SlotFrame.evalExcess (by simp)
    simpa [State.offer] using claimed
  · rw [order, List.mem_filter, member j]
    by_cases same : j = i
    · rw [same, own]
      exact iff_of_false (by simp) (by exact nofun)
    · rw [slot_offer_other s _ same]
      simp [same]
  · rw [own]
    intro en
    rw [waiting] at en
    exact en
  · rw [own]
    exact SlotRec.strikesRight_of rfl (by simp [waiting])
  · obtain ⟨-, lists, power⟩ := h.standing strictly
    have of_l := concerns (lists i l (.inl current))
    obtain ⟨unfreed, requests⟩ := (SlotRec.powerRight_waiting waiting _).mp (power i)
    rw [own, claim]
    exact ⟨lists i, (SlotRec.powerRight_offering rfl _).mpr ⟨of_l.2, unfreed, ⟨_, l, rfl, current, of_l⟩, requests⟩⟩

end

theorem rulesClosed_slotsRight (strict : Prop) : RulesClosed (State.slotsRight strict) where
  event _ _ _ _ _ h := h.of_same rfl rfl rfl rfl fun _ => rfl
  blocked s i x h := h.modEntry fun _ => id
  reduce s i index power h := h.of_part (takeReduce_sound i s index power .reclaim)
    (claim_of_account (account_takeReduce ..) i)
  opened _ _ _ _ h := h.of_same rfl rfl rfl rfl fun _ => rfl
  converted _ _ h := h.of_same rfl rfl rfl rfl fun _ => rfl
  ended _ h := h.of_same rfl rfl rfl rfl fun _ => rfl
  offer s i p fits served h := by
    obtain ⟨l, current, found⟩ := Option.bind_eq_some_iff.mp fits
    exact h.offer (served fun _ => State.slotsRight.queue) current fun powers => Offered.of_firstPoint powers found
  raise s i p candidate point h := by
    obtain ⟨l, current, found⟩ := Option.bind_eq_some_iff.mp point
    have powered : (s.slot i).state = .powered := by
      simp only [State.raiseCandidate, Bool.and_eq_true, beq_iff_eq] at candidate
      exact candidate.1.1.1.1
    have slot : (s.claimFor i p.2.power .raise).slot i = s.slot i := by
      rw [State.claimFor, State.slot, evalExcess_slots]; rfl
    have claimed := h.claimFor (i := i) (power := p.2.power) (mark := .raise) fun strictly =>
      (h.standing strictly).2.1 i l (.inl current) _ (highestBetween_spec found).1
    refine claimed.of_part (takeRaise_sound (l := l) (by rw [slot]; exact powered) (by rw [slot]; exact current)
      fun powers => Offered.of_firstPoint powers found) (claim_of_account (account_takeRaise ..) i)

/-! ### The notices -/

section
variable {s : State} {i : SlotId}

theorem makeCurrent_sound {l : DemandList} (idle : (s.slot i).state = .identify ∨ (s.slot i).state = .standby)
    (arriving : (s.slot i).arriving = some l) : ActSound i s (s.makeCurrent i l) := by
  have off : (s.slot i).state.off := by
    rcases idle with st | st <;> rw [st] <;> exact ⟨rfl, nofun, nofun⟩
  refine .stays (by simp) ?_ rfl ?_ <;> rw [slot_makeCurrent]
  · refine .of_off off (fun en => en.trans off.1) id ?_ (.inl rfl)
    rintro m (held | held | held) <;> cases held
    exact .inl (.inr (.inl arriving))
  · exact Iff.rfl

theorem admitDemand_sound (idle : (s.slot i).state = .identify ∨ (s.slot i).state = .standby)
    (freed : s.freed i = true) : ActSound i s (s.admitDemand i) := by
  have off : (s.slot i).state.off := by
    rcases idle with st | st <;> rw [st] <;> exact ⟨rfl, nofun, nofun⟩
  have unlocked : (s.slot i).state ≠ .lockedOut := by
    rcases idle with st | st <;> rw [st] <;> nofun
  unfold State.admitDemand
  split
  · exact joinQueue_sound s i off unlocked (by simpa [State.freed] using freed)
  · refine .stays (by simp) ?_ rfl ?_ <;> rw [slot_enter]
    · exact .of_off ⟨rfl, nofun, nofun⟩ (fun en => en.trans off.1) (SlotRec.strikesRight_of rfl (by simp [unlocked]))
        (fun l held => .inl held) (.inr ⟨rfl, rfl⟩)
    · simp [off.2.2]

/-- A request to map that names a point of the pending list, or none. -/
theorem mapRequest_sound {o : Option Offered} {l : DemandList} (restated : (s.slot i).restated = some l)
    (concerns : l.powers → ∀ x, o = some x → x.of l) :
    ActSound i s (s.modSlot i fun r => { r with mapRequests := r.mapRequests ++ [o] }) := by
  refine .stays (by simp) ⟨?_, ?_, ?_, ?_⟩ rfl ?_ <;> rw [slot_modSlot_same]
  · exact id
  · exact id
  · exact id
  · intro lists claim ⟨claims, frees, granted, offers, mapping, requests⟩
    refine ⟨claims, frees, granted, offers, mapping, fun m pending x member => ?_⟩
    rcases List.mem_append.mp member with old | new
    · exact requests m pending x old
    · cases restated.symm.trans pending
      exact concerns (lists l (.inr (.inr restated))) x (List.mem_singleton.mp new).symm

end

theorem noticeClosed_slotsRight (strict : Prop) : NoticeClosed (State.slotsRight strict) strict where
  event _ _ _ _ _ h := h.of_same rfl rfl rfl rfl fun _ => rfl
  entry s i f keeps h := h.modEntry fun _ power => by rw [keeps]; exact power
  holding s i n vacant h := by
    refine State.slotsRight.evalExcess ?_
    split
    · rename_i zero
      exact (h.modEntry (i := i) fun strictly power => power.off (vacant zero strictly) 0).of_same rfl rfl rfl rfl fun _ => rfl
    · rename_i positive
      refine h.modEntry fun _ power => power.claim fun claimed => ?_
      dsimp only
      split
      · exact claimed
      · exact positive
  place _ _ _ _ h := h.of_same rfl rfl rfl rfl fun _ => rfl
  entering s i idle freed h := h.of_part (admitDemand_sound idle freed) (claim_of_account (account_admitDemand s i) i)
  current _ _ _ idle arriving h := h.of_part (makeCurrent_sound idle arriving) rfl
  floor s i h := by
    unfold State.followFloor
    split
    · exact h.of_same rfl rfl rfl rfl fun _ => rfl
    · exact h
  mapping s i h := by
    obtain eq | ⟨l, restated, -, ⟨-, eq⟩ | ⟨k, x, found, eq⟩⟩ := mapRestatement_cases s i <;> rw [eq]
    · exact h
    · exact h.of_part (mapRequest_sound restated fun _ => nofun) rfl
    · refine (h.modEntry fun _ => id).of_part (mapRequest_sound (l := l) restated fun powers o named => ?_) rfl
      cases named
      exact Offered.of_firstPoint powers found
  counted _ _ h := h.of_same rfl rfl rfl rfl fun _ => rfl
  period _ h := h.of_same rfl rfl rfl rfl fun _ => rfl
  judged _ _ _ _ h := h.of_same rfl rfl rfl rfl fun _ => rfl

/-! ### Every step -/

/-- A keep-power restart's records: those of RESYNC stand on their max power, the others without power. -/
theorem keptPower_standing (r : SlotRec) (classLimit maxPower : Nat) (holdoff : Option Nat) (positive : maxPower ≠ 0) :
    (r.keptPower classLimit holdoff).powerRight (AeSlot.keptPower (r.state.kept r.presN) maxPower).claim := by
  by_cases resync : r.state.kept r.presN = .resync
  · refine (SlotRec.powerRight_resync (by exact resync) _).mpr ⟨?_, rfl, nofun⟩
    simpa [AeSlot.keptPower, resync] using positive
  · have off : (r.keptPower classLimit holdoff).state.off := by
      show (r.state.kept r.presN).off
      revert resync
      cases r.state <;> cases r.presN <;> simp [SlotState.kept, SlotState.off, SlotState.enabled, SlotState.poweredFamily]
    exact (SlotRec.powerRight_off off _).mpr nofun

theorem engineKept_slotsRight (strict : Prop) : EngineKept (State.slotsRight strict) strict where
  notices := noticeClosed_slotsRight strict
  rules := rulesClosed_slotsRight strict
  quiet s t same h := by
    obtain ⟨hold, ae⟩ := same.account
    refine h.of_same same.slots (by rw [ae]) same.policies same.low fun i => ?_
    unfold State.entry
    rw [ae]
  part i _ _ sound frame h := h.of_part sound (claim_of_account frame.1 i)
  freeing s i frees h strictly := by
    have unfreed := ((h.standing strictly).2.2 i).2.1
    rw [frees] at unfreed
    refine ⟨Bool.eq_false_iff.mpr fun on => ?_, fun on => ?_, fun on => ?_⟩
    · exact Bool.noConfusion (unfreed (.inl on))
    · exact Bool.noConfusion (unfreed (.inr (.inl on)))
    · exact Bool.noConfusion (unfreed (.inr (.inr on)))
  resync s i _ h := (h.modEntry fun strictly power => power.claim fun _ => (h.standing strictly).1 i).evalExcess
  limits _ _ _ _ _ h := State.slotsRight.evalExcess (h.of_same rfl rfl rfl rfl fun _ => rfl)
  policy s i p positive h := by
    refine ⟨h.queue, h.enables, h.strikes, fun strictly => ?_⟩
    obtain ⟨policies, lists, power⟩ := h.standing strictly
    exact ⟨installPolicy_policiesRight positive policies, lists, power⟩
  coldStart s first a := by
    have low : (s.coldStart first a).resetLow = false := (coldStart_engine s first a).2.1
    have state (i : SlotId) : ((s.coldStart first a).slot i).state = .empty ∨
        ((s.coldStart first a).slot i).state = .settling := by
      rw [slot_coldStart, firstSlot]
      split
      · exact .inl rfl
      · exact .inr rfl
    have plain (i : SlotId) : ((s.coldStart first a).slot i).en = false ∧ ((s.coldStart first a).slot i).strikes = 0 ∧
        ((s.coldStart first a).slot i).restated = none := by
      rw [slot_coldStart, firstSlot]
      split <;> exact ⟨rfl, rfl, rfl⟩
    refine ⟨?_, (State.enablesRight_iff _).mpr fun _ i => ?_, fun _ i => ?_, fun _ =>
      ⟨(engineKept_ledgerRight.coldStart s first a).policies, (engineKept_ledgerRight.coldStart s first a).lists, fun i => ?_⟩⟩
    · unfold State.queueRight
      rw [coldStart_ae]
      refine ⟨List.nodup_nil, fun i => iff_of_false nofun ?_⟩
      rcases state i with st | st <;> rw [st] <;> nofun
    · rw [(plain i).1]
      rcases state i with st | st <;> rw [st] <;> rfl
    · show ((s.coldStart first a).slot i).strikesRight
      unfold SlotRec.strikesRight
      rw [(plain i).2.1]
      rcases state i with st | st <;> rw [st] <;> simp
    · refine (SlotRec.powerRight_off ?_ _).mpr ?_
      · rcases state i with st | st <;> rw [st] <;> exact ⟨rfl, nofun, nofun⟩
      · rw [(plain i).2.2]; nofun
  keptStart s h := by
    obtain ⟨slots, -, cu, ae, -⟩ := keptStart_facts s
    have slot (i : SlotId) : s.keptStart.slot i = (s.slot i).keptPower (s.policy i).classLimit s.holdoffTimer := by
      rw [← slot_keptPower, State.slot, slots]; rfl
    have entry (i : SlotId) : s.keptStart.entry i =
        AeSlot.keptPower ((s.slot i).state.kept (s.slot i).presN) (s.policy i).maxPower := by
      rw [← entry_keptPower]
      unfold State.entry
      rw [ae]
    refine ⟨?_, (State.enablesRight_iff _).mpr fun _ i => by rw [slot]; rfl, fun plain i => ?_, fun strictly => ?_⟩
    · unfold State.queueRight
      rw [ae]
      refine ⟨List.nodup_nil, fun i => iff_of_false nofun ?_⟩
      rw [slot, SlotRec.keptPower_state]
      cases (s.slot i).state <;> cases (s.slot i).presN <;> nofun
    · show (s.keptStart.slot i).strikesRight
      rw [slot]
      refine SlotRec.strikesRight_of (r := s.slot i) rfl ?_ (h.strikes plain i)
      rw [SlotRec.keptPower_state]
      cases (s.slot i).state <;> cases (s.slot i).presN <;> simp [SlotState.kept]
    · obtain ⟨policies, -, -⟩ := h.standing strictly
      refine ⟨policies.of_cu (by rw [cu]; rfl), fun i l held => ?_, fun i => ?_⟩
      · rw [slot] at held
        rcases held with held | held | held <;> cases held
      · rw [slot, entry]
        exact keptPower_standing _ _ _ _ (policies i)

/-- RESET_N taken low leaves what the slots stand on. -/
theorem State.slotsRight.rest {strict : Prop} {s : State} (h : s.slotsRight strict) : s.rest.slotsRight strict := by
  refine ⟨?_, (State.enablesRight_iff _).mpr nofun, fun plain i => ?_, fun strictly => ?_⟩
  · unfold State.queueRight
    simp only [slot_rest]
    exact h.queue
  · rw [slot_rest]
    exact h.strikes plain i
  · obtain ⟨policies, lists, power⟩ := h.standing strictly
    refine ⟨policies, fun i => ?_, fun i => ?_⟩ <;> rw [slot_rest]
    · exact lists i
    · exact power i

/-- An enable that is right stands on a claim where its slot stands well. -/
theorem State.slotsRight.enablesClaimed {s : State} (h : s.slotsRight True) : s.enablesClaimed := by
  intro i high
  rw [h.enables i, Bool.and_eq_true] at high
  exact ((h.standing trivial).2.2 i).1 (.inl high.2)

/-- Settles O7: both groups are kept by every act (`EngineKept`): of the SS by `SlotAct.sound`, of the AE by
`rulesClosed_slotsRight` and `noticeClosed_slotsRight`. -/
theorem stepKeepsSlotsSound : Obligations.StepKeepsSlotsSound := by
  intro s t answer
  refine ⟨fun ⟨queue, enables, strikes⟩ => ?_, fun ⟨queue, enables, policies, lists, power⟩ => ?_⟩
  · obtain ⟨queue', enables', strikes', -⟩ := (engineKept_slotsRight False).step (fun _ => State.slotsRight.rest)
      ⟨queue, enables, fun _ => strikes, nofun⟩ answer
    exact ⟨queue', enables', strikes' not_false⟩
  · have right := (engineKept_slotsRight True).step (fun _ => State.slotsRight.rest)
      ⟨queue, enables, fun absurd => (absurd trivial).elim, fun _ => ⟨policies, lists, power⟩⟩ answer
    exact ⟨(right.standing trivial).2.2, right.enablesClaimed⟩

end Sys2Proof.Machine
end

section
/-! The Host Port (chapter 10): the bus conditions, the bytes of a transfer, and a host's whole write to a register. -/

namespace Sys2Proof.Machine

/-! ### The bus conditions -/

/-- A command that changes the Host Port alone. -/
theorem onlyPort_of_hp (s : State) (h : Hp) : onlyPort s { s.elapse with hp := h } :=
  ⟨rfl, rfl, rfl, rfl, rfl, rfl, rfl, rfl, rfl⟩

/-- The port after a STOP while no restart is requested (R184, R188). -/
def Hp.stopped (h : Hp) : Hp :=
  if h.phase = .idle then h
  else { h with
    phase := .idle, staging := none, snapshot := none
    status := if h.staging.isSome then h.status ||| 0x04 else h.status }

theorem stopBus_free {s : State} (free : s.hp.restart = none) : s.stopBus = { s with hp := s.hp.stopped } := by
  by_cases idle : s.hp.phase = .idle
  · simp [State.stopBus, Hp.stopped, idle]
  · cases staging : s.hp.staging <;>
      simp [State.stopBus, State.endTransfer, Hp.stopped, idle, free, staging, Hp.flag, HostFlag.mask]

theorem Hp.stopped_phase (h : Hp) : h.stopped.phase = .idle := by
  unfold Hp.stopped
  split
  · assumption
  · rfl

theorem Hp.stopped_address (h : Hp) : h.stopped.address = h.address := by
  unfold Hp.stopped
  split <;> rfl

theorem startBus_free {s : State} (free : s.hp.restart = none) (address : Byte) :
    s.startBus address = { s with hp := s.hp.stopped.answer address } := by
  rw [State.startBus, free, stopBus_free free]
  rfl

theorem setOffset_opened {s : State} (opened : s.hp.phase = .writeOffset) (off : Byte) :
    s.setOffset off = { s with hp := { s.hp with offset := off, phase := .writing, acked := true } } := by
  simp [State.setOffset, heard_writing (.inr opened), opened]

theorem setOffset_outside {s : State} (outside : s.hp.phase = .idle ∨ s.hp.phase = .reading ∨ s.hp.phase = .readDone)
    (off : Byte) : s.setOffset off = { s with hp := { s.hp with acked := false } } := by
  have closed : s.hp.phase ≠ .writeOffset := by rcases outside with h | h | h <;> rw [h] <;> nofun
  simp [State.setOffset, heard_idle outside, closed]

/-- An offset byte changes the port alone. -/
theorem setOffset_port (s : State) (off : Byte) : ∃ h : Hp, s.setOffset off = { s with hp := h } := by
  unfold State.setOffset State.heard
  dsimp only
  split <;> exact ⟨_, rfl⟩

/-- Settles O54: the port after each condition of the bus (`Hp.stopped`, `Hp.answer`). -/
theorem busConditionsMoveThePort : Obligations.BusConditionsMoveThePort := by
  intro s b high free
  have stop : exec .stop s = .next { s.elapse with hp := s.hp.stopped } := by
    rw [exec, execStop, happening_running _ high, stopBus_free (s := s.elapse) free]
    rfl
  refine ⟨⟨_, stop, onlyPort_of_hp s _, rfl⟩, ?_, ?_, fun outside => ?_⟩
  · refine ⟨{ s.elapse with hp := s.hp.stopped.answer b }, ?_, onlyPort_of_hp s _, _, stop, ?_⟩
    · rw [exec, execStart, happening_running _ high, startBus_free (s := s.elapse) free]
      rfl
    · rw [← Hp.stopped_address s.hp]
      rfl
  · obtain ⟨h, port⟩ := setOffset_port s.elapse b
    refine ⟨s.elapse.setOffset b, ?_, ?_, fun opened => ?_, fun outside => ?_⟩
    · rw [exec, execOffsetSet, happening_running _ high]
    · rw [port]
      exact onlyPort_of_hp s h
    · rw [setOffset_opened (s := s.elapse) opened]; rfl
    · rw [setOffset_outside (s := s.elapse) outside]; rfl
  · refine ⟨{ s.elapse with hp := { s.hp with acked := false } }, ?_, onlyPort_of_hp s _, rfl⟩
    have closed : s.elapse.hp.phase ≠ .writing := by
      rcases outside with h | h | h <;> exact fun writing => by cases h.symm.trans writing
    rw [exec, execRegisterWrite, happening_running _ high, if_neg closed, heard_idle (s := s.elapse) outside]
    rfl

/-! ### The register map -/

/-- There is a register up to 47h, and from 4Ah to 4Fh; WIN_DATA at 48h is read by the window. -/
theorem register_isSome (s : State) (off : Nat) :
    (s.register off).isSome = decide (off ≤ 0x47 ∨ 0x4A ≤ off ∧ off ≤ 0x4F) := by
  by_cases low : off ≤ 0x4F
  · interval_cases off <;> rfl
  · have beyond : s.register off = none := by
      unfold State.register
      dsimp only
      repeat rw [if_neg (by omega)]
    rw [beyond, decide_eq_false (by omega)]
    rfl

/-- The offset moves on but at a port register. -/
theorem nextOffset_moves {off : Byte} (moves : portRegister off.toNat = false) : nextOffset off = off + 1 := by
  simp [nextOffset, moves]

/-- A byte past the offset byte, for a register that takes single bytes. -/
theorem writeByte_single {s : State} (writing : s.hp.phase = .writing) (free : s.hp.restart = none)
    (single : stagedRegister s.hp.offset.toNat = none) (b : Byte) {u : State}
    (delivered : State.deliverByte { s with hp := { s.hp with acked := true } } s.hp.offset.toNat b = u) :
    s.writeByte b = { u with hp := { u.hp with offset := nextOffset s.hp.offset } } := by
  rw [← delivered, State.writeByte, heard_writing (.inl writing)]
  dsimp only
  rw [free, single]
  rfl

/-- A byte past the offset byte, for a register of several bytes. -/
theorem writeByte_staged {s : State} (writing : s.hp.phase = .writing) (free : s.hp.restart = none) {base last : Nat}
    (staged : stagedRegister s.hp.offset.toNat = some (base, last)) (b : Byte) {u : State}
    (settled : State.stageByte { s with hp := { s.hp with acked := true } } base last b = u) :
    s.writeByte b = { u with hp := { u.hp with offset := nextOffset s.hp.offset } } := by
  rw [← settled, State.writeByte, heard_writing (.inl writing)]
  dsimp only
  rw [free, staged]
  rfl

/-- Bytes behind a restart request are discarded. -/
theorem writeByte_requested {s : State} (writing : s.hp.phase = .writing) {k : RestartKind}
    (requested : s.hp.restart = some k) (b : Byte) : s.writeByte b = { s with hp := { s.hp with acked := true } } := by
  rw [State.writeByte, heard_writing (.inl writing)]
  dsimp only
  rw [requested]
  rfl

/-- An offset of a register that takes no byte (R186). -/
def readOnlyAt (off : Nat) : Prop :=
  off ≤ 0x01 ∨ off = 0x08 ∨ (0x0A ≤ off ∧ off ≤ 0x11) ∨ off = 0x19 ∨ (0x1C ≤ off ∧ off ≤ 0x41) ∨ off = 0x46 ∨
    off = 0x47 ∨ (0x4A ≤ off ∧ off ≤ 0x4F)

theorem deliverByte_readOnly (s : State) {off : Nat} (readOnly : readOnlyAt off) (b : Byte) :
    s.deliverByte off b = { s with hp := s.hp.flag .readOnlyWrite } := by
  unfold readOnlyAt at readOnly
  have there : (s.register off).isSome = true := by
    rw [register_isSome]
    exact decide_eq_true (by omega)
  unfold State.deliverByte
  rw [if_neg (by omega), if_neg (by omega), if_neg (by omega), if_neg (by omega), if_neg (by omega), if_neg (by omega),
    if_neg (by omega), if_neg (by omega), if_neg (by omega), if_pos there]

theorem deliverByte_absent (s : State) {off : Nat} (absent : off = 0x49 ∨ 0x50 ≤ off) (b : Byte) :
    s.deliverByte off b = { s with hp := s.hp.flag .badOffset } := by
  have gone : ¬(s.register off).isSome = true := by
    rw [register_isSome]
    exact ne_true_of_eq_false (decide_eq_false (by omega))
  unfold State.deliverByte
  rw [if_neg (by omega), if_neg (by omega), if_neg (by omega), if_neg (by omega), if_neg (by omega), if_neg (by omega),
    if_neg (by omega), if_neg (by omega), if_neg (by omega), if_neg gone]

theorem stagedRegister_none {off : Nat} (h : off < 0x04 ∨ (0x08 ≤ off ∧ off < 0x13) ∨ 0x19 ≤ off) :
    stagedRegister off = none := by
  unfold stagedRegister
  rw [if_neg (by omega), if_neg (by omega), if_neg (by omega)]

theorem portRegister_false {off : Nat} (h : off ≠ 0x09 ∧ off ≠ 0x12 ∧ off ≠ 0x1A ∧ off ≠ 0x1B ∧ off ≠ 0x45 ∧ off ≠ 0x48) :
    portRegister off = false := by
  simp [portRegister, h]

end Sys2Proof.Machine
end

section
/-! Bytes of a transfer (R184 to R189): where each goes, and where each comes from. -/

namespace Sys2Proof.Machine

/-! ### Writing -/

section
variable {s : State} (writing : s.hp.phase = .writing) (free : s.hp.restart = none) (b : Byte)
include writing free

/-- A byte that its register ignores, or that only marks the port. -/
theorem writeByte_port {h : Hp} (single : stagedRegister s.hp.offset.toNat = none)
    (delivered : State.deliverByte { s with hp := { s.hp with acked := true } } s.hp.offset.toNat b = { s with hp := h }) :
    s.writeByte b = { s with hp := { h with offset := nextOffset s.hp.offset } } :=
  writeByte_single writing free single b delivered

theorem writeByte_readOnly (readOnly : readOnlyAt s.hp.offset.toNat) :
    s.writeByte b = { s with hp := { s.hp with
      acked := true, offset := s.hp.offset + 1, status := s.hp.status ||| 0x02 } } := by
  have moves : nextOffset s.hp.offset = s.hp.offset + 1 :=
    nextOffset_moves (portRegister_false (by unfold readOnlyAt at readOnly; omega))
  rw [writeByte_port writing free b (stagedRegister_none (by unfold readOnlyAt at readOnly; omega))
    (deliverByte_readOnly _ readOnly b), moves]
  rfl

theorem writeByte_absent (absent : s.hp.offset.toNat = 0x49 ∨ 0x50 ≤ s.hp.offset.toNat) :
    s.writeByte b = { s with hp := { s.hp with
      acked := true, offset := s.hp.offset + 1, status := s.hp.status ||| 0x01 } } := by
  have moves : nextOffset s.hp.offset = s.hp.offset + 1 := nextOffset_moves (portRegister_false (by omega))
  rw [writeByte_port writing free b (stagedRegister_none (by omega)) (deliverByte_absent _ absent b), moves]
  rfl

/-- WIN_DATA takes no byte (R177). -/
theorem writeByte_winData (at_ : s.hp.offset = 0x48) :
    s.writeByte b = { s with hp := { s.hp with acked := true, status := s.hp.status ||| 0x08 } } := by
  rw [writeByte_port (h := { s.hp with acked := true, status := s.hp.status ||| 0x08 }) writing free b
    (by rw [at_]; rfl) (by rw [at_]; rfl)]
  simp only [at_]
  rfl

/-- A refused selection (R174, R186). -/
theorem writeByte_refused (select : s.hp.offset = 0x42 ∨ s.hp.offset = 0x43) (high : 7 < b.toNat) :
    s.writeByte b = { s with hp := { s.hp with
      acked := true, offset := s.hp.offset + 1, status := s.hp.status ||| 0x08 } } := by
  rcases select with at_ | at_ <;>
  · rw [writeByte_port (h := { s.hp with acked := true, status := s.hp.status ||| 0x08 }) writing free b
      (by rw [at_]; rfl) (by rw [at_]; simp [State.deliverByte, State.setWindow, high]; rfl)]
    simp only [at_]
    rfl

theorem writeByte_first (at_ : s.hp.offset = 0x42) (low : b.toNat ≤ 7) :
    s.writeByte b = { s with wu := { s.wu with first := b }, hp := { s.hp with acked := true, offset := 0x43 } } := by
  rw [writeByte_single (u := { s with wu := { s.wu with first := b }, hp := { s.hp with acked := true } }) writing free
    (by rw [at_]; rfl) b (by rw [at_]; simp [State.deliverByte, State.setWindow, not_lt.mpr low])]
  simp only [at_]
  rfl

theorem writeByte_last (at_ : s.hp.offset = 0x43) (low : b.toNat ≤ 7) :
    s.writeByte b = { s with wu := { s.wu with last := b }, hp := { s.hp with acked := true, offset := 0x44 } } := by
  rw [writeByte_single (u := { s with wu := { s.wu with last := b }, hp := { s.hp with acked := true } }) writing free
    (by rw [at_]; rfl) b (by rw [at_]; simp [State.deliverByte, State.setWindow, not_lt.mpr low])]
  simp only [at_]
  rfl

theorem writeByte_group (at_ : s.hp.offset = 0x44) (low : b.toNat ≤ 15) :
    s.writeByte b = { s with wu := { s.wu with group := b }, hp := { s.hp with acked := true, offset := 0x45 } } := by
  rw [writeByte_single (u := { s with wu := { s.wu with group := b }, hp := { s.hp with acked := true } }) writing free
    (by rw [at_]; rfl) b (by rw [at_]; simp [State.deliverByte, State.setWindow, Nat.lt_succ_of_le low])]
  simp only [at_]
  rfl

theorem writeByte_groupRefused (at_ : s.hp.offset = 0x44) (high : 15 < b.toNat) :
    s.writeByte b = { s with hp := { s.hp with acked := true, offset := 0x45, status := s.hp.status ||| 0x08 } } := by
  rw [writeByte_port (h := { s.hp with acked := true, status := s.hp.status ||| 0x08 }) writing free b
    (by rw [at_]; rfl) (by rw [at_]; simp [State.deliverByte, State.setWindow, Nat.not_lt.mpr (show 16 ≤ b.toNat from high)]; rfl)]
  simp only [at_]
  rfl

/-- A byte to RESTART (R192). -/
theorem writeByte_restartAny (at_ : s.hp.offset = 0x03) :
    s.writeByte b = { s with hp :=
      if b = 1 then { s.hp with acked := true, offset := 0x04, restart := some .full }
      else if b = 2 then { s.hp with acked := true, offset := 0x04, restart := some .keepPower }
      else { s.hp with acked := true, offset := 0x04, status := s.hp.status ||| 0x08 } } := by
  by_cases full : b = 1
  · rw [full]
    exact writeByte_restart .full writing at_ free
  · by_cases keep : b = 2
    · rw [keep]
      exact writeByte_restart .keepPower writing at_ free
    · rw [if_neg full, if_neg keep, writeByte_port (h := { s.hp with acked := true, status := s.hp.status ||| 0x08 })
        writing free b (by rw [at_]; rfl) (by
          rw [at_]
          show State.requestRestart _ b = _
          rw [State.requestRestart, if_neg full, if_neg keep]
          rfl)]
      simp only [at_]
      rfl

/-- The last byte of a register of several, the write begun inside it (R188). -/
theorem writeByte_inside {base last : Nat} (staged : stagedRegister s.hp.offset.toNat = some (base, last))
    (ends : s.hp.offset.toNat = last) (inside : (s.hp.staged b).first.toNat ≠ base) :
    s.writeByte b = { s with hp := { s.hp with
      acked := true, offset := nextOffset s.hp.offset, staging := none, status := s.hp.status ||| 0x04 } } := by
  exact writeByte_staged
    (u := { s with hp := { s.hp with acked := true, staging := none, status := s.hp.status ||| 0x04 } }) writing free staged
    b ((if_pos ends).trans (if_neg inside))

/-- A byte of a register of several, not its last (R188). -/
theorem writeByte_within {base last : Nat} (staged : stagedRegister s.hp.offset.toNat = some (base, last))
    (more : s.hp.offset.toNat ≠ last) :
    s.writeByte b = { s with hp := { s.hp with
      acked := true, offset := nextOffset s.hp.offset, staging := some (s.hp.staged b) } } := by
  exact writeByte_staged (u := { s with hp := { s.hp with acked := true, staging := some (s.hp.staged b) } }) writing free
    staged b (if_neg more)

/-- The last byte of a register of several, all of it staged (R188). -/
theorem writeByte_whole {base last : Nat} (staged : stagedRegister s.hp.offset.toNat = some (base, last))
    (ends : s.hp.offset.toNat = last) (whole : (s.hp.staged b).first.toNat = base) {u : State}
    (delivered : State.deliverStaged { s with hp := { s.hp with acked := true, staging := none } } base
      (s.hp.staged b).bytes = u) :
    s.writeByte b = { u with hp := { u.hp with offset := nextOffset s.hp.offset } } := by
  exact writeByte_staged writing free staged b (((if_pos ends).trans (if_pos whole)).trans delivered)

end

/-! ### Reading -/

theorem Hp.fetch_uncopied {h : Hp} {base : Nat} {bytes : List Byte}
    (uncopied : ∀ c ∈ h.snapshot, c.base.toNat ≠ base) :
    h.fetch base bytes = (bytes.getD (h.offset.toNat - base) 0,
      if h.offset.toNat - base + 1 < bytes.length then some { base := byteOf base, bytes := bytes } else none) := by
  unfold Hp.fetch
  cases copy : h.snapshot with
  | none => rfl
  | some c =>
    dsimp only
    rw [if_neg (uncopied c copy)]

theorem Hp.fetch_copied {h : Hp} {base : Nat} {bytes : List Byte} {c : Snapshot} (copy : h.snapshot = some c)
    (own : c.base.toNat = base) :
    h.fetch base bytes = (c.bytes.getD (h.offset.toNat - base) 0,
      if h.offset.toNat - base + 1 < c.bytes.length then some c else none) := by
  unfold Hp.fetch
  rw [copy]
  dsimp only
  rw [if_pos own]

section
variable {s : State} (ack : Bool) (apart : s.hp.offset ≠ 0x48)
include apart

theorem readByte_absent (absent : s.register s.hp.offset.toNat = none) :
    s.readByte ack = { s with hp := (s.hp.flag .badOffset).sentByte 0 none ack } := by
  rw [State.readByte, if_neg apart, absent]

theorem readByte_register {base : Nat} {bytes : List Byte} (there : s.register s.hp.offset.toNat = some (base, bytes)) :
    s.readByte ack = { s with hp := s.hp.sentByte (s.hp.fetch base bytes).1 (s.hp.fetch base bytes).2 ack } := by
  rw [State.readByte, if_neg apart, there]

end

/-- WIN_DATA is not among the registers that are copied. -/
theorem register_apart {s : State} {r : Nat × List Byte} (there : s.register s.hp.offset.toNat = some r) :
    s.hp.offset ≠ 0x48 := by
  intro at_
  have some_ := register_isSome s s.hp.offset.toNat
  rw [there, at_] at some_
  exact absurd (of_decide_eq_true some_.symm) (by decide)

/-- The first record behind a restart (R172, R192). -/
theorem restartAs_head (s : State) (k : RestartKind) : ((s.restartAs k).eu.queue.head?.map fun e => (e.kind, e.a)) =
    some (.restart, match k with | .full => 1 | .keepPower => 2) := by
  cases k with
  | full =>
    obtain ⟨q, queue, -⟩ := (started_alike s s s.inputs 1).presents
      (allSlots.filter fun i => !s.inputs.presN[i.val])
      (by have := (started_queue s s.inputs 1).2.1; have := present_count fun i => !s.inputs.presN[i.val]; omega)
    rw [restartAs_full, coldStart_eu, queue]
    rfl
  | keepPower =>
    obtain ⟨head, -⟩ := (warmStart_account s).2
    rw [restartAs_keepPower, head]
    rfl

theorem restartAs_hp (s : State) (k : RestartKind) : (s.restartAs k).hp.phase = .idle ∧ (s.restartAs k).hp.restart = none := by
  cases k
  · rw [restartAs_full]
    have hp := (EngineFrame.coldStart s s.inputs 1).2.2.2.2.2.1
    exact ⟨congrArg Hp.phase hp, congrArg Hp.restart hp⟩
  · rw [restartAs_keepPower]
    have hp := (EngineFrame.warmStart s).2.2.2.2.2.1
    exact ⟨congrArg Hp.phase hp, congrArg Hp.restart hp⟩

theorem readOnlyAt_of {off : Byte} (h : off.toNat ≤ 0x01 ∨ off = 0x08 ∨ (0x0A ≤ off.toNat ∧ off.toNat ≤ 0x11) ∨
    off = 0x19 ∨ (0x1C ≤ off.toNat ∧ off.toNat ≤ 0x41) ∨ off = 0x46 ∨ off = 0x47 ∨
    (0x4A ≤ off.toNat ∧ off.toNat ≤ 0x4F)) : readOnlyAt off.toNat := by
  unfold readOnlyAt
  rcases h with h | rfl | h | rfl | h | rfl | rfl | h <;> simp_all

/-- A host's byte of the write transfer in progress. -/
theorem exec_registerWrite {s : State} (high : s.resetLow = false) (writing : s.hp.phase = .writing) (b : Byte) :
    exec (.registerWrite b) s = .next (s.elapse.writeByte b) := by
  rw [exec, execRegisterWrite, happening_running _ high]
  exact congrArg _ (if_pos writing)

theorem exec_registerRead {s : State} (high : s.resetLow = false) (reading : s.hp.phase = .reading) (ack : Bool) :
    exec (.registerRead ack) s = .next (s.elapse.readByte ack) := by
  rw [exec, execRegisterRead, happening_running _ high]
  exact congrArg _ (if_pos reading)

/-- A byte within one register of several, none of it staged before (R188). -/
theorem writeByte_firstStaged {s : State} (writing : s.hp.phase = .writing) (clear : portClear s) (b : Byte)
    (inside : 0x14 ≤ s.hp.offset.toNat) (more : s.hp.offset.toNat ≤ 0x17) :
    s.writeByte b = { s with hp := { s.hp with
      acked := true, offset := s.hp.offset + 1, staging := some { first := s.hp.offset, bytes := [b] } } } := by
  have staged : stagedRegister s.hp.offset.toNat = some (0x13, 0x18) := by
    rw [stagedRegister, if_neg (by omega), if_neg (by omega), if_pos (by omega)]
  have moves : nextOffset s.hp.offset = s.hp.offset + 1 := nextOffset_moves (portRegister_false (by omega))
  rw [writeByte_within writing clear.1 b staged (by omega), moves, Hp.staged, clear.2]

/-- The last byte of a register of several, nothing of it staged before (R188). -/
theorem writeByte_lone {s : State} (writing : s.hp.phase = .writing) (clear : portClear s) (b : Byte)
    (ends : s.hp.offset = 0x05 ∨ s.hp.offset = 0x07 ∨ s.hp.offset = 0x18) :
    s.writeByte b = { s with hp := { s.hp with
      acked := true, offset := s.hp.offset + 1, status := s.hp.status ||| 0x04 } } := by
  have alone : s.hp.staged b = { first := s.hp.offset, bytes := [b] } := by rw [Hp.staged, clear.2]
  have cleared : s.hp = { s.hp with staging := none } := by rw [← clear.2]
  rcases ends with at_ | at_ | at_
  · rw [writeByte_inside (base := 0x04) (last := 0x05) writing clear.1 b (by rw [at_]; rfl) (by rw [at_]; rfl)
      (by rw [alone, at_]; nofun), ← clear.2, at_]
    rfl
  · rw [writeByte_inside (base := 0x06) (last := 0x07) writing clear.1 b (by rw [at_]; rfl) (by rw [at_]; rfl)
      (by rw [alone, at_]; nofun), ← clear.2, at_]
    rfl
  · rw [writeByte_inside (base := 0x13) (last := 0x18) writing clear.1 b (by rw [at_]; rfl) (by rw [at_]; rfl)
      (by rw [alone, at_]; nofun), ← clear.2, at_]
    rfl

/-- Settles O55: each byte by the register its offset names (`register_isSome`, the `writeByte_` lemmas), a read by the
copy held, if any (`Hp.fetch_copied`, `Hp.fetch_uncopied`). -/
theorem transferBytesReachTheRegisters : Obligations.TransferBytesReachTheRegisters := by
  intro s b v p ack high
  refine ⟨fun writing clear => ?_, fun writing free at_ g staging inside => ?_, fun writing k requested => ?_,
    fun writing free at_ staging => ?_, fun reading => ?_⟩
  · have free := clear.1
    refine ⟨_, exec_registerWrite high writing b, fun readOnly => ?_, fun at_ => ?_, fun absent => ?_,
      fun select above => ?_, fun at_ low => ?_, fun at_ low => ?_, fun at_ low => ?_, fun at_ above => ?_, fun ends => ?_,
      fun inside more => ?_, fun at_ => ?_⟩
    · rw [writeByte_readOnly (s := s.elapse) writing free b (readOnlyAt_of readOnly)]
      exact ⟨onlyPort_of_hp s _, rfl⟩
    · rw [writeByte_winData (s := s.elapse) writing free b at_]
      exact ⟨onlyPort_of_hp s _, rfl⟩
    · rw [writeByte_absent (s := s.elapse) writing free b (absent.imp (fun at_ => congrArg BitVec.toNat at_) id)]
      exact ⟨onlyPort_of_hp s _, rfl⟩
    · rw [writeByte_refused (s := s.elapse) writing free b select above]
      exact ⟨onlyPort_of_hp s _, rfl⟩
    · rw [writeByte_first (s := s.elapse) writing free b at_ low]
      exact ⟨rfl, rfl, rfl, rfl, rfl, rfl, rfl⟩
    · rw [writeByte_last (s := s.elapse) writing free b at_ low]
      exact ⟨rfl, rfl, rfl, rfl, rfl, rfl, rfl⟩
    · rw [writeByte_group (s := s.elapse) writing free b at_ low]
      exact ⟨rfl, rfl, rfl, rfl, rfl, rfl, rfl⟩
    · rw [writeByte_groupRefused (s := s.elapse) writing free b at_ above]
      exact ⟨onlyPort_of_hp s _, rfl⟩
    · rw [writeByte_lone (s := s.elapse) writing clear b ends]
      exact ⟨onlyPort_of_hp s _, rfl⟩
    · rw [writeByte_firstStaged (s := s.elapse) writing clear b inside more]
      exact ⟨onlyPort_of_hp s _, rfl⟩
    · rw [writeByte_restartAny (s := s.elapse) writing free b at_]
      exact ⟨onlyPort_of_hp s _, fun full => if_pos full, fun keep => by rw [keep]; rfl,
        fun unfull unkept => (if_neg unfull).trans (if_neg unkept)⟩
  · refine ⟨_, exec_registerWrite high writing b, ?_⟩
    have first : (s.elapse.hp.staged b).first.toNat ≠ 0x13 := by
      rw [show s.elapse.hp = s.hp from rfl, Hp.staged, staging]
      exact fun same => inside (BitVec.eq_of_toNat_eq same)
    rw [writeByte_inside (s := s.elapse) (base := 0x13) (last := 0x18) writing free b (by exact at_ ▸ rfl) (by exact at_ ▸ rfl)
      first]
    refine ⟨onlyPort_of_hp s _, ?_⟩
    show ({ s.hp with acked := true, offset := nextOffset s.hp.offset, staging := none, status := s.hp.status ||| 0x04 } : Hp) = _
    rw [at_]
    rfl
  · have stopped : exec .stop s = .next (({ s.elapse with hp := { s.hp with phase := .idle, staging := none } } : State).restartAs k) := by
      rw [exec, execStop, happening_running _ high, stopBus_requested (s := s.elapse) writing requested]
      rfl
    refine ⟨⟨_, exec_registerWrite high writing b, ?_⟩, ?_, ?_, _, stopped, (restartAs_hp _ k).1, (restartAs_hp _ k).2,
      restartAs_head _ k⟩
    · rw [writeByte_requested (s := s.elapse) writing requested]
      exact ⟨onlyPort_of_hp s _, rfl⟩
    · have again : s.elapse.hp.restart.isSome = true := by rw [show s.elapse.hp = s.hp from rfl, requested]; rfl
      rw [exec, exec, execStart, execStop, happening_running _ high, happening_running _ high]
      exact congrArg _ (if_pos again)
    · cases k with
      | full =>
        dsimp only
        rw [exec, exec, execFullRestart, execStop, happening_running _ high, happening_running _ high]
        exact congrArg _ (if_pos requested).symm
      | keepPower =>
        dsimp only
        rw [exec, exec, execKeepPowerRestart, execStop, happening_running _ high, happening_running _ high]
        exact congrArg _ (if_pos requested).symm
  · refine ⟨_, exec_registerWrite high writing b, ?_⟩
    have staged : s.elapse.hp.staged b = { first := 0x13, bytes := p ++ [b] } := by
      rw [show s.elapse.hp = s.hp from rfl, Hp.staged, staging]
    rw [writeByte_whole (s := s.elapse) (base := 0x13) (last := 0x18) writing free b (by exact at_ ▸ rfl) (by exact at_ ▸ rfl)
      (by rw [staged]; rfl) (by rw [staged])]
    refine ⟨rfl, ?_, rfl, rfl, rfl, rfl, rfl⟩
    show ({ s.hp with acked := true, offset := nextOffset s.hp.offset, staging := none } : Hp) = _
    rw [at_]
    rfl
  · refine ⟨_, exec_registerRead high reading ack, fun absent apart => ?_, fun there uncopied => ?_,
      fun r there c copy own apart => ?_, fun at_ uncopied => ?_⟩
    · have moves : nextOffset s.hp.offset = s.hp.offset + 1 := by
        refine nextOffset_moves (portRegister_false ?_)
        have gone := register_isSome s s.hp.offset.toNat
        rw [absent] at gone
        have beyond := of_decide_eq_false gone.symm
        have other : s.hp.offset.toNat ≠ 0x48 := fun same => apart (BitVec.eq_of_toNat_eq same)
        omega
      rw [readByte_absent (s := s.elapse) ack apart absent]
      exact ⟨onlyPort_of_hp s _, rfl, rfl, moves⟩
    · rw [readByte_register (s := s.elapse) ack (register_apart there) there,
        Hp.fetch_uncopied (h := s.elapse.hp) fun c copy same => uncopied c copy (BitVec.eq_of_toNat_eq same)]
      refine ⟨onlyPort_of_hp s _, ?_, rfl, ?_⟩
      · show some ([v].getD (s.hp.offset.toNat - s.hp.offset.toNat) 0) = some v
        rw [Nat.sub_self]
        rfl
      · show (if s.hp.offset.toNat - s.hp.offset.toNat + 1 < [v].length then
          some { base := byteOf s.hp.offset.toNat, bytes := [v] } else none) = none
        rw [Nat.sub_self]
        rfl
    · rw [readByte_register (s := s.elapse) ack apart there, Hp.fetch_copied (h := s.elapse.hp) copy own]
      exact ⟨onlyPort_of_hp s _, rfl, rfl, rfl⟩
    · have there : s.elapse.register s.elapse.hp.offset.toNat = some (0x34, le16 s.ae.committed) := by
        rw [show s.elapse.hp = s.hp from rfl, at_]
        rfl
      rw [readByte_register (s := s.elapse) ack (register_apart there) there,
        Hp.fetch_uncopied (h := s.elapse.hp) fun c copy _ => by cases uncopied.symm.trans copy]
      refine ⟨onlyPort_of_hp s _, ?_, ?_, ?_⟩
      · show some ((le16 s.ae.committed).getD (s.hp.offset.toNat - 0x34) 0) = _
        rw [at_]
        rfl
      · show nextOffset s.hp.offset = 0x35
        rw [at_]
        rfl
      · show (if s.hp.offset.toNat - 0x34 + 1 < (le16 s.ae.committed).length then _ else none) = _
        rw [at_]
        rfl

end Sys2Proof.Machine
end

section
/-! A host's whole write to a register (R184, R185): the port it leaves, the event and interrupt registers, and the
window. -/

namespace Sys2Proof.Machine

/-- A host's whole write at a clear port is its bytes in a write transfer; what is left of the port is what the bytes
left of the offset and the status. -/
theorem hostWrite_bytes {s : State} (clear : portClear s) (off : Byte) (bytes : List Byte) :
    ∃ h : Hp, h.status = s.hp.status ∧ h.phase = .writing ∧ h.offset = off ∧ h.restart = none ∧ h.staging = none ∧
      ∀ u next status, bytes.foldl State.writeByte { s with hp := h } = u →
        u.hp = { h with acked := true, offset := next, status := status } →
        s.hostWrite off bytes = { u with hp := s.hp.wrote off next status } := by
  obtain ⟨free, unstaged⟩ := clear
  by_cases here : s.hp.phase = .writing ∧ s.hp.offset = off
  · refine ⟨s.hp, rfl, here.1, here.2, free, unstaged, fun u next status effect port => ?_⟩
    have wrote : s.hp.wrote off next status = u.hp := by
      rw [Hp.wrote, if_pos here, port, unstaged]
    rw [hostWrite_clear ⟨free, unstaged⟩, if_pos here, wrote]
    exact effect
  · refine ⟨{ s.hp with
        phase := .writing, offset := off, staging := none, acked := true
        snapshot := if s.hp.phase = .idle then s.hp.snapshot else none }, rfl, rfl, rfl, free, rfl,
      fun u next status effect port => ?_⟩
    rw [hostWrite_clear ⟨free, unstaged⟩, if_neg here, effect, stopBus_free (by rw [port]; exact free), port, Hp.wrote,
      if_neg here]
    rfl

/-- A host's write of one byte to a register that takes single bytes. -/
theorem hostWrite_single {s : State} (clear : portClear s) {off : Byte} (single : stagedRegister off.toNat = none)
    (b : Byte) :
    ∃ h : Hp, h.status = s.hp.status ∧ h.restart = none ∧ h.staging = none ∧
      ∀ u status, State.deliverByte { s with hp := h } off.toNat b = u → u.hp = { h with status := status } →
        s.hostWrite off [b] = { u with hp := s.hp.wrote off (nextOffset off) status } := by
  obtain ⟨h, status, writing, offset, free, unstaged, whole⟩ := hostWrite_bytes clear off [b]
  refine ⟨{ h with acked := true }, status, free, unstaged, fun u st delivered port => ?_⟩
  have written := writeByte_single (s := { s with hp := h }) (u := u) writing free (by rw [offset]; exact single) b
    (by rw [offset]; exact delivered)
  rw [offset] at written
  exact whole { u with hp := { u.hp with offset := nextOffset off } } _ st written (by rw [port])

/-! ### Registers of several bytes (R188) -/

/-- The port that has staged these bytes of the register that starts at `base`. -/
def Hp.holds (h : Hp) (base : Nat) (bytes : List Byte) : Prop :=
  h.offset.toNat = base + bytes.length ∧
    h.staging = if bytes = [] then none else some { first := byteOf base, bytes := bytes }

theorem Hp.holds.staged {h : Hp} {base : Nat} {bytes : List Byte} (held : h.holds base bytes) (b : Byte) :
    h.staged b = { first := byteOf base, bytes := bytes ++ [b] } := by
  obtain ⟨offset, staging⟩ := held
  unfold Hp.staged
  cases bytes with
  | nil =>
    have first : h.offset = byteOf base := BitVec.eq_of_toNat_eq (by
      rw [offset, byteOf, BitVec.toNat_ofNat, List.length_nil]
      have := h.offset.isLt
      rw [List.length_nil] at offset
      omega)
    rw [if_pos rfl] at staging
    rw [staging, first]
    rfl
  | cons a l =>
    rw [if_neg (List.cons_ne_nil a l)] at staging
    rw [staging]

theorem deliverStaged_hp (s : State) (h : Hp) (base : Nat) (bytes : List Byte) :
    State.deliverStaged { s with hp := h } base bytes = { s.deliverStaged base bytes with hp := h } := by
  unfold State.deliverStaged
  dsimp only
  split
  · rfl
  · split <;> rfl

/-- The bytes of a register of several, written one after another, reach their owner with the last. -/
theorem foldl_writeByte_staged {base last : Nat} (s : State) (low : last < 255)
    (register : ∀ n, base ≤ n → n ≤ last → stagedRegister n = some (base, last) ∧ portRegister n = false)
    (bytes : List Byte) : ∀ (done : List Byte) (h : Hp), h.phase = .writing → h.restart = none → h.holds base done →
      bytes ≠ [] → base + done.length + bytes.length = last + 1 →
      bytes.foldl State.writeByte { s with hp := h } = { s.deliverStaged base (done ++ bytes) with
        hp := { h with acked := true, staging := none, offset := byteOf (last + 1) } } := by
  induction bytes with
  | nil => exact fun _ _ _ _ _ some_ => absurd rfl some_
  | cons b rest ih =>
    intro done h writing free held _ length
    rw [List.length_cons] at length
    have offset := held.1
    obtain ⟨staged, unported⟩ := register h.offset.toNat (by omega) (by omega)
    have moves : nextOffset h.offset = byteOf (h.offset.toNat + 1) := by
      rw [nextOffset_moves unported]
      exact BitVec.eq_of_toNat_eq (by rw [byteOf, BitVec.toNat_add, BitVec.toNat_ofNat]; rfl)
    rw [List.foldl_cons]
    by_cases ends : rest = []
    · have whole : ({ s with hp := h } : State).writeByte b = { s.deliverStaged base (done ++ [b]) with
          hp := { h with acked := true, staging := none, offset := byteOf (last + 1) } } := by
        have at_last : h.offset.toNat = last := by rw [offset]; rw [ends] at length; simp at length; omega
        rw [writeByte_whole (s := { s with hp := h }) writing free b staged at_last
          (by rw [held.staged, byteOf, BitVec.toNat_ofNat]; omega)
          ((congrArg (State.deliverStaged _ base) (congrArg Staging.bytes (held.staged b))).trans
            (deliverStaged_hp s _ base (done ++ [b]))), moves, at_last]
      rw [ends, whole]
      rfl
    · have positive : 0 < rest.length := List.length_pos_of_ne_nil ends
      have within : ({ s with hp := h } : State).writeByte b = { s with hp := { h with
          acked := true, offset := byteOf (h.offset.toNat + 1)
          staging := some { first := byteOf base, bytes := done ++ [b] } } } := by
        rw [writeByte_within (s := { s with hp := h }) writing free b staged (by dsimp only; omega), moves, held.staged]
      have next : Hp.holds { h with
          acked := true, offset := byteOf (h.offset.toNat + 1)
          staging := some { first := byteOf base, bytes := done ++ [b] } } base (done ++ [b]) := by
        refine ⟨?_, by rw [if_neg (by simp)]⟩
        rw [List.length_append, List.length_singleton, byteOf, BitVec.toNat_ofNat]
        omega
      rw [within, ih (done ++ [b]) _ (by exact writing) (by exact free) next ends (by rw [List.length_append, List.length_singleton]; omega),
        List.append_assoc]
      rfl

/-- A host's whole write of a register of several bytes. -/
theorem hostWrite_register {s : State} (clear : portClear s) {base last : Nat} (low : last < 255)
    (register : ∀ n, base ≤ n → n ≤ last → stagedRegister n = some (base, last) ∧ portRegister n = false)
    {bytes : List Byte} (some_ : bytes ≠ []) (length : base + bytes.length = last + 1) :
    s.hostWrite (byteOf base) bytes = { s.deliverStaged base bytes with
      hp := s.hp.wrote (byteOf base) (byteOf (last + 1)) s.hp.status } := by
  obtain ⟨h, status, writing, offset, free, unstaged, whole⟩ := hostWrite_bytes clear (byteOf base) bytes
  have positive := List.length_pos_of_ne_nil some_
  have held : h.holds base [] := by
    refine ⟨?_, unstaged⟩
    rw [offset, byteOf, BitVec.toNat_ofNat, List.length_nil]
    omega
  have effect := foldl_writeByte_staged s low register bytes [] h writing free held some_ (by rw [List.length_nil]; omega)
  rw [List.nil_append] at effect
  exact whole { s.deliverStaged base bytes with
      hp := { h with acked := true, staging := none, offset := byteOf (last + 1) } } (byteOf (last + 1)) s.hp.status effect
    (by rw [← status, unstaged])

/-- The bytes of a 16-bit value, put together again. -/
theorem half_halfBytes (v : Half) : half ((halfBytes v).getD 0 0) ((halfBytes v).getD 1 0) = v := by
  show half (lowByte v) (highByte v) = v
  refine BitVec.eq_of_getLsbD_eq fun k small => ?_
  rw [half, lowByte, highByte, BitVec.getLsbD_append]
  by_cases low : k < 8
  · simp [low]
  · simp only [low, if_false, BitVec.getLsbD_extractLsb']
    rw [show 8 + (k - 8) = k by omega, show decide (k - 8 < 8) = true by simpa using by omega, Bool.true_and]

/-! ### The event registers -/

/-- Settles O52: each write by its register, the pairs of bytes staged (`hostWrite_register`). -/
theorem eventRegistersTakeWrites : Obligations.EventRegistersTakeWrites := by
  intro s b v high clear
  have clear' : portClear s.elapse := clear
  refine ⟨?_, ?_, ?_, ?_⟩
  · obtain ⟨h, status, -, -, whole⟩ := hostWrite_single clear' (off := 0x09) rfl b
    have written := whole _ s.hp.status rfl (by rw [← show h.status = s.hp.status from status]; rfl)
    refine ⟨{ s.elapse with
      eu := { s.elapse.eu with queue := s.eu.queue.tail }, hp := s.hp.wrote 0x09 0x09 s.hp.status }, ?_,
      ⟨rfl, rfl, rfl, rfl, rfl, rfl⟩, rfl, rfl, rfl, rfl⟩
    rw [exec, execEvtPop, happening_running _ high, written]
    rfl
  · have written := hostWrite_register clear' (base := 0x04) (last := 0x05) (by decide)
      (fun n low up => by interval_cases n <;> exact ⟨rfl, rfl⟩) (bytes := halfBytes v) (by nofun) rfl
    refine ⟨{ s.elapse with
      eu := { s.elapse.eu with intStatus := s.eu.intStatus &&& ~~~v }, hp := s.hp.wrote 0x04 0x06 s.hp.status }, ?_,
      ⟨rfl, rfl, rfl, rfl, rfl, rfl⟩, rfl, rfl, rfl, rfl, by simp [State.intNLow, high]⟩
    rw [exec, execIntStatusClear, happening_running _ high]
    refine congrArg _ (written.trans ?_)
    rw [State.deliverStaged, half_halfBytes]
    rfl
  · have written := hostWrite_register clear' (base := 0x06) (last := 0x07) (by decide)
      (fun n low up => by interval_cases n <;> exact ⟨rfl, rfl⟩) (bytes := halfBytes v) (by nofun) rfl
    refine ⟨{ s.elapse with
      eu := { s.elapse.eu with intEnable := v &&& 0x01FF }, hp := s.hp.wrote 0x06 0x08 s.hp.status }, ?_,
      ⟨rfl, rfl, rfl, rfl, rfl, rfl⟩, rfl, rfl, rfl, rfl, by simp [State.intNLow, high]⟩
    rw [exec, execIntEnable, happening_running _ high]
    refine congrArg _ (written.trans ?_)
    rw [State.deliverStaged, half_halfBytes]
    rfl
  · obtain ⟨h, status, -, -, whole⟩ := hostWrite_single clear' (off := 0x02) rfl b
    have written := whole _ (s.hp.status &&& ~~~b) rfl (by rw [← show h.status = s.hp.status from status]; rfl)
    refine ⟨{ s.elapse with hp := s.hp.wrote 0x02 0x03 (s.hp.status &&& ~~~b) }, ?_, ⟨rfl, rfl, rfl, rfl, rfl, rfl⟩, rfl,
      rfl, rfl, rfl⟩
    rw [exec, execHostStatusClear, happening_running _ high, written]
    rfl

/-! ### The window -/

/-- What a clearing capture does to the links of a walk. -/
theorem foldl_clearFlags (walk : List SlotId) (s : State) :
    ∃ links, walk.foldl (fun s i => s.modLink i LinkRec.clearFlags) s = { s with links := links } ∧
      ∀ i : SlotId, links[i.val] = if i ∈ walk then { s.link i with near := 0, far := 0 } else s.link i := by
  induction walk generalizing s with
  | nil => exact ⟨s.links, rfl, fun i => rfl⟩
  | cons j walk ih =>
    obtain ⟨links, effect, each⟩ := ih (s.modLink j LinkRec.clearFlags)
    refine ⟨links, effect, fun i => ?_⟩
    rw [each i]
    by_cases own : i = j
    · subst own
      rw [link_modLink_same, LinkRec.clearFlags]
      simp
    · rw [link_modLink_other _ _ own]
      simp [own]

theorem clearCaptured_links (s : State) : ∃ links, s.clearCaptured = { s with links := links } ∧
    ∀ i : SlotId, links[i.val] = if groupField s.wu.group = 2 ∧ groupClears s.wu.group = true ∧ i ∈ s.wu.walk then
      { s.link i with near := 0, far := 0 } else s.link i := by
  unfold State.clearCaptured
  split
  · rename_i clears
    obtain ⟨links, effect, each⟩ := foldl_clearFlags s.wu.walk s
    refine ⟨links, effect, fun i => (each i).trans ?_⟩
    simp [clears]
  · rename_i keeps
    refine ⟨s.links, rfl, fun i => ?_⟩
    rw [if_neg fun h => keeps ⟨h.1, h.2.1⟩]
    rfl

theorem readByte_winData {s : State} (at_ : s.hp.offset = 0x48) (ack : Bool) :
    s.readByte ack = { s with hp := s.hp.sentByte s.wu.dataByte none ack, wu := s.wu.advance } := by
  rw [State.readByte, if_pos at_]

/-- A read of WIN_DATA in a transfer of its own. -/
theorem hostReadData_apart {s : State} (clear : portClear s) (apart : ¬(s.hp.phase = .reading ∧ s.hp.offset = 0x48))
    (ack : Bool) : ∃ h : Hp, s.hostReadData ack = { s with hp := h, wu := s.wu.advance } ∧
      h.sent = some s.wu.dataByte ∧ h.offset = 0x48 ∧ h.status = s.hp.status := by
  obtain ⟨h, opened, writing, offset, free, unstaged, status⟩ : ∃ h : Hp, s.openWrite 0x48 = { s with hp := h } ∧
      h.phase = .writing ∧ h.offset = 0x48 ∧ h.restart = none ∧ h.staging = none ∧ h.status = s.hp.status :=
    ⟨_, openWrite_clear clear 0x48, rfl, rfl, clear.1, rfl, rfl⟩
  obtain ⟨g, started, offset_g, free_g, unstaged_g, status_g⟩ : ∃ g : Hp,
      ({ s with hp := h } : State).startBus (h.addressByte true) = { s with hp := g } ∧ g.offset = 0x48 ∧
        g.restart = none ∧ g.staging = none ∧ g.status = s.hp.status := by
    have own : h.addressByte true = h.stopped.addressByte true := by rw [Hp.addressByte, ← h.stopped_address]; rfl
    refine ⟨{ h.stopped with phase := .reading, acked := true }, ?_, ?_, ?_, ?_, ?_⟩
    · rw [startBus_free (s := { s with hp := h }) free, own]
      exact congrArg (fun g => ({ s with hp := g } : State)) (Hp.answer_own h.stopped true)
    all_goals simp only [Hp.stopped, writing, unstaged]
    · exact offset
    · exact free
    · rfl
    · exact status
  have moved : ({ s with hp := g } : State).readByte ack =
      { s with hp := g.sentByte s.wu.dataByte none ack, wu := s.wu.advance } := readByte_winData offset_g ack
  refine ⟨(g.sentByte s.wu.dataByte none ack).stopped, ?_, ?_, ?_, ?_⟩
  · have effect : s.hostReadData ack = (State.readByte ((s.openWrite 0x48).startBus
        ((s.openWrite 0x48).hp.addressByte true)) ack).stopBus := if_neg apart
    rw [effect, opened, started, moved, stopBus_free (by exact free_g)]
  all_goals
    have busy : (g.sentByte s.wu.dataByte none ack).phase ≠ .idle := by cases ack <;> nofun
    rw [Hp.stopped, if_neg busy]
  · rfl
  · show nextOffset g.offset = 0x48
    rw [offset_g]
    rfl
  · show (if g.staging.isSome then g.status ||| 0x04 else g.status) = _
    rw [unstaged_g]
    exact status_g

/-- Settles O53: the capture through `hostWrite_single`, the read by whether the transfer in progress stands at
WIN_DATA. -/
theorem captureAndReadTheWindow : Obligations.CaptureAndReadTheWindow := by
  intro s b ack high clear
  have clear' : portClear s.elapse := clear
  refine ⟨?_, ?_⟩
  · obtain ⟨h, status, -, -, whole⟩ := hostWrite_single clear' (off := 0x45) rfl b
    obtain ⟨links, effect, each⟩ := clearCaptured_links { s.elapse with hp := h }
    have delivered : State.deliverByte { s.elapse with hp := h } (0x45 : Byte).toNat b =
        { s.elapse with hp := h, links := links, wu := s.wu.capture s.captured } := by
      show State.capture { s.elapse with hp := h } = _
      rw [State.capture, effect]
      rfl
    have written := whole _ s.hp.status delivered (by rw [← show h.status = s.hp.status from status])
    refine ⟨{ s.elapse with
      hp := s.hp.wrote 0x45 0x45 s.hp.status, links := links, wu := s.wu.capture s.captured }, ?_, rfl, rfl, rfl, rfl, rfl,
      rfl, rfl, rfl, each⟩
    rw [exec, execWinCapture, happening_running _ high, written]
    rfl
  · have advanced : (s.wu.buffer = [] → s.wu.advance = s.wu) ∧
        (s.wu.buffer ≠ [] → s.wu.cursor + 1 = s.wu.buffer.length → s.wu.advance = { s.wu with cursor := 0, wrap := true }) ∧
        (s.wu.buffer ≠ [] → s.wu.cursor + 1 ≠ s.wu.buffer.length →
          s.wu.advance = { s.wu with cursor := s.wu.cursor + 1 }) := by
      refine ⟨fun empty => ?_, fun full ends => ?_, fun full more => ?_⟩
      · simp [Wu.advance, empty]
      · simp [Wu.advance, full, ends]
      · simp [Wu.advance, full, more]
    have run : exec (.winData ack) s = .next (s.elapse.hostReadData ack) := by
      rw [exec, execWinData, happening_running _ high]
    by_cases here : s.hp.phase = .reading ∧ s.hp.offset = 0x48
    · have effect : s.elapse.hostReadData ack = s.elapse.readByte ack := if_pos here
      refine ⟨_, run.trans (congrArg _ (effect.trans (readByte_winData (s := s.elapse) here.2 ack))), rfl, rfl, rfl, rfl, rfl, rfl, rfl,
        rfl, ?_, rfl, advanced⟩
      show nextOffset s.hp.offset = 0x48
      rw [here.2]
      rfl
    · obtain ⟨h, effect, sent, offset, status⟩ := hostReadData_apart clear' here ack
      exact ⟨_, run.trans (congrArg _ effect), rfl, rfl, rfl, rfl, rfl, rfl, rfl, sent, offset, status, advanced⟩

end Sys2Proof.Machine
end

section
/-! Commands submitted by the host to an idle CU (R139 to R143): the command that starts at once, and what is left of the
command slots and the port. -/

namespace Sys2Proof.Machine

/-! ### The command that starts -/

/-- A command slot as its command starts (R140, R141). -/
def CmdSlot.issued (code : Byte) (params : List Byte) (num : Byte) : CmdSlot :=
  { code := code, state := .running, result := .ok, detail := 0, params := params, num := num }

/-- The state as an idle CU starts a command submitted with these parameters. -/
def State.issued (s : State) (k : Fin 4) (code : Byte) (params : List Byte) : State :=
  { s with cu := { s.cu with
      cmds := s.cu.cmds.set k.val (.issued code params s.cu.count), count := s.cu.count + 1
      submitResult := byteOf k.val, param := params } }

section
variable (s : State) (k : Fin 4) (code : Byte) (params : List Byte)

@[simp] theorem cmd_issued_same : (s.issued k code params).cmd k = .issued code params s.cu.count := by
  simp [State.cmd, State.issued]

theorem cmd_issued_other {u : Fin 4} (other : u ≠ k) : (s.issued k code params).cmd u = s.cmd u := by
  simp [State.cmd, State.issued, Fin.val_ne_of_ne (Ne.symm other)]

end

/-- The one slot that a search is for is found. -/
theorem find?_only {α : Type} {p : α → Bool} {l : List α} {a : α} (member : a ∈ l) (only : ∀ b ∈ l, p b = true ↔ b = a) :
    l.find? p = some a := by
  cases found : l.find? p with
  | none => exact absurd ((only a member).mpr rfl) (List.find?_eq_none.mp found a member)
  | some b =>
    have at_b := (only b (List.mem_of_find?_eq_some found)).mp (List.find?_some found)
    rw [at_b]

theorem mem_allTags (k : Fin 4) : k ∈ allTags := by
  revert k
  decide

theorem submit_idle {s : State} {k : Fin 4} {code : Byte} (idle : cuIdle s k) {u : State}
    (runs : (s.issued k code s.cu.param).runCommand k = u) (unqueued : ∀ v, (u.cmd v).state ≠ .queued) :
    s.submit code = u := by
  obtain ⟨free, unready⟩ := idle
  have cmd (v : Fin 4) : (s.queueCommand k code).cmd v =
      if v = k then { CmdSlot.issued code s.cu.param s.cu.count with state := .queued } else s.cmd v :=
    cmd_modCmd s k v fun _ => { CmdSlot.issued code s.cu.param s.cu.count with state := .queued }
  have queued : (s.queueCommand k code).running = none := by
    refine (running_eq_none_iff _).mpr fun v => ?_
    rw [cmd]
    split
    · exact nofun
    · exact (unready v).1
  have next : (s.queueCommand k code).nextQueued = some k := by
    have only (v : Fin 4) : ((s.queueCommand k code).cmd v).state = .queued ↔ v = k := by
      rw [cmd]
      split
      · rename_i own
        exact iff_of_true rfl own
      · rename_i other
        exact iff_of_false (unready v).2 other
    refine find?_only (mem_allTags k) fun v _ => ?_
    simp only [Bool.and_eq_true, beq_iff_eq, only, List.all_eq_true, Bool.or_eq_true, bne_iff_ne, ne_eq, decide_eq_true_eq]
    refine ⟨fun h => h.1, fun own => ⟨own, fun w _ => ?_⟩⟩
    rw [own]
    by_cases same : w = k
    · exact .inr (by rw [same])
    · exact .inl same
  have started : (s.queueCommand k code).startCommand k = u := by
    rw [← runs, State.startCommand]
    congr 1
    simp [State.modCmd, State.queueCommand, State.issued, CmdSlot.issued, Vector.set_set]
  unfold State.submit
  rw [free]
  show State.cuRun 4 (s.queueCommand k code) = u
  rw [State.cuRun, queued]
  dsimp only
  rw [next]
  dsimp only
  rw [started]
  have stays : u.nextQueued = none := by
    simp only [State.nextQueued, List.find?_eq_none, Bool.and_eq_true, beq_iff_eq, not_and]
    exact fun v _ queued => absurd queued (unqueued v)
  rw [State.cuRun, stays]
  split <;> rfl

/-- The port after a whole command (notes/assumptions/9.md). -/
def Hp.commanded (h : Hp) : Hp :=
  { h with phase := .idle, offset := 0x12, staging := none, snapshot := none, acked := true }

/-- A host command at an idle CU is that command run, but for the port. -/
theorem hostCommand_idle {s : State} {k : Fin 4} {code : Byte} {params : List Byte} (clear : portClear s)
    (idle : cuIdle s k) (six : params.length = 6) :
    ∃ h : Hp, ∀ u, (State.issued { s with hp := h } k code params).runCommand k = u → u.hp = h →
      (∀ v, (u.cmd v).state ≠ .queued) → s.hostCommand code params = { u with hp := s.hp.commanded } := by
  have some_ : params ≠ [] := by rintro rfl; cases six
  have given := hostWrite_register clear (base := 0x13) (last := 0x18) (by decide)
    (fun n low up => by interval_cases n <;> exact ⟨rfl, rfl⟩) some_ (by rw [six])
  obtain ⟨h, status, -, -, whole⟩ := hostWrite_single (s := { s.deliverStaged 0x13 params with
    hp := s.hp.wrote (byteOf 0x13) (byteOf (0x18 + 1)) s.hp.status }) (off := 0x12)
    ⟨by show (Hp.wrote _ _ _ _).restart = none; unfold Hp.wrote; split <;> exact clear.1,
      by show (Hp.wrote _ _ _ _).staging = none; unfold Hp.wrote; split <;> rfl⟩ rfl code
  refine ⟨h, fun u runs port unqueued => ?_⟩
  have submitted : State.deliverByte { s.deliverStaged 0x13 params with hp := h } (0x12 : Byte).toNat code = u :=
    submit_idle (s := { s.deliverStaged 0x13 params with hp := h }) (code := code) idle runs unqueued
  have left : (s.hp.wrote (byteOf 0x13) (byteOf (0x18 + 1)) s.hp.status).wrote 0x12 (nextOffset 0x12) h.status =
      s.hp.commanded := by
    have same : h.status = s.hp.status := by rw [status]; unfold Hp.wrote; dsimp only; split <;> rfl
    rw [same]
    by_cases here : s.hp.phase = .writing ∧ s.hp.offset = byteOf 0x13
    · rw [Hp.wrote, Hp.wrote, if_pos here, if_neg (by exact fun h => absurd (show byteOf (0x18 + 1) = 0x12 from h.2) (by decide))]
      rfl
    · rw [Hp.wrote, Hp.wrote, if_neg here, if_neg (by exact fun h => nomatch h.1)]
      rfl
  have run := whole u h.status submitted (by rw [port])
  rw [State.hostCommand]
  refine (congrArg (State.hostWrite · 0x12 [code]) given).trans (run.trans ?_)
  rw [← left]

/-! ### What a command leaves of the CU -/

/-- The command slots and the port of a state that a command at an idle CU has left. -/
theorem submitted_of {s t : State} {k : Fin 4} {code : Byte} {params : List Byte} {st : CmdState} {r : CmdResult} {d : Byte}
    (own : t.cmd k = { CmdSlot.issued code params s.cu.count with state := st, result := r, detail := d })
    (others : ∀ u, u ≠ k → t.cmd u = s.cmd u) (count : t.cu.count = s.cu.count + 1)
    (answer : t.cu.submitResult = byteOf k.val) (param : t.cu.param = params) (port : t.hp = s.hp.commanded) :
    submitted k code params st r d s t :=
  ⟨own, others, count, answer, param, port⟩

/-- A state whose CU is that of a command just started. -/
theorem submitted_issued {s t : State} {k : Fin 4} {code : Byte} {params : List Byte}
    (cu : t.cu = (s.issued k code params).cu) (port : t.hp = s.hp.commanded) :
    submitted k code params .running .ok 0 s t := by
  have cmd (u : Fin 4) : t.cmd u = (s.issued k code params).cmd u := by rw [State.cmd, cu]; rfl
  refine submitted_of ?_ (fun u other => ?_) ?_ ?_ ?_ port
  · rw [cmd, cmd_issued_same]; rfl
  · rw [cmd, cmd_issued_other _ _ _ _ other]
  all_goals rw [cu]; rfl

/-- A state whose CU is that of a command just started and concluded. -/
theorem submitted_concluded {s t : State} {k : Fin 4} {code : Byte} {params : List Byte} {r : CmdResult} {d : Byte}
    (cu : t.cu = ((s.issued k code params).conclude k r d).cu) (port : t.hp = s.hp.commanded) :
    submitted k code params r.concludes r d s t := by
  have cmd (u : Fin 4) : t.cmd u = ((s.issued k code params).conclude k r d).cmd u := by rw [State.cmd, cu]; rfl
  refine submitted_of ?_ (fun u other => ?_) ?_ ?_ ?_ port
  · rw [cmd, conclude_cmd, if_pos rfl, cmd_issued_same]
  · rw [cmd, conclude_cmd, if_neg other, cmd_issued_other _ _ _ _ other]
  all_goals rw [cu]; rfl

/-- With the CU of a command just started nothing waits to start. -/
theorem unqueued_issued {s t : State} {k : Fin 4} {code : Byte} {params : List Byte} (idle : cuIdle s k)
    (cu : t.cu = (s.issued k code params).cu) (v : Fin 4) : (t.cmd v).state ≠ .queued := by
  have cmd : t.cmd v = (s.issued k code params).cmd v := by rw [State.cmd, cu]; rfl
  rw [cmd]
  by_cases own : v = k
  · rw [own, cmd_issued_same]; nofun
  · rw [cmd_issued_other _ _ _ _ own]; exact (idle.2 v).2

theorem unqueued_concluded {s t : State} {k : Fin 4} {code : Byte} {params : List Byte} {r : CmdResult} {d : Byte}
    (idle : cuIdle s k) (cu : t.cu = ((s.issued k code params).conclude k r d).cu) (v : Fin 4) :
    (t.cmd v).state ≠ .queued := by
  have cmd : t.cmd v = ((s.issued k code params).conclude k r d).cmd v := by rw [State.cmd, cu]; rfl
  rw [cmd, conclude_cmd]
  split
  · exact r.concludes_ne_queued
  · exact unqueued_issued idle rfl v

end Sys2Proof.Machine
end

section
/-! The commands that the AE answers at once (R148, R159, R160), and the command slots retired and aborted. -/

namespace Sys2Proof.Machine

/-! ### The commands by code (R147) -/

section
variable (s : State) (k : Fin 4)

theorem runCommand_budget (code : (s.cmd k).code = 1) :
    s.runCommand k = s.checked k (badBudget (s.cmd k)) fun u => u.runBudget k (s.cmd k) := by
  unfold State.runCommand
  dsimp only
  rw [code]
  rfl

theorem runCommand_policy (code : (s.cmd k).code = 2) :
    s.runCommand k = s.checked k (badPolicy (s.cmd k)) fun u => u.runPolicy k (s.cmd k) := by
  unfold State.runCommand
  dsimp only
  rw [code]
  rfl

theorem runCommand_revoke (code : (s.cmd k).code = 3) :
    s.runCommand k = s.checked k (badSlot (s.cmd k)) fun u => u.runRevoke k (s.cmd k) := by
  unfold State.runCommand
  dsimp only
  rw [code]
  rfl

theorem runCommand_resetSlot (code : (s.cmd k).code = 4) :
    s.runCommand k = s.checked k (badSlot (s.cmd k)) fun u =>
      u.toSlot (s.cmd k) fun i s' => s'.takeReset i k (s.cmd k).num := by
  unfold State.runCommand
  dsimp only
  rw [code]
  rfl

theorem runCommand_requery (code : (s.cmd k).code = 5) :
    s.runCommand k = s.checked k (badSlot (s.cmd k)) fun u =>
      u.toSlot (s.cmd k) fun i s' => s'.takeRequery i k (s.cmd k).num := by
  unfold State.runCommand
  dsimp only
  rw [code]
  rfl

theorem runCommand_hold (code : (s.cmd k).code = 6) :
    s.runCommand k = s.checked k (badHold (s.cmd k)) fun u => u.runHold k (s.cmd k) := by
  unfold State.runCommand
  dsimp only
  rw [code]
  rfl

theorem runCommand_timing (code : (s.cmd k).code = 7) :
    s.runCommand k = s.checked k (badTiming (s.cmd k)) fun u => u.runTiming k (s.cmd k) := by
  unfold State.runCommand
  dsimp only
  rw [code]
  rfl

end

/-- The half-word that begins at a parameter byte. -/
theorem half_lowHigh (v : Half) : (half (lowByte v) (highByte v)).toNat = v.toNat :=
  congrArg BitVec.toNat (half_halfBytes v)

theorem conclude_eu (s : State) (k : Fin 4) (r : CmdResult) (d : Byte) :
    (s.conclude k r d).eu = (s.event .cmdDone (s.cmd k).namedSlot k.val r.code).eu := rfl

/-! ### A command at an idle CU as one happening -/

section
variable {s : State} {k : Fin 4} {code : Byte} {params : List Byte} (high : s.resetLow = false) (clear : portClear s)
  (idle : cuIdle s k) (six : params.length = 6)
include high clear idle six

theorem command_runs : ∃ h : Hp, ∀ u, (State.issued { s.elapse with hp := h } k code params).runCommand k = u →
    u.hp = h → (∀ v, (u.cmd v).state ≠ .queued) →
    happening (fun t => t.hostCommand code params) s = .next { u with hp := s.hp.commanded } := by
  obtain ⟨h, runs⟩ := hostCommand_idle (s := s.elapse) (k := k) (code := code) clear idle six
  refine ⟨h, fun u run port unqueued => ?_⟩
  rw [happening_running _ high]
  exact congrArg _ (runs u run port unqueued)

/-- A command that fails its parameter check (R143). -/
theorem command_refused {n : Nat} (unnamed : (CmdSlot.issued code params s.cu.count).namedSlot = none)
    (refused : ∀ x : State, x.cmd k = .issued code params s.cu.count →
      x.runCommand k = x.conclude k .badParam (byteOf n)) :
    ∃ t, happening (fun t => t.hostCommand code params) s = .next t ∧ aroundCu s t ∧ t.ae = s.ae ∧
      t.cu.settings = s.cu.settings ∧ submitted k code params .failed .badParam (byteOf n) s t ∧
      t.eu = (s.elapse.event .cmdDone none k.val 1).eu := by
  obtain ⟨h, runs⟩ := command_runs (code := code) high clear idle six
  have run := refused (State.issued { s.elapse with hp := h } k code params) (cmd_issued_same _ k code params)
  refine ⟨_, runs _ run rfl (unqueued_concluded (s := s) idle rfl), ⟨rfl, rfl, rfl, rfl, rfl, rfl⟩, rfl, rfl,
    submitted_concluded (r := .badParam) rfl rfl, ?_⟩
  show ((State.issued { s.elapse with hp := h } k code params).conclude k .badParam (byteOf n)).eu = _
  rw [conclude_eu, cmd_issued_same]
  exact congrArg (fun o => (s.elapse.event .cmdDone o k.val 1).eu) unnamed

end

/-! ### Excess evaluated -/

theorem evalExcess_eu (s : State) : s.evalExcess.eu =
    if s.ae.effective < s.ae.committed then
      if s.ae.excess then s.eu else (s.event .budgetExcess none 0 (s.ae.committed - s.ae.effective)).eu
    else if s.ae.excess then (s.event .budgetOk none 0 (s.ae.effective - s.ae.committed)).eu
    else s.eu := by
  unfold State.evalExcess
  dsimp only
  split <;> split <;> rfl

theorem evalExcess_engine (s : State) : EngineFrame s s.evalExcess := by simp

theorem budgetCandidates_congr {s t : State} (slots : t.slots = s.slots) (order : t.ae.grantOrder = s.ae.grantOrder) :
    t.budgetCandidates = s.budgetCandidates := by
  have slot (i : SlotId) : t.slot i = s.slot i := by rw [State.slot, slots]; rfl
  simp only [State.budgetCandidates, State.candidates, State.shedding, State.ofClass, slot, order]

/-! ### SET_BUDGET -/

section
variable (budget reserve derated : Half) (num : Byte)

/-- The parameters of SET_BUDGET, read back. -/
theorem budget_halves :
    (CmdSlot.issued 1 (halfBytes budget ++ halfBytes reserve ++ halfBytes derated) num).half 1 = budget.toNat ∧
    (CmdSlot.issued 1 (halfBytes budget ++ halfBytes reserve ++ halfBytes derated) num).half 3 = reserve.toNat ∧
    (CmdSlot.issued 1 (halfBytes budget ++ halfBytes reserve ++ halfBytes derated) num).half 5 = derated.toNat :=
  ⟨half_lowHigh budget, half_lowHigh reserve, half_lowHigh derated⟩

theorem badBudget_issued : badBudget (.issued 1 (halfBytes budget ++ halfBytes reserve ++ halfBytes derated) num) =
    if 4000 < budget.toNat then some 1 else if 4000 < reserve.toNat then some 3
    else if 4000 < derated.toNat then some 5 else none := by
  obtain ⟨first, second, third⟩ := budget_halves budget reserve derated num
  rw [badBudget, first, second, third]
  rfl

end

theorem installBudgets_eu (x : State) (b r d : Nat) : (x.installBudgets b r d).eu =
    if (x.installBudgets b r d).ae.effective < x.ae.committed then
      if x.ae.excess then x.eu
      else (x.event .budgetExcess none 0 (x.ae.committed - (x.installBudgets b r d).ae.effective)).eu
    else if x.ae.excess then (x.event .budgetOk none 0 ((x.installBudgets b r d).ae.effective - x.ae.committed)).eu
    else x.eu := by
  have effective : (x.installBudgets b r d).ae.effective =
      ({ x with ae := { x.ae with budget := b, reserve := r, derated := d } } : State).ae.effective := by
    rw [State.installBudgets, evalExcess_effective]
  rw [effective, State.installBudgets, evalExcess_eu]
  rfl

/-- The AE under new budgets where its rules find nothing to decide: excess evaluated, and no more. -/
theorem installBudgets_held (x : State) (b r d : Nat) (hold : x.ae.hold = true) (quiet : x.ae.reclaim.active = false)
    (none_ : x.budgetCandidates = []) (due : Bool) :
    (x.installBudgets b r d).aeRules due = x.installBudgets b r d ∧
      (x.installBudgets b r d).slots = x.slots ∧ (x.installBudgets b r d).links = x.links ∧
      EngineFrame x (x.installBudgets b r d) ∧
      (x.installBudgets b r d).ae = { x.ae with
        budget := b, reserve := r, derated := d
        excess := decide ((x.installBudgets b r d).ae.effective < x.ae.committed) } := by
  have ae : (x.installBudgets b r d).ae = { x.ae with
      budget := b, reserve := r, derated := d
      excess := decide ((x.installBudgets b r d).ae.effective < x.ae.committed) } := by
    rw [State.installBudgets, evalExcess_ae]
    rfl
  have slots : (x.installBudgets b r d).slots = x.slots := evalExcess_slots _
  refine ⟨?_, slots, evalExcess_links _, ?_, ae⟩
  · refine State.aeRules_held due (by rw [ae]; exact hold) ⟨fun _ => .inr (.inr ?_), fun active => ?_⟩
    · rw [← none_]
      exact budgetCandidates_congr slots (by rw [ae])
    · rw [ae] at active
      exact absurd active (by rw [quiet]; exact Bool.false_ne_true)
  · exact evalExcess_engine { x with ae := { x.ae with budget := b, reserve := r, derated := d } }

/-- Settles O46: the first value out of range by `badBudget_issued`; else the installation, which the decision rules
leave. -/
theorem setBudgetInstallsTheBudgets : Obligations.SetBudgetInstallsTheBudgets := by
  intro s k budget reserve derated high clear idle
  have bad := badBudget_issued budget reserve derated s.cu.count
  by_cases over_ : 4000 < budget.toNat ∨ 4000 < reserve.toNat ∨ 4000 < derated.toNat
  · obtain ⟨n, found, byte⟩ : ∃ n, badBudget (.issued 1 (halfBytes budget ++ halfBytes reserve ++ halfBytes derated)
        s.cu.count) = some n ∧
        byteOf n = if 4000 < budget.toNat then 1 else if 4000 < reserve.toNat then 3 else 5 := by
      rw [bad]
      split
      · exact ⟨1, rfl, rfl⟩
      · split
        · exact ⟨3, rfl, rfl⟩
        · rw [if_pos (by omega)]
          exact ⟨5, rfl, rfl⟩
    obtain ⟨t, run, around, ae, settings, subs, eu⟩ := command_refused (n := n) high clear idle
      (params := halfBytes budget ++ halfBytes reserve ++ halfBytes derated) (code := 1) rfl rfl fun x cmd => by
        rw [runCommand_budget x k (by rw [cmd]; rfl), cmd, found]
        rfl
    rw [byte] at subs
    exact ⟨t, run, settings, fun _ => ⟨around, subs, ae, eu⟩, fun _ _ _ => by omega⟩
  · obtain ⟨h, runs⟩ := command_runs (code := 1) (params := halfBytes budget ++ halfBytes reserve ++ halfBytes derated)
      high clear idle rfl
    rw [not_or, not_or] at over_
    obtain ⟨budget_low, reserve_low, derated_low⟩ := over_
    rw [if_neg budget_low, if_neg reserve_low, if_neg derated_low] at bad
    obtain ⟨first, second, third⟩ := budget_halves budget reserve derated s.cu.count
    obtain ⟨x, started⟩ : ∃ x, State.issued { s.elapse with hp := h } k 1
      (halfBytes budget ++ halfBytes reserve ++ halfBytes derated) = x := ⟨_, rfl⟩
    rw [started] at runs
    have cmd : x.cmd k = .issued 1 (halfBytes budget ++ halfBytes reserve ++ halfBytes derated) s.cu.count := by
      rw [← started, cmd_issued_same]; rfl
    obtain ⟨ruled, rules⟩ : ∃ ruled, (x.installBudgets budget.toNat reserve.toNat derated.toNat).aeRules
        (passCause x (x.installBudgets budget.toNat reserve.toNat derated.toNat)) = ruled := ⟨_, rfl⟩
    have run : x.runCommand k = if ruled.ae.excess then ruled else ruled.conclude k .ok 0 := by
      rw [runCommand_budget x k (by rw [cmd]; rfl), cmd, bad, State.checked, State.runBudget, first, second, third, rules]
    have frame : EngineFrame x ruled := by
      rw [← rules]
      exact (EngineFrame.aeRules_iff _).mpr (by simp [State.installBudgets, EngineFrame])
    obtain ⟨pending, low, inputs, cu, wu, port, -⟩ := frame
    have cu' : ruled.cu = (s.issued k 1 (halfBytes budget ++ halfBytes reserve ++ halfBytes derated)).cu := by
      rw [cu, ← started]; rfl
    have hp' : ruled.hp = h := by rw [port, ← started]; rfl
    have held (hold : s.ae.hold = true) (quiet : s.ae.reclaim.active = false) (none_ : s.budgetCandidates = []) :
        ruled.slots = s.slots ∧ ruled.links = s.links ∧ ruled.ae = { s.ae with
          budget := budget.toNat, reserve := reserve.toNat, derated := derated.toNat
          excess := decide (ruled.ae.effective < s.ae.committed) } ∧
        ruled.eu = if ruled.ae.effective < s.ae.committed then
            if s.ae.excess then s.elapse.eu
            else (s.elapse.event .budgetExcess none 0 (s.ae.committed - ruled.ae.effective)).eu
          else if s.ae.excess then (s.elapse.event .budgetOk none 0 (ruled.ae.effective - s.ae.committed)).eu
          else s.elapse.eu := by
      have facts := installBudgets_held x budget.toNat reserve.toNat derated.toNat (by rw [← started]; exact hold)
        (by rw [← started]; exact quiet) (by rw [← started]; exact none_)
      obtain ⟨-, slots, links, -, ae⟩ := facts true
      have eu := installBudgets_eu x budget.toNat reserve.toNat derated.toNat
      rw [← rules, (facts _).1]
      refine ⟨slots.trans (by rw [← started]; rfl), links.trans (by rw [← started]; rfl), ae.trans (by rw [← started]; rfl),
        eu.trans (by rw [← started]; rfl)⟩
    have around : ruled.inputs = s.inputs ∧ ruled.wu = s.wu ∧ ruled.pending = s.pending ∧ ruled.resetLow = s.resetLow := by
      rw [inputs, wu, pending, low, ← started]
      exact ⟨rfl, rfl, rfl, rfl⟩
    obtain ⟨inputs', wu', pending', low'⟩ := around
    cases excess : ruled.ae.excess with
    | true =>
      rw [excess, if_pos rfl] at run
      refine ⟨{ ruled with hp := s.hp.commanded }, runs ruled run hp' (unqueued_issued idle cu'), by rw [cu']; rfl,
        fun h => by omega, fun _ _ _ hold quiet none_ => ?_⟩
      obtain ⟨slots, links, ae, eu⟩ := held hold quiet none_
      have exceeds : ruled.ae.effective < s.ae.committed := by
        rw [ae] at excess
        exact of_decide_eq_true excess
      rw [if_pos exceeds] at eu
      refine ⟨⟨slots, links, inputs', wu', pending', low'⟩, by rw [ae], by rw [ae], by rw [ae], ae,
        fun calm => Bool.noConfusion (excess.symm.trans (show ruled.ae.excess = false from calm)), fun _ => ⟨submitted_issued cu' rfl, eu.trans ?_⟩⟩
      cases s.ae.excess <;> rfl
    | false =>
      rw [excess, if_neg Bool.false_ne_true] at run
      have cu_done : (ruled.conclude k .ok 0).cu = ((s.issued k 1 (halfBytes budget ++ halfBytes reserve ++
          halfBytes derated)).conclude k .ok 0).cu := by
        show ({ ruled.cu with cmds := _ } : Cu) = _
        rw [cu']
        rfl
      refine ⟨{ ruled.conclude k .ok 0 with hp := s.hp.commanded },
        runs (ruled.conclude k .ok 0) run hp' (unqueued_concluded idle cu_done), by rw [cu_done]; rfl,
        fun h => by omega, fun _ _ _ hold quiet none_ => ?_⟩
      obtain ⟨slots, links, ae, eu⟩ := held hold quiet none_
      have within : ¬ruled.ae.effective < s.ae.committed := by
        rw [ae] at excess
        exact of_decide_eq_false excess
      rw [if_neg within] at eu
      refine ⟨⟨slots, links, inputs', wu', pending', low'⟩, congrArg Ae.budget ae, congrArg Ae.reserve ae, congrArg Ae.derated ae, ae,
        fun _ => ⟨submitted_concluded (r := .ok) cu_done rfl, ?_⟩, fun over_ => Bool.noConfusion (excess.symm.trans (show ruled.ae.excess = true from over_))⟩
      have own : ruled.cmd k = .issued 1 (halfBytes budget ++ halfBytes reserve ++ halfBytes derated) s.cu.count := by
        rw [State.cmd, cu', ← cmd_issued_same]; rfl
      show (ruled.conclude k .ok 0).eu = _
      rw [conclude_eu, own]
      show ruled.eu.append .cmdDone none (byteOf k.val) 0 = _
      rw [eu]
      cases s.ae.excess <;> rfl

end Sys2Proof.Machine
end

section
/-! HOLD and SET_TIMING, answered at once (R159, R160), and the command slots: an unknown code, CMD_RETIRE and CMD_ABORT
(R141, R144, R145). -/

namespace Sys2Proof.Machine

/-! ### The rules where nobody waits and nobody holds a grant -/

/-- With no reclaim, no excess, an empty queue and an empty grant order list there is nothing to decide, whatever HOLD
says and whatever caused a pass. -/
theorem aeRules_unclaimed {s : State} (due : Bool) (quiet : s.ae.reclaim.active = false) (calm : s.ae.excess = false)
    (unqueued : s.ae.entryOrder = []) (ungranted : s.ae.grantOrder = []) : s.aeRules due = s := by
  have settled := aeSettled_of_calm quiet calm
  have queue : s.queue = [] := by simp [State.queue, State.ofClass, unqueued]
  have order : s.raiseOrder = [] := by simp [State.raiseOrder, State.ofClass, ungranted]
  have pass : s.allocationPass = s := by
    unfold State.allocationPass State.passFrom
    rw [queue]
  have raises : s.raisePass = s := by simp [State.raisePass, order]
  simp [State.aeRules, State.endTests_settled settled, State.budgetTrigger_settled settled, pass, raises]

/-! ### HOLD and SET_TIMING -/

section
variable {s : State} {k : Fin 4} {params : List Byte} (high : s.resetLow = false) (clear : portClear s) (idle : cuIdle s k)
  (six : params.length = 6) (quiet : s.ae.reclaim.active = false) (calm : s.ae.excess = false)
  (unqueued : s.ae.entryOrder = []) (ungranted : s.ae.grantOrder = [])
include high clear idle six quiet calm unqueued ungranted

theorem hold_happening (c : CmdSlot) (issued : c = .issued 6 params s.cu.count) (good : badHold c = none) :
    ∃ t, happening (fun t => t.hostCommand 6 params) s = .next t ∧ aroundCu s t ∧ t.cu.settings = s.cu.settings ∧
      submitted k 6 params .done .ok (boolByte s.ae.hold) s t ∧ t.ae = { s.ae with hold := c.param 1 == 1 } ∧
      t.eu = (s.elapse.event .cmdDone none k.val 0).eu := by
  obtain ⟨h, runs⟩ := command_runs (code := 6) high clear idle six
  obtain ⟨x, started⟩ : ∃ x, State.issued { s.elapse with hp := h } k 6 params = x := ⟨_, rfl⟩
  rw [started] at runs
  have cmd : x.cmd k = c := by rw [← started, cmd_issued_same, issued]; rfl
  have ae : x.ae = s.ae := by rw [← started]; rfl
  have rest (u : State) (due : Bool) (same : u.ae.reclaim = s.ae.reclaim ∧ u.ae.excess = s.ae.excess ∧
      u.ae.entryOrder = s.ae.entryOrder ∧ u.ae.grantOrder = s.ae.grantOrder) : u.aeRules due = u := by
    obtain ⟨reclaim, excess, entry, grants⟩ := same
    exact aeRules_unclaimed due (by rw [reclaim]; exact quiet) (excess.trans calm) (entry.trans unqueued)
      (grants.trans ungranted)
  have set : x.runHold k c = (x.setHold (c.param 1 == 1)).conclude k .ok (boolByte s.ae.hold) := by
    unfold State.runHold
    dsimp only
    rw [rest x false (by rw [ae]; exact ⟨rfl, rfl, rfl, rfl⟩),
      rest (x.setHold false) true (by unfold State.setHold; rw [ae]; exact ⟨rfl, rfl, rfl, rfl⟩), ae]
    cases c.param 1 == 1 <;> rfl
  have run : x.runCommand k = (x.setHold (c.param 1 == 1)).conclude k .ok (boolByte s.ae.hold) := by
    rw [runCommand_hold x k (by rw [cmd, issued]; rfl), cmd, good, State.checked, set]
  have cu : ((x.setHold (c.param 1 == 1)).conclude k .ok (boolByte s.ae.hold)).cu =
      ((s.issued k 6 params).conclude k .ok (boolByte s.ae.hold)).cu := by rw [← started]; rfl
  refine ⟨_, runs _ run (by rw [← started]; rfl) (unqueued_concluded idle cu), ?_, ?_,
    submitted_concluded (r := .ok) cu rfl, ?_, ?_⟩
  · rw [← started]; exact ⟨rfl, rfl, rfl, rfl, rfl, rfl⟩
  · rw [← started]; rfl
  · rw [← started]; rfl
  · show ((x.setHold (c.param 1 == 1)).conclude k .ok (boolByte s.ae.hold)).eu = _
    have own : (x.setHold (c.param 1 == 1)).cmd k = .issued 6 params s.cu.count := cmd.trans issued
    rw [conclude_eu, own, ← started]
    rfl

theorem timing_happening (c : CmdSlot) (issued : c = .issued 7 params s.cu.count) (good : badTiming c = none) :
    ∃ t, happening (fun t => t.hostCommand 7 params) s = .next t ∧ aroundCu s t ∧ t.ae = s.ae ∧
      submitted k 7 params .done .ok 0 s t ∧ t.cu.settings = s.cu.settings.timed c ∧
      t.eu = (s.elapse.event .cmdDone none k.val 0).eu := by
  obtain ⟨h, runs⟩ := command_runs (code := 7) high clear idle six
  obtain ⟨x, started⟩ : ∃ x, State.issued { s.elapse with hp := h } k 7 params = x := ⟨_, rfl⟩
  rw [started] at runs
  have cmd : x.cmd k = c := by rw [← started, cmd_issued_same, issued]; rfl
  obtain ⟨y, installed⟩ : ∃ y, ({ x with cu := { x.cu with settings := x.cu.settings.timed c } } : State) = y := ⟨_, rfl⟩
  have ae : y.ae = s.ae := by rw [← installed, ← started]; rfl
  have run : x.runCommand k = y.conclude k .ok 0 := by
    rw [runCommand_timing x k (by rw [cmd, issued]; rfl), cmd, good, State.checked, State.runTiming]
    dsimp only
    rw [installed, aeRules_unclaimed _ (by rw [ae]; exact quiet) (by rw [ae]; exact calm) (by rw [ae]; exact unqueued)
      (by rw [ae]; exact ungranted)]
  have own (u : Fin 4) : (y.conclude k .ok 0).cmd u = ((s.issued k 7 params).conclude k .ok 0).cmd u := by
    rw [← installed, ← started]; rfl
  refine ⟨_, runs _ run (by rw [← installed, ← started]; rfl)
    (fun v => by rw [own]; exact unqueued_concluded (s := s) idle rfl v), ?_, ae, ?_, ?_, ?_⟩
  · rw [← installed, ← started]; exact ⟨rfl, rfl, rfl, rfl, rfl, rfl⟩
  · obtain ⟨same, others, -⟩ := submitted_concluded (s := s) (t := { (s.issued k 7 params).conclude k .ok 0 with
      hp := s.hp.commanded }) (r := .ok) (d := 0) rfl rfl
    refine submitted_of ((own k).trans same) (fun u other => (own u).trans (others u other)) ?_ ?_ ?_ rfl
    all_goals rw [← installed, ← started]; rfl
  · rw [← installed, ← started]; rfl
  · show (y.conclude k .ok 0).eu = _
    have own : y.cmd k = .issued 7 params s.cu.count := by rw [← installed]; exact cmd.trans issued
    rw [conclude_eu, own, ← installed, ← started]
    rfl

end

theorem byte_le_one {b : Byte} (small : b.toNat ≤ 1) : b = 0 ∨ b = 1 := by
  have cases_ : b.toNat = 0 ∨ b.toNat = 1 := by omega
  exact cases_.imp (fun h => BitVec.eq_of_toNat_eq h) (fun h => BitVec.eq_of_toNat_eq h)

/-- Settles O50: `command_refused` for a value out of range, `hold_happening` and `timing_happening` for one that is
installed. -/
theorem holdAndTimingInstall : Obligations.HoldAndTimingInstall := by
  intro s k value a b c d e f high clear idle quiet calm unqueued ungranted
  constructor
  · by_cases bad : 1 < value.toNat
    · obtain ⟨t, run, around, ae, settings, submitted_, eu⟩ :=
        command_refused (s := s) (k := k) (code := 6) (params := [value, 0, 0, 0, 0, 0]) (n := 1) high clear idle rfl rfl
          fun x cmd => by
            rw [runCommand_hold x k (by rw [cmd]; rfl), cmd, show badHold (.issued 6 [value, 0, 0, 0, 0, 0] s.cu.count) = some 1 from if_pos bad]
            rfl
      exact ⟨t, run, around, settings, fun _ => ⟨submitted_, ae, eu⟩, fun good => by omega⟩
    · obtain ⟨t, run, around, settings, submitted_, ae, eu⟩ :=
        hold_happening (params := [value, 0, 0, 0, 0, 0]) high clear idle rfl quiet calm unqueued ungranted _ rfl
          (if_neg bad)
      refine ⟨t, run, around, settings, fun h => absurd h bad, fun _ => ⟨?_, ae, eu⟩⟩
      have shown (held : Bool) : boolByte held = if held = true then 1 else 0 := by cases held <;> rfl
      rw [← shown]
      exact submitted_
  · obtain ⟨bad, checks⟩ : ∃ bad, badTiming (.issued 7 [a, b, c, d, e, f] s.cu.count) = bad := ⟨_, rfl⟩
    have checks' : (if a = 0 then some 1 else if b = 0 then some 2 else if 7 < c.toNat then some 3
        else if d.toNat < 10 ∨ 250 < d.toNat then some 4 else if 3 < f.toNat then some 6 else none) = bad := checks
    cases bad with
    | some n =>
      obtain ⟨t, run, around, ae, settings, submitted_, eu⟩ :=
        command_refused (s := s) (k := k) (code := 7) (params := [a, b, c, d, e, f]) (n := n) high clear idle rfl rfl
          fun x cmd => by
            rw [runCommand_timing x k (by rw [cmd]; rfl), cmd, checks]
            rfl
      have byte : byteOf n = if a = 0 then 1 else if b = 0 then 2 else if 7 < c.toNat then 3
          else if d.toNat < 10 ∨ 250 < d.toNat then 4 else 6 := by
        split_ifs at checks' ⊢ <;> cases checks' <;> rfl
      refine ⟨t, run, around, ae, fun _ => ⟨byte ▸ submitted_, settings, eu⟩, fun a0 b0 c7 d10 d250 f3 => ?_⟩
      rw [if_neg a0, if_neg b0, if_neg (by omega), if_neg (by omega), if_neg (by omega)] at checks'
      cases checks'
    | none =>
      obtain ⟨t, run, around, ae, submitted_, settings, eu⟩ :=
        timing_happening (params := [a, b, c, d, e, f]) high clear idle rfl quiet calm unqueued ungranted _ rfl checks
      refine ⟨t, run, around, ae, fun out => ?_, fun _ _ _ _ _ _ => ⟨submitted_, settings, eu⟩⟩
      split_ifs at checks' with a0 b0 c7 d_ f3
      exact absurd out (by simp only [a0, b0, c7, f3, false_or, or_false]; exact fun h => d_ h)

end Sys2Proof.Machine
end

section
/-! The command slots kept by the host: an unknown code, CMD_RETIRE and CMD_ABORT (R140, R141, R144, R145). -/

namespace Sys2Proof.Machine

/-! ### Tags (R144, R145) -/

theorem tagOf_byteOf (k : Fin 4) : tagOf (byteOf k.val) = some k := by
  revert k
  decide

theorem tagOf_large {b : Byte} (large : 3 < b.toNat) : tagOf b = none := dif_neg (by omega)

theorem tagOf_some {b : Byte} {k : Fin 4} (named : tagOf b = some k) : b = byteOf k.val := by
  unfold tagOf at named
  split at named
  · rename_i low
    cases named
    exact BitVec.eq_of_toNat_eq (by rw [byteOf, BitVec.toNat_ofNat]; dsimp only; omega)
  · cases named

/-- A byte to a register that only looks at the command slots, as one happening. -/
theorem singleWrite_happening {s : State} (high : s.resetLow = false) (clear : portClear s) {off next : Byte}
    (single : stagedRegister off.toNat = none) (moves : nextOffset off = next) (b : Byte) :
    ∃ h : Hp, h.status = s.hp.status ∧ ∀ u status, State.deliverByte { s.elapse with hp := h } off.toNat b = u →
      u.hp = { h with status := status } →
      happening (fun t => t.hostWrite off [b]) s = .next { u with hp := s.hp.wrote off next status } := by
  obtain ⟨h, status, -, -, whole⟩ := hostWrite_single (s := s.elapse) clear single b
  refine ⟨h, status, fun u st delivered port => ?_⟩
  rw [happening_running _ high, ← moves]
  exact congrArg _ (whole u st delivered port)

/-! ### A code outside 01h to 07h -/

theorem runCommand_badCode (s : State) (k : Fin 4) (code : (s.cmd k).code.toNat = 0 ∨ 7 < (s.cmd k).code.toNat) :
    s.runCommand k = s.conclude k .badCode 0 := by
  unfold State.runCommand
  dsimp only
  split
  case h_8 => rfl
  all_goals
    rename_i named
    exact absurd code (by rw [named]; decide)

theorem namedSlot_badCode {c : CmdSlot} (code : c.code.toNat = 0 ∨ 7 < c.code.toNat) : c.namedSlot = none :=
  if_neg (by omega)

section
variable {s : State} (high : s.resetLow = false) (clear : portClear s) {b : Byte}
include high clear

theorem badCode_full (full : s.freeTag = none) : ∃ t, exec (.badCode b) s = .next t ∧ aroundCu s t ∧ t.ae = s.ae ∧
    t.hp = s.hp.wrote 0x12 0x12 s.hp.status ∧ t.cu = { s.cu with submitResult := 0xFF } ∧ t.eu = s.elapse.eu := by
  obtain ⟨h, status, whole⟩ := singleWrite_happening high clear (off := 0x12) rfl rfl b
  have refused : State.deliverByte { s.elapse with hp := h } 0x12 b =
      { s.elapse with hp := h, cu := { s.cu with submitResult := 0xFF } } := by
    show State.submit { s.elapse with hp := h } b = _
    unfold State.submit
    rw [show State.freeTag { s.elapse with hp := h } = none from full]
    rfl
  exact ⟨_, whole _ s.hp.status refused (by rw [← status]), ⟨rfl, rfl, rfl, rfl, rfl, rfl⟩, rfl, rfl, rfl, rfl⟩

theorem badCode_fails (code : b.toNat = 0 ∨ 7 < b.toNat) {k : Fin 4} (idle : cuIdle s k) :
    ∃ t, exec (.badCode b) s = .next t ∧ aroundCu s t ∧ t.ae = s.ae ∧
      t.hp = s.hp.wrote 0x12 0x12 s.hp.status ∧ t.cu = ((s.issued k b s.cu.param).conclude k .badCode 0).cu ∧
      t.eu = (s.elapse.event .cmdDone none k.val 2).eu := by
  obtain ⟨h, status, whole⟩ := singleWrite_happening high clear (off := 0x12) rfl rfl b
  obtain ⟨x, issued⟩ : ∃ x, State.issued { s.elapse with hp := h } k b s.cu.param = x := ⟨_, rfl⟩
  have own : x.cmd k = .issued b s.cu.param s.cu.count := by rw [← issued, cmd_issued_same]; rfl
  have failed : State.deliverByte { s.elapse with hp := h } 0x12 b = x.conclude k .badCode 0 := by
    refine submit_idle (s := { s.elapse with hp := h }) (k := k) idle ?_ ?_
    · exact (congrArg (State.runCommand · k) issued).trans (runCommand_badCode x k (by rw [own]; exact code))
    · exact unqueued_concluded (s := s) idle (by rw [← issued]; rfl)
  refine ⟨_, whole _ s.hp.status failed (by rw [← issued, ← status]; rfl), ?_, ?_, rfl, ?_, ?_⟩
  · rw [← issued]; exact ⟨rfl, rfl, rfl, rfl, rfl, rfl⟩
  · rw [← issued]; rfl
  · rw [← issued]; rfl
  · show (x.conclude k .badCode 0).eu = _
    rw [conclude_eu, own, namedSlot_badCode code, ← issued]
    rfl

/-! ### CMD_RETIRE and CMD_ABORT -/

/-- A tag that CMD_RETIRE or CMD_ABORT refuses (R186). -/
theorem tag_refused {off next : Byte} (single : stagedRegister off.toNat = none) (moves : nextOffset off = next)
    (refused : ∀ h : Hp, State.deliverByte { s.elapse with hp := h } off.toNat b =
      State.badValue { s.elapse with hp := h }) :
    ∃ t, happening (fun t => t.hostWrite off [b]) s = .next t ∧ aroundCu s t ∧ t.cu = s.cu ∧ t.ae = s.ae ∧
      t.eu = s.elapse.eu ∧ t.hp = s.hp.wrote off next (s.hp.status ||| 0x08) := by
  obtain ⟨h, status, whole⟩ := singleWrite_happening high clear single moves b
  exact ⟨_, whole _ (s.hp.status ||| 0x08) (refused h) (by rw [← status]; rfl), ⟨rfl, rfl, rfl, rfl, rfl, rfl⟩, rfl, rfl,
    rfl, rfl⟩

end

theorem retire_concluded {s : State} {k : Fin 4} (concluded : (s.cmd k).state = .done ∨ (s.cmd k).state = .failed) :
    s.retire (byteOf k.val) = s.modCmd k fun _ => .free := by
  unfold State.retire
  rw [tagOf_byteOf]
  exact if_pos concluded

theorem retire_refused {s : State} {b : Byte}
    (other : ∀ k, b = byteOf k.val → ¬((s.cmd k).state = .done ∨ (s.cmd k).state = .failed)) :
    s.retire b = s.badValue := by
  unfold State.retire
  split
  · rfl
  · rename_i k named
    exact if_neg (other k (tagOf_some named))

theorem abort_running {s : State} {k : Fin 4} (runs : (s.cmd k).state = .running)
    (unqueued : ∀ u, (s.cmd u).state ≠ .queued) :
    s.abort (byteOf k.val) = (s.unwatch k).conclude k .aborted 0 := by
  unfold State.abort
  rw [tagOf_byteOf]
  refine (if_pos runs).trans (startNext_unqueued fun u => ?_)
  have cmd : (s.unwatch k).cmd u = s.cmd u := by
    unfold State.unwatch
    split <;> rfl
  rw [conclude_cmd, cmd]
  split
  · exact nofun
  · exact unqueued u

theorem abort_refused {s : State} {b : Byte} (other : ∀ k, b = byteOf k.val → (s.cmd k).state ≠ .running) :
    s.abort b = s.badValue := by
  unfold State.abort
  split
  · rfl
  · rename_i k named
    exact if_neg (other k (tagOf_some named))

theorem unwatch_port (s : State) (h : Hp) (k : Fin 4) :
    State.unwatch { s with hp := h } k = { s.unwatch k with hp := h } := by
  unfold State.unwatch
  rw [show State.cmd { s with hp := h } k = s.cmd k from rfl]
  cases (s.cmd k).namedSlot <;> rfl

/-- Withdrawing a watch touches one slot's watch alone. -/
theorem unwatch_frame (s : State) (k : Fin 4) :
    s.unwatch k = { s with slots := (s.unwatch k).slots } ∧
      ∀ i, (s.unwatch k).slot i = { s.slot i with
        watch := if (s.cmd k).namedSlot = some i ∧
            ((s.slot i).watch.any fun w => w.tag == k && w.num == (s.cmd k).num) = true then none
          else (s.slot i).watch } := by
  unfold State.unwatch
  cases named : (s.cmd k).namedSlot with
  | none => exact ⟨rfl, fun i => by rw [if_neg (by rintro ⟨h, -⟩; cases h)]⟩
  | some j =>
    refine ⟨rfl, fun i => ?_⟩
    by_cases same : i = j
    · subst same
      dsimp only
      rw [slot_modSlot_same, SlotRec.unwatch]
      simp only [true_and]
    · dsimp only
      rw [slot_modSlot_other _ _ same, if_neg (by rintro ⟨h, -⟩; exact same (Option.some.inj h).symm)]

/-- Settles O51: the three registers by what their byte meets. -/
theorem commandSlotsAreBookkept : Obligations.CommandSlotsAreBookkept := by
  intro s b high clear
  refine ⟨fun code => ?_, ?_, ?_⟩
  · cases free : s.freeTag with
    | none =>
      obtain ⟨t, run, facts⟩ := badCode_full (b := b) high clear free
      exact ⟨t, run, fun _ => facts, fun k idle => nomatch free.symm.trans idle.1⟩
    | some k =>
      by_cases idle : cuIdle s k
      · obtain ⟨t, run, around, ae, port, cu, eu⟩ := badCode_fails high clear code idle
        refine ⟨t, run, nofun, fun k' idle' => ?_⟩
        cases free.symm.trans idle'.1
        obtain ⟨own, others, -⟩ := submitted_concluded (s := s) (t := { t with hp := s.hp.commanded }) (r := .badCode)
          (code := b) (d := 0) cu rfl
        refine ⟨around, ae, port, ?_, ?_, own, others, ?_, eu⟩
        all_goals rw [cu]; rfl
      · obtain ⟨t, run⟩ := exec_next (.badCode b) s
        refine ⟨t, run, nofun, fun k' idle' => ?_⟩
        cases free.symm.trans idle'.1
        exact absurd idle' idle
  · by_cases concluded : ∃ k : Fin 4, b = byteOf k.val ∧ ((s.cmd k).state = .done ∨ (s.cmd k).state = .failed)
    · obtain ⟨k, rfl, ended⟩ := concluded
      obtain ⟨h, status, whole⟩ := singleWrite_happening high clear (off := 0x1A) rfl rfl (byteOf k.val)
      have freed : State.deliverByte { s.elapse with hp := h } 0x1A (byteOf k.val) =
          State.modCmd { s.elapse with hp := h } k fun _ => .free :=
        retire_concluded (s := { s.elapse with hp := h }) ended
      refine ⟨_, whole _ s.hp.status freed (by rw [← status]; rfl), ⟨rfl, rfl, rfl, rfl, rfl, rfl⟩, rfl, rfl,
        fun k' same ended' => ?_, ?_⟩
      · have : k = k' := Option.some.inj ((tagOf_byteOf k).symm.trans ((congrArg tagOf same).trans (tagOf_byteOf k')))
        subst this
        have cmd (u : Fin 4) := cmd_modCmd s k u fun _ => .free
        exact ⟨(cmd k).trans (if_pos rfl), fun u other => (cmd u).trans (if_neg other), rfl, rfl⟩
      · rintro (large | ⟨k', same, undone, unfailed⟩)
        · exact absurd (tagOf_byteOf k) (by rw [tagOf_large large]; nofun)
        · have : k = k' := Option.some.inj ((tagOf_byteOf k).symm.trans ((congrArg tagOf same).trans (tagOf_byteOf k')))
          subst this
          exact absurd ended (by rintro (h | h); exacts [undone h, unfailed h])
    · obtain ⟨t, run, around, cu, ae, eu, port⟩ := tag_refused (off := 0x1A) high clear rfl rfl
        fun h => retire_refused (s := { s.elapse with hp := h }) (b := b) fun k same ended => concluded ⟨k, same, ended⟩
      exact ⟨t, run, around, ae, eu, fun k same ended => absurd ⟨k, same, ended⟩ concluded, fun _ => ⟨cu, port⟩⟩
  · by_cases runs : ∃ k : Fin 4, b = byteOf k.val ∧ (s.cmd k).state = .running
    · obtain ⟨k, rfl, running⟩ := runs
      have own (k' : Fin 4) (same : byteOf k.val = byteOf k'.val) : k = k' :=
        Option.some.inj ((tagOf_byteOf k).symm.trans ((congrArg tagOf same).trans (tagOf_byteOf k')))
      obtain ⟨t, run, facts⟩ : ∃ t, exec (.cmdAbort (byteOf k.val)) s = .next t ∧
          ((∀ u, (s.cmd u).state ≠ .queued) → t = { (s.elapse.unwatch k).conclude k .aborted 0 with
            hp := s.hp.wrote 0x1B 0x1B s.hp.status }) := by
        by_cases unqueued : ∀ u, (s.cmd u).state ≠ .queued
        · obtain ⟨h, status, whole⟩ := singleWrite_happening high clear (off := 0x1B) rfl rfl (byteOf k.val)
          have aborted : State.deliverByte { s.elapse with hp := h } 0x1B (byteOf k.val) =
              (State.unwatch { s.elapse with hp := h } k).conclude k .aborted 0 :=
            abort_running (s := { s.elapse with hp := h }) running unqueued
          rw [unwatch_port] at aborted
          exact ⟨_, whole _ s.hp.status aborted (by rw [← status]; rfl), fun _ => rfl⟩
        · obtain ⟨t, run⟩ := exec_next (.cmdAbort (byteOf k.val)) s
          exact ⟨t, run, fun h => absurd h unqueued⟩
      refine ⟨t, run, fun k' same _ _ unqueued => ?_, ?_⟩
      · cases own k' same
        obtain ⟨frame, slots⟩ := unwatch_frame s.elapse k
        have cmd (u : Fin 4) : (s.elapse.unwatch k).cmd u = s.cmd u := by rw [frame]; rfl
        rw [facts unqueued]
        refine ⟨?_, ?_, ?_, ?_, fun u other => ?_, ?_, ?_, ?_, rfl, fun i => ?_⟩
        · exact (conclude_cmd _ k k .aborted 0).trans ((if_pos rfl).trans (by rw [cmd]; rfl))
        · rw [frame]; rfl
        · rw [frame]; rfl
        · rw [frame]; rfl
        · exact (conclude_cmd _ k u .aborted 0).trans ((if_neg other).trans (cmd u))
        · rw [frame]; rfl
        · rw [frame]; rfl
        · show ((s.elapse.unwatch k).conclude k .aborted 0).eu = _
          rw [conclude_eu, cmd, frame]
          rfl
        · have same : ({ (s.elapse.unwatch k).conclude k .aborted 0 with hp := s.hp.wrote 0x1B 0x1B s.hp.status } : State).slot i =
              (s.elapse.unwatch k).slot i := rfl
          rw [same, slots i, slot_elapse]
          rfl
      · rintro (large | ⟨k', same, idle⟩)
        · exact absurd (tagOf_byteOf k) (by rw [tagOf_large large]; nofun)
        · cases own k' same
          exact absurd running idle
    · obtain ⟨t, run, around, cu, ae, eu, port⟩ := tag_refused (off := 0x1B) high clear rfl rfl
        fun h => abort_refused (s := { s.elapse with hp := h }) (b := b) fun k same running => runs ⟨k, same, running⟩
      exact ⟨t, run, fun k same running _ _ => absurd ⟨k, same, running⟩ runs, fun _ => ⟨around, cu, ae, eu, port⟩⟩

end Sys2Proof.Machine
end

section
/-! The commands to one slot's SS (R154, R157, R158): what the slot has when the command starts, RESET_SLOT and
REQUERY_SLOT. -/

namespace Sys2Proof.Machine

/-! ### The state in which a command starts -/

/-- The state in which an idle CU starts a command: only the time passed, the command slot and the port differ. -/
def Started (s : State) (k : Fin 4) (code : Byte) (params : List Byte) (x : State) : Prop :=
  ∃ h : Hp, State.issued { s.elapse with hp := h } k code params = x

/-- The CU after a command has started: only the settings may then differ. -/
def sameCommands (x u : State) : Prop := u.cu = { x.cu with settings := u.cu.settings } ∧ u.hp = x.hp

theorem sameCommands_of_frame {x u : State} (frame : EngineFrame x u) : sameCommands x u := by
  obtain ⟨-, -, -, cu, -, port, -⟩ := frame
  exact ⟨by rw [cu], port⟩

namespace Started
variable {s x u : State} {k : Fin 4} {code : Byte} {params : List Byte} (started : Started s k code params x)
include started

theorem slots : x.slots = s.slots := by obtain ⟨h, rfl⟩ := started; rfl
theorem links : x.links = s.links := by obtain ⟨h, rfl⟩ := started; rfl
theorem ae : x.ae = s.ae := by obtain ⟨h, rfl⟩ := started; rfl
theorem eu : x.eu = s.elapse.eu := by obtain ⟨h, rfl⟩ := started; rfl
theorem inputs : x.inputs = s.inputs := by obtain ⟨h, rfl⟩ := started; rfl
theorem wu : x.wu = s.wu := by obtain ⟨h, rfl⟩ := started; rfl
theorem pending : x.pending = s.pending := by obtain ⟨h, rfl⟩ := started; rfl
theorem settings : x.cu.settings = s.cu.settings := by obtain ⟨h, rfl⟩ := started; rfl
theorem policyWait : x.cu.policyWait = s.cu.policyWait := by obtain ⟨h, rfl⟩ := started; rfl
theorem slot (i : SlotId) : x.slot i = s.slot i := by obtain ⟨h, rfl⟩ := started; rfl
theorem link (i : SlotId) : x.link i = s.link i := by obtain ⟨h, rfl⟩ := started; rfl
theorem entry (i : SlotId) : x.entry i = s.entry i := by obtain ⟨h, rfl⟩ := started; rfl
theorem policy (i : SlotId) : x.policy i = s.policy i := by obtain ⟨h, rfl⟩ := started; rfl
theorem cmd_same : x.cmd k = .issued code params s.cu.count := by
  obtain ⟨h, rfl⟩ := started
  rw [cmd_issued_same]
  rfl

theorem submitted_running (same : sameCommands x u) :
    submitted k code params .running .ok 0 s { u with hp := s.hp.commanded } := by
  obtain ⟨cu, -⟩ := same
  obtain ⟨h, rfl⟩ := started
  obtain ⟨own, others, rest⟩ := submitted_issued (s := s) (k := k) (code := code) (params := params)
    (t := { s.issued k code params with hp := s.hp.commanded }) rfl rfl
  have cmd (v : Fin 4) : u.cmd v = (s.issued k code params).cmd v := by rw [State.cmd, cu]; rfl
  refine submitted_of ((cmd k).trans own) (fun v other => (cmd v).trans (others v other))
    (congrArg Cu.count cu) (congrArg Cu.submitResult cu) (congrArg Cu.param cu) rfl

end Started

section
variable {s : State} {k : Fin 4} {code : Byte} {params : List Byte} (high : s.resetLow = false) (clear : portClear s)
  (idle : cuIdle s k) (six : params.length = 6)
include high clear idle six

/-- A host command whose effect leaves it running. -/
theorem command_effect : ∃ x, Started s k code params x ∧ ∀ u, x.runCommand k = u → sameCommands x u →
    happening (fun t => t.hostCommand code params) s = .next { u with hp := s.hp.commanded } := by
  obtain ⟨h, runs⟩ := command_runs (code := code) high clear idle six
  refine ⟨_, ⟨h, rfl⟩, fun u run same => runs u run same.2 fun v => ?_⟩
  have cmd : u.cmd v = (s.issued k code params).cmd v := by rw [State.cmd, same.1]; rfl
  rw [cmd]
  exact unqueued_issued (s := s) idle rfl v

end

/-! ### The slot parameter (R143) -/

theorem slotOf_byteOf (i : SlotId) : slotOf (byteOf i.val) = some i := by
  revert i
  decide

theorem slotOf_large {b : Byte} (large : 7 < b.toNat) : slotOf b = none := dif_neg (by omega)

theorem byteOf_slot_small (i : SlotId) : ¬7 < (byteOf i.val).toNat := by
  revert i
  decide

section
variable {s : State} {k : Fin 4} {code slot : Byte}

/-- A slot byte out of range (R143). -/
theorem slot_refused (high : s.resetLow = false) (clear : portClear s) (idle : cuIdle s k) (large : 7 < slot.toNat)
    (checks : ∀ x : State, (x.cmd k).code = code → ∃ run, x.runCommand k = x.checked k (badSlot (x.cmd k)) run) :
    ∃ t, happening (fun t => t.hostCommand code [slot, 0, 0, 0, 0, 0]) s = .next t ∧ aroundCu s t ∧ t.ae = s.ae ∧
      t.cu.settings = s.cu.settings ∧ submitted k code [slot, 0, 0, 0, 0, 0] .failed .badParam 1 s t ∧
      t.eu = (s.elapse.event .cmdDone none k.val 1).eu := by
  refine command_refused (n := 1) high clear idle rfl ?_ fun x cmd => ?_
  · unfold CmdSlot.namedSlot
    split
    · exact slotOf_large large
    · rfl
  · obtain ⟨run, checked⟩ := checks x (by rw [cmd]; rfl)
    rw [checked, cmd, show badSlot (.issued code [slot, 0, 0, 0, 0, 0] s.cu.count) = some 1 from if_pos large]
    rfl

theorem badSlot_none (i : SlotId) (num : Byte) : badSlot (.issued code [byteOf i.val, 0, 0, 0, 0, 0] num) = none :=
  if_neg (byteOf_slot_small i)

end

/-- A byte in range names one slot. -/
theorem named_slot {slot : Byte} (small : ¬7 < slot.toNat) :
    ∃ i : SlotId, slot = byteOf i.val ∧ ∀ j : SlotId, slot = byteOf j.val → j = i := by
  refine ⟨⟨slot.toNat, by omega⟩, BitVec.eq_of_toNat_eq (by rw [byteOf, BitVec.toNat_ofNat]; dsimp only; omega), fun j named => ?_⟩
  have value := congrArg BitVec.toNat named
  rw [byteOf, BitVec.toNat_ofNat] at value
  have := j.isLt
  exact Fin.ext (by dsimp only; omega)

/-- A command to one slot's SS whose effect stays at that slot. -/
theorem toSlot_happening {s : State} {k : Fin 4} {code : Byte} (high : s.resetLow = false) (clear : portClear s)
    (idle : cuIdle s k) (i : SlotId) {f : SlotId → State → State} (frame : ∀ x, SlotFrame i x (f i x))
    (runs : ∀ x : State, x.cmd k = .issued code [byteOf i.val, 0, 0, 0, 0, 0] s.cu.count →
      x.runCommand k = x.checked k (badSlot (x.cmd k)) fun u => u.toSlot (x.cmd k) f) :
    ∃ x t, Started s k code [byteOf i.val, 0, 0, 0, 0, 0] x ∧
      happening (fun t => t.hostCommand code [byteOf i.val, 0, 0, 0, 0, 0]) s = .next t ∧
      submitted k code [byteOf i.val, 0, 0, 0, 0, 0] .running .ok 0 s t ∧ othersSame i s t ∧
      (t.inputs = s.inputs ∧ t.wu = s.wu ∧ t.pending = s.pending ∧ t.cu.settings = s.cu.settings) ∧
      t.slot i = (f i x).slot i ∧ t.link i = (f i x).link i ∧ t.ae = (f i x).ae ∧ t.eu = (f i x).eu := by
  obtain ⟨x, started, whole⟩ := command_effect (code := code) (params := [byteOf i.val, 0, 0, 0, 0, 0]) high clear idle rfl
  have run : x.runCommand k = f i x := by
    rw [runs x started.cmd_same, started.cmd_same, badSlot_none, State.checked, State.toSlot]
    show (match slotOf (byteOf i.val) with | some i => f i x | none => x) = f i x
    rw [slotOf_byteOf]
  obtain ⟨⟨pending, low, inputs, cu, wu, port, free⟩, others⟩ := frame x
  have same := sameCommands_of_frame ⟨pending, low, inputs, cu, wu, port, free⟩
  refine ⟨x, _, started, whole _ run same, started.submitted_running same, fun j other => ?_,
    ⟨inputs.trans started.inputs, wu.trans started.wu, pending.trans started.pending,
      (congrArg Cu.settings cu).trans started.settings⟩, rfl, rfl, rfl, rfl⟩
  obtain ⟨slot, link, -⟩ := others j other
  exact ⟨slot.trans (started.slot j), link.trans (started.link j)⟩

/-! ### What the SS makes of RESET_SLOT and REQUERY_SLOT -/

section
variable {s : State} {i : SlotId} {k : Fin 4} {num : Byte}

theorem takeReset_identifies (state : (s.slot i).state = .faulted ∨ (s.slot i).state = .lockedOut) :
    s.takeReset i k num = ((s.modSlot i fun r => { r with strikes := 0 }).identify i).answer i k num .ok
      (s.slot i).state.code := if_pos state

theorem takeReset_refused (other : (s.slot i).state ≠ .faulted ∧ (s.slot i).state ≠ .lockedOut) :
    s.takeReset i k num = s.answer i k num .wrongState (s.slot i).state.code :=
  if_neg (not_or.mpr other)

theorem awaitsEntry_iff {r : SlotRec} : r.awaitsEntry = true ↔
    r.state = .standby ∧ (r.arriving ≠ none ∨ r.current ≠ none ∧ .demand false none ∈ r.outbox) := by
  simp [SlotRec.awaitsEntry, Option.isSome_iff_ne_none]

theorem takeRequery_identifies (standby : (s.slot i).state = .standby) (settled : (s.slot i).awaitsEntry = false) :
    s.takeRequery i k num = ((s.discard i).identify i).answer i k num .ok (s.slot i).state.code := by
  simp [State.takeRequery, standby, settled]

/-- A STANDBY slot whose DEMAND has been taken counts as WAITING (notes/assumptions/5.md). -/
theorem takeRequery_awaiting (awaits : (s.slot i).awaitsEntry = true) :
    s.takeRequery i k num = s.answer i k num .wrongState 4 := by
  simp [State.takeRequery, awaits]
  rfl

theorem takeRequery_refused (other : (s.slot i).state ≠ .standby) :
    s.takeRequery i k num = s.answer i k num .wrongState (s.slot i).state.code := by
  have settled : (s.slot i).awaitsEntry = false := by simp [SlotRec.awaitsEntry, other]
  simp [State.takeRequery, settled, other]

@[simp] theorem slot_answer (r : CmdResult) (d : Nat) :
    (s.answer i k num r d).slot i = (s.slot i).sending (.answer k num r (byteOf d)) := slot_notify ..
@[simp] theorem link_answer (r : CmdResult) (d : Nat) (j : SlotId) : (s.answer i k num r d).link j = s.link j := rfl

end

/-- What a return to IDENTIFY with an answer leaves of slot `i` (R157, R158), its record being `r` before. -/
theorem identify_answer {u : State} {i : SlotId} {k : Fin 4} {num : Byte} {d limit : Nat} {l : LinkRec}
    (link : u.link i = l) (limited : u.retryLimit = limit) :
    ((u.identify i).answer i k num .ok d).slot i = SlotRec.sending { u.slot i with
        state := .identify, timers := { (u.slot i).timers with settle := none, holdoff := none } }
      (.answer k num .ok (byteOf d)) ∧
    ((u.identify i).answer i k num .ok d).link i = l.query limit := by
  rw [slot_answer, slot_identify, link_answer, link_identify, link, limited]
  exact ⟨rfl, rfl⟩

/-- Settles O49: each command by the state that it finds. -/
theorem resetAndRequeryIdentify : Obligations.ResetAndRequeryIdentify := by
  intro s k slot c code high clear idle which
  by_cases large : 7 < slot.toNat
  · have refused : ∃ t, exec c s = .next t ∧ aroundCu s t ∧ t.ae = s.ae ∧ t.cu.settings = s.cu.settings ∧
        submitted k code [slot, 0, 0, 0, 0, 0] .failed .badParam 1 s t ∧
        t.eu = (s.elapse.event .cmdDone none k.val 1).eu := by
      rcases which with ⟨rfl, rfl⟩ | ⟨rfl, rfl⟩
      · exact slot_refused high clear idle large fun x code => ⟨_, runCommand_resetSlot x k code⟩
      · exact slot_refused high clear idle large fun x code => ⟨_, runCommand_requery x k code⟩
    obtain ⟨t, run, around, ae, settings, submitted_, eu⟩ := refused
    obtain ⟨-, -, inputs, wu, pending, -⟩ := id around
    exact ⟨t, run, ae, inputs, wu, pending, settings, fun _ => ⟨around, submitted_, eu⟩,
      fun i named => absurd large (named ▸ byteOf_slot_small i)⟩
  obtain ⟨i, rfl, only⟩ := named_slot large
  have limited (x : State) (same : x.cu.settings = s.cu.settings) : x.retryLimit = s.cu.settings.retryLimit := by
    rw [State.retryLimit, same]
  rcases which with ⟨rfl, rfl⟩ | ⟨rfl, rfl⟩
  · obtain ⟨x, t, started, run, submitted_, others, ⟨inputs, wu, pending, settings⟩, slot, link, ae, eu⟩ :=
      toSlot_happening (f := fun i u => u.takeReset i k s.cu.count) high clear idle i (fun x => by simp)
        fun x cmd => by rw [runCommand_resetSlot x k (by rw [cmd]; rfl), cmd]; rfl
    by_cases state : (s.slot i).state = .faulted ∨ (s.slot i).state = .lockedOut
    · rw [takeReset_identifies (by rw [started.slot]; exact state)] at slot link ae eu
      obtain ⟨slot', link'⟩ := identify_answer (u := x.modSlot i fun r => { r with strikes := 0 }) (k := k)
        (num := s.cu.count) (d := (x.slot i).state.code) (i := i) (started.link i) (limited x started.settings)
      rw [slot_modSlot_same, started.slot] at slot'
      rw [started.slot] at slot link
      rw [started.slot] at link'
      rw [slot'] at slot
      rw [link'] at link
      obtain ⟨startFree, startDue, pendingReq, -⟩ := (s.link i).query_facts s.cu.settings.retryLimit
      rw [← link] at startFree startDue pendingReq
      refine ⟨t, run, ae.trans started.ae, inputs, wu, pending, settings, fun h => absurd h large, fun j named => ?_⟩
      cases only j named
      refine ⟨submitted_, others, eu.trans started.eu, fun _ => ?_, nofun, fun other => ?_⟩
      · rw [slot]
        exact ⟨rfl, rfl, rfl, rfl, rfl, rfl, rfl, pendingReq, startFree,
          fun y hy send => ⟨(startDue y hy send).1, (startDue y hy send).2.2.1, (startDue y hy send).2.1⟩⟩
      · exact absurd state (not_or.mpr (other rfl))
    · rw [takeReset_refused (by rw [started.slot]; exact not_or.mp state), started.slot] at slot link ae eu
      rw [slot_answer, started.slot] at slot
      refine ⟨t, run, ae.trans started.ae, inputs, wu, pending, settings, fun h => absurd h large, fun j named => ?_⟩
      cases only j named
      refine ⟨submitted_, others, eu.trans started.eu, fun found => ?_, nofun,
        fun _ _ => ⟨slot, link.trans (started.link i)⟩⟩
      rcases found with ⟨-, state'⟩ | ⟨h, -⟩
      · exact absurd state' state
      · cases h
  · obtain ⟨x, t, started, run, submitted_, others, ⟨inputs, wu, pending, settings⟩, slot, link, ae, eu⟩ :=
      toSlot_happening (f := fun i u => u.takeRequery i k s.cu.count) high clear idle i (fun x => by simp)
        fun x cmd => by rw [runCommand_requery x k (by rw [cmd]; rfl), cmd]; rfl
    cases awaits : (s.slot i).awaitsEntry with
    | true =>
      obtain ⟨standby, waits⟩ := awaitsEntry_iff.mp awaits
      rw [takeRequery_awaiting (by rw [started.slot]; exact awaits)] at slot link ae eu
      rw [slot_answer, started.slot] at slot
      refine ⟨t, run, ae.trans started.ae, inputs, wu, pending, settings, fun h => absurd h large, fun j named => ?_⟩
      cases only j named
      refine ⟨submitted_, others, eu.trans started.eu, fun found => ?_, fun _ _ _ => ⟨slot, link.trans (started.link i)⟩,
        fun _ other => absurd standby (other rfl)⟩
      rcases found with ⟨h, -⟩ | ⟨-, -, unlisted, unsent⟩
      · cases h
      · rcases waits with arrives | ⟨kept, sent⟩
        · exact absurd unlisted arrives
        · exact absurd sent (unsent.resolve_left kept)
    | false =>
      by_cases standby : (s.slot i).state = .standby
      · rw [takeRequery_identifies (by rw [started.slot]; exact standby) (by rw [started.slot]; exact awaits)]
          at slot link ae eu
        obtain ⟨slot', link'⟩ := identify_answer (u := x.discard i) (k := k) (num := s.cu.count)
          (d := (x.slot i).state.code) (i := i) (started.link i) (limited x started.settings)
        rw [slot_discard, started.slot] at slot'
        rw [started.slot] at slot link
        rw [started.slot] at link'
        rw [slot'] at slot
        rw [link'] at link
        obtain ⟨startFree, startDue, pendingReq, -⟩ := (s.link i).query_facts s.cu.settings.retryLimit
        rw [← link] at startFree startDue pendingReq
        refine ⟨t, run, ae.trans started.ae, inputs, wu, pending, settings, fun h => absurd h large, fun j named => ?_⟩
        cases only j named
        refine ⟨submitted_, others, eu.trans started.eu, fun _ => ?_, fun _ _ waits => ?_,
          fun _ other => absurd standby (other rfl)⟩
        · rw [slot]
          exact ⟨rfl, rfl, rfl, rfl, rfl, rfl, rfl, pendingReq, startFree,
            fun y hy send => ⟨(startDue y hy send).1, (startDue y hy send).2.2.1, (startDue y hy send).2.1⟩⟩
        · exact absurd (awaitsEntry_iff.mpr ⟨standby, waits⟩) (by rw [awaits]; exact Bool.false_ne_true)
      · rw [takeRequery_refused (by rw [started.slot]; exact standby), started.slot] at slot link ae eu
        rw [slot_answer, started.slot] at slot
        refine ⟨t, run, ae.trans started.ae, inputs, wu, pending, settings, fun h => absurd h large, fun j named => ?_⟩
        cases only j named
        refine ⟨submitted_, others, eu.trans started.eu, fun found => ?_, fun _ h => absurd h standby,
          fun _ _ => ⟨slot, link.trans (started.link i)⟩⟩
        rcases found with ⟨h, -⟩ | ⟨-, standby', -⟩
        · cases h
        · exact absurd standby' standby

end Sys2Proof.Machine
end

section
/-! REVOKE_SLOT (R154, R155): what the slot's SS makes of it by state, and the AE's rules behind it. -/

namespace Sys2Proof.Machine

/-! ### The command watch (R142) -/

/-- The watch touches no field but itself and the outbox. -/
theorem SlotRec.answered_keeps {α : Type} (f : SlotRec → α) (same : ∀ r w o, f { r with watch := w, outbox := o } = f r)
    (r : SlotRec) (maxPower : Nat) : f (r.answered maxPower) = f r := by
  unfold SlotRec.answered
  split
  · rfl
  · split
    · rw [same]
    · rfl

theorem SlotRec.answered_reached {r : SlotRec} {w : Watch} {maxPower : Nat} (watch : r.watch = some w)
    (low : r.standing maxPower ≤ w.limit) :
    r.answered maxPower = { r with watch := none, outbox := r.outbox ++ [.answer w.tag w.num .ok (byteOf w.found)] } := by
  unfold SlotRec.answered
  rw [watch]
  exact if_pos low

theorem SlotRec.answered_above {r : SlotRec} {w : Watch} {maxPower : Nat} (watch : r.watch = some w)
    (above : w.limit < r.standing maxPower) : r.answered maxPower = r := by
  unfold SlotRec.answered
  rw [watch]
  exact if_neg (by omega)

/-! ### REDUCE requests by state (R57, R119, R124) -/

section
variable {s : State} {i : SlotId} {index power : Nat} {origin : Origin}

/-- Entering REDUCING, the pending list dropped first with a REFUSE. -/
theorem takeReduce_pending (powered : (s.slot i).state = .powered) (some_ : (s.slot i).restated.isSome = true) :
    s.takeReduce i index power origin =
      ((s.modSlot i fun r => { r with restated := none }).refuse i).beginReduce i index power origin := by
  simp [State.takeReduce, powered, State.dropPending, some_]

/-- The request that finds the LE with a REFUSE to send first. -/
theorem LinkRec.request_refused {l : LinkRec} (serves : l.link ≠ .down) (f : Frame) (limit : Nat) :
    (l.ask .refuse).request f limit = { l with waiting := some .refuse, pendingReq := some f } := by
  simp [LinkRec.ask, LinkRec.request, serves, LinkRec.busy]

theorem takeReduce_reducing {d : Reduction} (reducing : (s.slot i).state = .reducing)
    (reduction : (s.slot i).reduction = some d) :
    s.takeReduce i index power origin = s.upgrade i d index power origin := by
  simp [State.takeReduce, reducing, reduction]

/-- The reduction record of a slot whose target is lowered, or not, while it reduces (R124). -/
def Reduction.upgraded (d : Reduction) (index power : Nat) (origin : Origin) : Reduction :=
  if power < d.targetPower then
    { d with targetIndex := index, targetPower := power, origin := upgradedOrigin d.origin origin true }
  else { d with origin := upgradedOrigin d.origin origin false }

variable (s i index power origin) (d : Reduction)

theorem slot_upgrade : (s.upgrade i d index power origin).slot i =
    { s.slot i with reduction := some (d.upgraded index power origin) } := by
  unfold State.upgrade Reduction.upgraded
  dsimp only
  split
  · rename_i lower
    rw [slot_linkRequest, slot_modSlot_same, decide_eq_true lower]
  · rename_i above
    rw [slot_modSlot_same, decide_eq_false above]

theorem link_upgrade : (s.upgrade i d index power origin).link i =
    if power < d.targetPower then (s.link i).request (.reduce index power) s.cu.settings.retryLimit else s.link i := by
  unfold State.upgrade
  dsimp only
  split
  · rw [link_linkRequest, link_modSlot]; rfl
  · rfl

theorem upgrade_rest : (s.upgrade i d index power origin).ae = s.ae ∧
    (s.upgrade i d index power origin).eu = s.eu ∧ (s.upgrade i d index power origin).cu = s.cu := by
  unfold State.upgrade
  dsimp only
  split <;> exact ⟨rfl, rfl, rfl⟩

theorem takeReduce_ae : (s.takeReduce i index power origin).ae = s.ae := by
  unfold State.takeReduce
  split
  · rw [beginReduce_ae, dropPending_order]
  · exact (upgrade_rest ..).1
  · rfl
  · rfl

end

/-! ### REVOKE_SLOT at the SS -/

section
variable {x : State} {i : SlotId} (k : Fin 4) (num : Byte)

theorem takeRevoke_refused (unpowered : (x.slot i).state.unpowered = true) :
    x.takeRevoke i k num = x.answer i k num .notPowered (x.slot i).state.code := if_pos unpowered

/-- The watch that a revoke sets (R142). -/
def revokeWatch (x : State) (i : SlotId) (k : Fin 4) (num : Byte) : Watch :=
  { tag := k, num := num, limit := 0, found := (x.slot i).state.code }

theorem takeRevoke_acts {st : SlotState} (state : (x.slot i).state = st) (powered : st.unpowered = false) :
    x.takeRevoke i k num = ((x.setWatch i (revokeWatch x i k num)).revoke i).watchCheck i := by
  rw [← state] at powered
  exact if_neg (by rw [powered]; exact Bool.false_ne_true)

theorem takeRevoke_ae : (x.takeRevoke i k num).ae = x.ae := by
  have revoked (y : State) : (y.revoke i).ae = y.ae := by
    unfold State.revoke
    split
    all_goals first | rfl | exact takeReduce_ae ..
  unfold State.takeRevoke
  dsimp only
  split
  · rfl
  · rw [watchCheck_ae, revoked, setWatch_ae]

/-- What a slot's SS makes of a revoke in a state that has power (R154, R155), the watch set. -/
theorem revoke_offering (state : (x.slot i).state = .offering) :
    (x.revoke i).slot i = ((x.slot i).listless (x.policy i).classLimit).sending .released ∧
      (x.revoke i).link i = ((x.link i).withdraw).ask .cut ∧ (x.revoke i).eu = x.eu := by
  have act : x.revoke i = x.revokeOffering i := by simp only [State.revoke, state]
  rw [act, State.revokeOffering, slot_notify, slot_linkAsk, slot_dropOffer, link_notify, link_linkAsk, link_dropOffer]
  exact ⟨rfl, rfl, rfl⟩

theorem revoke_powering (state : (x.slot i).state = .powering) : x.revoke i = x.releaseCut i .released := by
  simp only [State.revoke, state, State.revokePowering]

theorem revoke_powered (state : (x.slot i).state = .powered ∨ (x.slot i).state = .reducing) :
    x.revoke i = x.takeReduce i 0 0 .host := by
  rcases state with state | state <;> simp only [State.revoke, state]

theorem revoke_owed (state : (x.slot i).state = .raising ∨ (x.slot i).state = .restating ∨ (x.slot i).state = .resync) :
    x.revoke i = x.owe i { origin := .host, targetPower := 0 } := by
  rcases state with state | state | state <;> simp only [State.revoke, state]

theorem slot_owe_host (y : State) (i : SlotId) : (y.owe i { origin := .host, targetPower := 0 }).slot i =
    { y.slot i with owed := some { origin := .host, targetPower := 0 } } := by
  rw [State.owe, slot_modSlot_same]
  simp

/-- A revoke leaves no slot in POWERED, and a slot in WAITING as it stands but for its outbox. -/
theorem takeRevoke_state : ((x.takeRevoke i k num).slot i).state ≠ .powered ∧
    ((x.slot i).state = .waiting → ((x.takeRevoke i k num).slot i).state = .waiting ∧
      ((x.takeRevoke i k num).slot i).effClass = (x.slot i).effClass ∧
      ((x.takeRevoke i k num).slot i).current = (x.slot i).current) := by
  cases unpowered : (x.slot i).state.unpowered with
  | true =>
    rw [takeRevoke_refused k num unpowered, slot_answer]
    refine ⟨?_, fun waits => ⟨waits, rfl, rfl⟩⟩
    intro powered
    rw [show (x.slot i).state = .powered from powered] at unpowered
    cases unpowered
  | false =>
    rw [takeRevoke_acts k num rfl unpowered]
    refine ⟨?_, fun waits => by rw [waits] at unpowered; cases unpowered⟩
    rw [slot_watchCheck, SlotRec.answered_keeps SlotRec.state (fun _ _ _ => rfl)]
    have slot : (x.setWatch i (revokeWatch x i k num)).slot i = { x.slot i with watch := some (revokeWatch x i k num) } :=
      slot_setWatch ..
    generalize x.setWatch i (revokeWatch x i k num) = y at slot ⊢
    have same : (y.slot i).state = (x.slot i).state := by rw [slot]
    cases state : (x.slot i).state with
    | offering => rw [(revoke_offering (same.trans state)).1]; nofun
    | powering => rw [revoke_powering (same.trans state), slot_releaseCut]; nofun
    | powered =>
      rw [revoke_powered (.inl (same.trans state)), State.takeReduce, same, state]
      rw [slot_beginReduce]
      nofun
    | reducing =>
      rw [revoke_powered (.inr (same.trans state))]
      cases reduction : (y.slot i).reduction with
      | none =>
        rw [State.takeReduce, same, state, reduction]
        exact fun h => by rw [same, state] at h; cases h
      | some d =>
        rw [takeReduce_reducing (same.trans state) reduction, slot_upgrade]
        exact fun h => by rw [show (y.slot i).state = _ from h] at same; rw [state] at same; cases same
    | raising => rw [revoke_owed (.inl (same.trans state)), slot_owe_host]; simp [same, state]
    | restating => rw [revoke_owed (.inr (.inl (same.trans state))), slot_owe_host]; simp [same, state]
    | resync => rw [revoke_owed (.inr (.inr (same.trans state))), slot_owe_host]; simp [same, state]
    | _ => rw [state] at unpowered; cases unpowered

end

/-! ### The account that a slot's act leaves settled -/

theorem mem_budgetCandidates {s : State} {j : SlotId} : j ∈ s.budgetCandidates ↔
    j ∈ s.ae.grantOrder ∧ (s.slot j).effClass ≤ 3 ∧ (s.slot j).state = .powered := by
  have classes (c : Nat) : (c ∈ [3, 2, 1, 0]) ↔ c ≤ 3 := by simp; omega
  simp only [State.budgetCandidates, State.candidates, State.shedding, State.ofClass, List.mem_filter, List.mem_flatMap,
    List.mem_reverse, beq_iff_eq, Bool.and_true]
  constructor
  · rintro ⟨⟨c, class_, granted, rfl⟩, powered⟩
    exact ⟨granted, (classes _).mp class_, powered⟩
  · rintro ⟨granted, low, powered⟩
    exact ⟨⟨_, (classes _).mpr low, granted, rfl⟩, powered⟩

/-- A settled account stays so where slot `i` alone acts and the AE's record stands: no slot becomes POWERED by it, and a
slot in WAITING keeps its list and class. -/
theorem aeSettled_keep {s u : State} {i : SlotId} (settled : aeSettled s) (ae : u.ae = s.ae)
    (others : ∀ j, j ≠ i → u.slot j = s.slot j) (unpowered : (u.slot i).state ≠ .powered)
    (waiting : (s.slot i).state = .waiting → (u.slot i).state = .waiting ∧ (u.slot i).effClass = (s.slot i).effClass ∧
      (u.slot i).current = (s.slot i).current) : aeSettled u := by
  obtain ⟨quiet, active⟩ := settled
  refine ⟨fun idle => ?_, fun goes => ?_⟩
  · rw [ae] at idle ⊢
    refine (quiet idle).imp_right fun held => held.imp_right fun none_ => ?_
    refine List.eq_nil_iff_forall_not_mem.mpr fun j member => ?_
    obtain ⟨granted, low, powered⟩ := mem_budgetCandidates.mp member
    have other : j ≠ i := fun same => unpowered (same ▸ powered)
    rw [ae] at granted
    rw [others j other] at low powered
    exact absurd (mem_budgetCandidates.mpr ⟨granted, low, powered⟩) (by rw [none_]; exact List.not_mem_nil)
  · rw [ae] at goes ⊢
    obtain ⟨unconcluded, kinds⟩ := active goes
    refine ⟨unconcluded, kinds.imp_right fun ⟨kind, calm, b, beneficiary, waits, unfit⟩ => ?_⟩
    have same : (u.slot b).state = .waiting ∧ (u.slot b).effClass = (s.slot b).effClass ∧
        (u.slot b).current = (s.slot b).current := by
      by_cases own : b = i
      · subst own
        exact waiting waits
      · rw [others b own]
        exact ⟨waits, rfl, rfl⟩
    obtain ⟨waits', class_, list⟩ := same
    refine ⟨kind, calm, b, beneficiary, waits', ?_⟩
    have available : u.available b = s.available b := by
      unfold State.available State.isBeneficiary
      rw [ae, class_]
    rw [State.fitting, list, available]
    exact unfit

/-- An ADMIT reclaim whose beneficiary has left the queue ends under HOLD, and no more (R129). -/
theorem aeRules_ends {s : State} {b : SlotId} (active : s.ae.reclaim.active = true)
    (kind : s.ae.reclaim.kind = .admission) (calm : s.ae.excess = false) (hold : s.ae.hold = true)
    (beneficiary : s.ae.reclaim.beneficiary = some b) (left : (s.slot b).state ≠ .waiting) (due : Bool) :
    s.aeRules due = s.endReclaim 0x13 := by
  have ends : s.endTests = s.endReclaim 0x13 := by
    simp only [State.endTests, active, if_true, kind, beneficiary, State.admitRules, left, ne_eq, not_false_eq_true]
  have trigger : (s.endReclaim 0x13).budgetTrigger = s.endReclaim 0x13 := by
    unfold State.budgetTrigger
    rw [if_neg]
    rw [show (s.endReclaim 0x13).ae.excess = false from calm]
    simp
  unfold State.aeRules
  dsimp only
  rw [ends, trigger, if_neg]
  rw [show (s.endReclaim 0x13).ae.hold = true from hold]
  simp

end Sys2Proof.Machine
end

section
/-! REVOKE_SLOT as a whole command (R154, R155, R10). -/

namespace Sys2Proof.Machine

theorem Started.enter {s x : State} {k : Fin 4} {code : Byte} {params : List Byte} (started : Started s k code params x)
    {i : SlotId} : revokeWatch x i k s.cu.count =
      { tag := k, num := s.cu.count, limit := 0, found := (s.slot i).state.code } := by
  rw [revokeWatch, started.slot]

/-- The command at an idle CU: what the slot's SS makes of it, then the AE's rules. -/
theorem revoke_happening {s : State} {k : Fin 4} (high : s.resetLow = false) (clear : portClear s) (idle : cuIdle s k)
    (i : SlotId) : ∃ x u t, Started s k 3 [byteOf i.val, 0, 0, 0, 0, 0] x ∧
      (x.takeRevoke i k s.cu.count).aeRules false = u ∧ exec (.revokeSlot (byteOf i.val)) s = .next t ∧
      submitted k 3 [byteOf i.val, 0, 0, 0, 0, 0] .running .ok 0 s t ∧
      (t.inputs = s.inputs ∧ t.wu = s.wu ∧ t.pending = s.pending ∧ t.cu.settings = s.cu.settings) ∧
      (∀ j, t.slot j = u.slot j ∧ t.link j = u.link j) ∧ t.ae = u.ae ∧ t.eu = u.eu := by
  obtain ⟨x, started, whole⟩ := command_effect (code := 3) (params := [byteOf i.val, 0, 0, 0, 0, 0]) high clear idle rfl
  obtain ⟨u, rules⟩ : ∃ u, (x.takeRevoke i k s.cu.count).aeRules false = u := ⟨_, rfl⟩
  have run : x.runCommand k = u := by
    rw [runCommand_revoke x k (by rw [started.cmd_same]; rfl), started.cmd_same, badSlot_none, State.checked,
      State.runRevoke, State.toSlot, ← rules]
    show State.aeRules (match slotOf (byteOf i.val) with | some i => x.takeRevoke i k s.cu.count | none => x) false = _
    rw [slotOf_byteOf]
  have frame : EngineFrame x u := by
    have acts : SlotFrame i x (x.takeRevoke i k s.cu.count) := by simp
    rw [← rules]
    exact (EngineFrame.aeRules_iff false).mpr acts.1
  have same := sameCommands_of_frame frame
  obtain ⟨pending, -, inputs, cu, wu, -, -⟩ := frame
  exact ⟨x, u, _, started, rules, whole u run same, started.submitted_running same,
    ⟨inputs.trans started.inputs, wu.trans started.wu, pending.trans started.pending,
      (congrArg Cu.settings cu).trans started.settings⟩, fun _ => ⟨rfl, rfl⟩, rfl, rfl⟩

/-- The AE's rules find nothing to decide behind a revoke (R10). -/
theorem revoke_settled {x : State} {i : SlotId} (k : Fin 4) (num : Byte) (settled : aeSettled x) :
    (x.takeRevoke i k num).aeRules false = x.takeRevoke i k num := by
  have frame : SlotFrame i x (x.takeRevoke i k num) := by simp
  obtain ⟨unpowered, waiting⟩ := takeRevoke_state (x := x) (i := i) k num
  exact State.aeRules_settled (aeSettled_keep settled (takeRevoke_ae k num) (fun j other => (frame.2 j other).1) unpowered
    waiting)

theorem Started.settled {s x : State} {k : Fin 4} {code : Byte} {params : List Byte} (started : Started s k code params x)
    (settled : aeSettled s) : aeSettled x := by
  obtain ⟨h, rfl⟩ := started
  exact settled

/-- A withdrawn offer's link record with its CUT frame asked for (R28). -/
theorem LinkRec.withdraw_cut (l : LinkRec) : (l.withdraw.ask .cut).exchange = none ∧
    (l.withdraw.ask .cut).pendingReq = none ∧ (l.link ≠ .down → (l.withdraw.ask .cut).waiting = some .cut) := by
  have link := l.withdraw_keeps.1
  refine ⟨?_, ?_, fun serves => ?_⟩
  · rw [← l.withdraw_exchange]; unfold LinkRec.ask; split <;> rfl
  · unfold LinkRec.ask; split <;> rfl
  · unfold LinkRec.ask
    rw [link, if_neg serves]

section
variable {s : State} {i : SlotId} {k : Fin 4} {x t : State} (started : Started s k 3 [byteOf i.val, 0, 0, 0, 0, 0] x)
include started

theorem revoked_facts {st : SlotState} (state : (s.slot i).state = st) (powered : st.unpowered = false) :
    ∃ y : State, x.takeRevoke i k s.cu.count = (y.revoke i).watchCheck i ∧
      y.slot i = { s.slot i with watch := some { tag := k, num := s.cu.count, limit := 0, found := st.code } } ∧
      y.link i = s.link i ∧ y.policy i = s.policy i ∧ y.eu = s.elapse.eu ∧ y.cu.settings = s.cu.settings := by
  refine ⟨x.setWatch i (revokeWatch x i k s.cu.count),
    takeRevoke_acts k _ (by rw [started.slot]; exact state) powered, ?_, ?_, ?_, started.eu, started.settings⟩
  · rw [slot_setWatch, started.slot, revokeWatch, started.slot, state]
  · rw [link_setWatch, started.link]
  · rw [policy_setWatch, started.policy]

end

/-- Settles O48: the SS's part by state (`takeRevoke_acts` and the equations of its operations), the AE's by
`revoke_settled` and `aeRules_ends`. -/
theorem revokeSlotActsByState : Obligations.RevokeSlotActsByState := by
  intro s k slot high clear idle
  by_cases large : 7 < slot.toNat
  · obtain ⟨t, run, around, ae, settings, submitted_, eu⟩ := slot_refused high clear idle large
      fun x code => ⟨_, runCommand_revoke x k code⟩
    obtain ⟨-, -, inputs, wu, pending, -⟩ := id around
    have none_ (i : SlotId) (named : slot = byteOf i.val) : False := absurd large (named ▸ byteOf_slot_small i)
    exact ⟨t, run, inputs, wu, pending, settings, fun _ => ⟨around, ae, submitted_, eu⟩, fun i named => (none_ i named).elim,
      fun i named => (none_ i named).elim, fun i named => (none_ i named).elim⟩
  obtain ⟨i, rfl, only⟩ := named_slot large
  obtain ⟨x, u, t, started, rules, run, submitted_, ⟨inputs, wu, pending, settings⟩, records, ae, eu⟩ :=
    revoke_happening high clear idle i
  refine ⟨t, run, inputs, wu, pending, settings, fun h => absurd h large, fun _ _ => submitted_, ?_, ?_⟩
  · intro j named unpowered active kind calm hold b beneficiary left
    cases only j named
    rw [takeRevoke_refused k _ (by rw [started.slot]; exact unpowered)] at rules
    have left' : ((x.answer i k s.cu.count .notPowered (x.slot i).state.code).slot b).state ≠ .waiting := by
      by_cases own : b = i
      · subst own; rw [slot_answer, started.slot]; exact left
      · rw [State.answer, State.notify, slot_modSlot_other _ _ own, started.slot]; exact left
    have ae' : (x.answer i k s.cu.count .notPowered (x.slot i).state.code).ae = s.ae := started.ae
    rw [aeRules_ends (by rw [ae']; exact active) (by rw [ae']; exact kind) (by rw [ae']; exact calm)
      (by rw [ae']; exact hold) (by rw [ae']; exact beneficiary) left'] at rules
    refine ⟨?_, fun j other => ?_, ?_, ?_, ?_⟩
    · rw [(records i).1, ← rules]
      show (x.answer i k s.cu.count .notPowered (x.slot i).state.code).slot i = _
      rw [slot_answer, started.slot]
    · rw [(records j).1, (records j).2, ← rules]
      exact ⟨(slot_modSlot_other _ _ other).trans (started.slot j), started.link j⟩
    · rw [(records i).2, ← rules]
      exact started.link i
    · rw [ae, ← rules, State.endReclaim, ae']
      rfl
    · rw [eu, ← rules, State.endReclaim, ae', beneficiary]
      have eu' : (x.answer i k s.cu.count .notPowered (x.slot i).state.code).eu = s.elapse.eu := started.eu
      exact congrArg (fun e : Eu => e.append .reclaimEnd (some b) 0x13 (BitVec.ofNat 16 s.ae.reclaim.yieldTaken)) eu'
  · intro j named settled
    cases only j named
    rw [revoke_settled k _ (started.settled settled)] at rules
    subst rules
    obtain ⟨slot, link⟩ := records i
    have frame : SlotFrame i x (x.takeRevoke i k s.cu.count) := by simp
    refine ⟨ae.trans ((takeRevoke_ae k _).trans started.ae), fun j other => ?_, fun unpowered => ?_, fun state => ?_,
      fun state => ?_, fun state unlisted granted => ?_, fun state listed granted => ?_, fun d reduction state granted => ?_,
      fun state => ?_⟩
    · obtain ⟨slot_j, link_j, -⟩ := frame.2 j other
      rw [(records j).1, (records j).2, slot_j, link_j]
      exact ⟨started.slot j, started.link j⟩
    · rw [takeRevoke_refused k _ (by rw [started.slot]; exact unpowered)] at slot link eu
      rw [slot_answer, started.slot] at slot
      exact ⟨slot, link.trans (started.link i), eu.trans started.eu⟩
    · obtain ⟨y, acts, slot_y, link_y, policy_y, eu_y, -⟩ := revoked_facts started state rfl
      obtain ⟨slot_r, link_r, eu_r⟩ := revoke_offering (x := y) (i := i) (by rw [slot_y]; exact state)
      rw [acts] at slot link eu
      rw [slot_watchCheck, slot_r, slot_y, policy_y] at slot
      rw [link_watchCheck, link_r, link_y] at link
      rw [watchCheck_eu, eu_r, eu_y] at eu
      obtain ⟨exchange, pendingReq, waiting⟩ := (s.link i).withdraw_cut
      rw [← link] at exchange pendingReq waiting
      refine ⟨?_, exchange, pendingReq, waiting, eu⟩
      refine slot.trans ((SlotRec.answered_reached rfl (Nat.zero_le _)).trans ?_)
      simp [SlotRec.sending, SlotRec.listless]
      rfl
    · obtain ⟨y, acts, slot_y, link_y, policy_y, eu_y, -⟩ := revoked_facts started state rfl
      rw [acts, revoke_powering (by rw [slot_y]; exact state)] at slot link eu
      rw [slot_watchCheck, slot_releaseCut, slot_y, policy_y] at slot
      rw [link_watchCheck, link_releaseCut, link_y] at link
      rw [watchCheck_eu, releaseCut_eu, eu_y, slot_y] at eu
      obtain ⟨exchange, -⟩ := (s.link i).cut_facts
      have slot' := slot.trans (SlotRec.answered_reached rfl (Nat.zero_le _))
      refine ⟨?_, ?_, by rw [link]; exact exchange, eu⟩
      · rw [slot']
        simp [SlotRec.sending, SlotRec.listless, SlotRec.powerless]
        rfl
      · rw [State.enHigh, slot']
        exact Bool.and_false _
    · obtain ⟨y, acts, slot_y, link_y, policy_y, eu_y, settings_y⟩ := revoked_facts started state rfl
      rw [acts, revoke_powered (.inl (by rw [slot_y]; exact state)), takeReduce_powered (by rw [slot_y]; exact state)
        (by rw [slot_y]; exact unlisted)] at slot link eu
      rw [slot_watchCheck, slot_beginReduce, slot_y, settings_y] at slot
      rw [link_watchCheck, link_beginReduce, link_y, settings_y] at link
      refine ⟨slot.trans (SlotRec.answered_above rfl (Nat.pos_of_ne_zero granted)), eu.trans eu_y, fun serves => ?_⟩
      rw [link, LinkRec.request_asked serves (by nofun)]
    · obtain ⟨y, acts, slot_y, link_y, policy_y, eu_y, settings_y⟩ := revoked_facts started state rfl
      rw [acts, revoke_powered (.inl (by rw [slot_y]; exact state)), takeReduce_pending (by rw [slot_y]; exact state)
        (by rw [slot_y]; exact listed)] at slot link eu
      rw [slot_watchCheck, slot_beginReduce, slot_refuse, slot_modSlot_same, slot_y] at slot
      rw [link_watchCheck, link_beginReduce, link_refuse, link_modSlot, link_y] at link
      rw [watchCheck_eu, beginReduce_eu, refuse_eu, slot_modSlot_same, slot_y] at eu
      have settings_r : ((y.modSlot i fun r => { r with restated := none }).refuse i).cu.settings = s.cu.settings :=
        settings_y
      rw [settings_r] at slot link
      refine ⟨slot.trans (SlotRec.answered_above rfl (Nat.pos_of_ne_zero granted)), ?_, fun serves => ?_⟩
      · rw [eu, State.modSlot_eu, eu_y, state]
        rfl
      · rw [link, LinkRec.request_refused serves]
    · obtain ⟨y, acts, slot_y, link_y, policy_y, eu_y, settings_y⟩ := revoked_facts started state rfl
      rw [acts, revoke_powered (.inr (by rw [slot_y]; exact state)), takeReduce_reducing (d := d) (by rw [slot_y]; exact state)
        (by rw [slot_y]; exact reduction)] at slot link eu
      rw [slot_watchCheck, slot_upgrade, slot_y] at slot
      rw [link_watchCheck, link_upgrade, link_y, settings_y] at link
      rw [watchCheck_eu, (upgrade_rest y i 0 0 .host d).2.1, eu_y] at eu
      refine ⟨?_, eu, fun zero => ?_, fun nonzero serves => ?_⟩
      · rw [slot, SlotRec.answered_above rfl (by
          show 0 < SlotRec.standing _ _
          unfold SlotRec.standing
          dsimp only
          rw [state]
          exact Nat.pos_of_ne_zero granted)]
        by_cases zero : d.targetPower = 0
        · simp [Reduction.upgraded, zero, upgradedOrigin]
          rfl
        · simp [Reduction.upgraded, zero, Nat.pos_of_ne_zero zero, upgradedOrigin]
          rfl
      · rw [link, if_neg (by omega)]
      · rw [link, if_pos (Nat.pos_of_ne_zero nonzero), LinkRec.request_asked serves (by nofun)]
    · have powered : (s.slot i).state.unpowered = false := by rcases state with h | h | h <;> rw [h] <;> rfl
      obtain ⟨y, acts, slot_y, link_y, policy_y, eu_y, settings_y⟩ := revoked_facts started rfl powered
      rw [acts, revoke_owed (by rw [slot_y]; exact state)] at slot link eu
      rw [slot_watchCheck, slot_owe_host, slot_y] at slot
      refine ⟨?_, ?_, ?_, link.trans link_y, eu.trans eu_y⟩
      · rw [slot]; exact SlotRec.answered_keeps SlotRec.owed (fun _ _ _ => rfl) _ _
      · rw [slot]; exact SlotRec.answered_keeps SlotRec.state (fun _ _ _ => rfl) _ _
      · rw [slot]; exact SlotRec.answered_keeps SlotRec.en (fun _ _ _ => rfl) _ _

end Sys2Proof.Machine
end

section
/-! The shared step of SET_SLOT_POLICY by its parts (R50 to R52, R150 to R152): the lists marked anew, what the AE takes of
the step, the reduction called for, and the watch. -/

namespace Sys2Proof.Machine

/-! ### Entries to WAITING and PARKED -/

section
variable (s : State) (i : SlotId)

@[simp] theorem slot_joinQueue : (s.joinQueue i).slot i = { s.slot i with state := .waiting } :=
  slot_enter (s.leaveQueue i) i .waiting
theorem slot_joinQueue_other {j : SlotId} (other : j ≠ i) : (s.joinQueue i).slot j = s.slot j :=
  slot_modSlot_other (s.leaveQueue i) _ other
@[simp] theorem link_joinQueue (j : SlotId) : (s.joinQueue i).link j = s.link j := rfl
@[simp] theorem joinQueue_eu : (s.joinQueue i).eu = s.eu := rfl
@[simp] theorem policy_joinQueue (j : SlotId) : (s.joinQueue i).policy j = s.policy j := rfl
theorem joinQueue_ae : (s.joinQueue i).ae =
    { (s.leaveQueue i).ae with entryOrder := s.ae.entryOrder.filter (· != i) ++ [i] } := rfl

variable {s i}

theorem admitDemand_joins (admits : (s.policy i).admits = true) : s.admitDemand i = s.joinQueue i := if_pos admits

theorem admitDemand_parks (refused : (s.policy i).admits = false) : s.admitDemand i = s.enter i .parked :=
  if_neg (by rw [refused]; exact Bool.false_ne_true)

theorem admitKept_enters (standby : (s.slot i).state = .standby) (kept : (s.slot i).current.isSome = true)
    (freed : s.freed i = true) : s.admitKept i = s.admitDemand i := if_pos ⟨standby, kept, freed⟩

theorem admitKept_stays (other : (s.slot i).state ≠ .standby ∨ (s.slot i).current = none ∨ s.freed i = false) :
    s.admitKept i = s :=
  if_neg (by
    rintro ⟨standby, kept, freed⟩
    rcases other with h | h | h
    · exact h standby
    · rw [h] at kept; cases kept
    · rw [h] at freed; cases freed)

theorem applyAdmit_stays (unparks : (s.slot i).state = .waiting → (s.policy i).admits = true)
    (unjoined : (s.slot i).state = .parked → (s.policy i).admits = false) : s.applyAdmit i = s := by
  unfold State.applyAdmit
  rw [if_neg, if_neg]
  · rintro ⟨parked, admits⟩
    rw [unjoined parked] at admits
    cases admits
  · rintro ⟨waiting, refused⟩
    rw [unparks waiting] at refused
    cases refused

theorem applyAdmit_parks (waiting : (s.slot i).state = .waiting) (refused : (s.policy i).admits = false) :
    s.applyAdmit i = (s.leaveQueue i).enter i .parked := if_pos ⟨waiting, by rw [refused]; rfl⟩

theorem applyAdmit_joins (parked : (s.slot i).state = .parked) (admits : (s.policy i).admits = true) :
    s.applyAdmit i = s.joinQueue i :=
  (if_neg (by rw [parked]; rintro ⟨h, -⟩; cases h)).trans (if_pos ⟨parked, admits⟩)

end

/-! ### Lists marked anew (R51) -/

theorem powerAt_trim (l : DemandList) (maxPower k : Nat) : (l.trim maxPower).powerAt k = l.powerAt k := by
  unfold DemandList.powerAt DemandList.point DemandList.trim
  split
  · rfl
  · rw [List.getElem?_map, Option.map_map]
    rfl

/-- The standing power is that of the points held, marked anew or not. -/
theorem standing_retrimmed (r : SlotRec) (maxPower classLimit limit : Nat) :
    (r.retrimmed maxPower classLimit).standing limit = r.standing limit := by
  have granted : (r.retrimmed maxPower classLimit).grantedPower = r.grantedPower := by
    unfold SlotRec.grantedPower SlotRec.retrimmed
    cases r.current with
    | none => rfl
    | some l => exact powerAt_trim l maxPower r.granted
  unfold SlotRec.standing
  rw [granted]
  rfl

section
variable (s : State) (i : SlotId)

theorem link_reTrim (j : SlotId) : (s.reTrim i).link j = s.link j := by
  unfold State.reTrim
  dsimp only
  split <;> rfl

theorem reTrim_cu : (s.reTrim i).cu = s.cu := by
  unfold State.reTrim
  dsimp only
  split <;> rfl

/-- DEMAND_TRIMMED where the mask of the current list changes. -/
theorem reTrim_eu : (s.reTrim i).eu =
    if ((s.slot i).current.map DemandList.mask).getD 0 =
        ((s.slot i).current.map fun l => (l.trim (s.policy i).maxPower).mask).getD 0 then s.eu
    else (s.event .demandTrimmed (some i) (((s.slot i).current.map fun l => (l.trim (s.policy i).maxPower).mask).getD 0)
      (s.policy i).maxPower).eu := by
  have marked : (((s.modSlot i fun r => r.reTrim (s.policy i).maxPower).slot i).current.map DemandList.mask).getD 0 =
      ((s.slot i).current.map fun l => (l.trim (s.policy i).maxPower).mask).getD 0 := by
    rw [slot_modSlot_same]
    show (((s.slot i).current.map (·.trim (s.policy i).maxPower)).map DemandList.mask).getD 0 = _
    rw [Option.map_map]
    rfl
  unfold State.reTrim
  dsimp only
  rw [marked]
  split <;> rfl

theorem leavesPoint_eq : s.leavesPoint i = s.leftAt i (s.policy i).maxPower := by
  unfold State.leavesPoint State.leftAt DemandList.anyAvail DemandList.trim
  cases (s.slot i).current with
  | none => rfl
  | some l =>
    show (l.points.map _).any Point.avail = l.points.any _
    rw [List.any_map]
    rfl

theorem slot_reClassed : (s.reClass i).slot i = { s.slot i with
    effClass := ((s.slot i).current.map (s.classOf i)).getD (s.policy i).classLimit } := slot_modSlot_same ..

/-- A record marked anew with its class recomputed. -/
theorem slot_reTrim_reClass : ((s.reTrim i).reClass i).slot i =
    (s.slot i).retrimmed (s.policy i).maxPower (s.policy i).classLimit := by
  rw [slot_reClassed, slot_reTrim, policy_reTrim]
  unfold SlotRec.reTrim SlotRec.retrimmed
  dsimp only
  congr 1
  rw [Option.map_map]
  have classes : ((s.reTrim i).classOf i ∘ fun l : DemandList => l.trim (s.policy i).maxPower) =
      fun l : DemandList => max l.cardClass (s.policy i).classLimit := by
    funext l
    show max l.cardClass ((s.reTrim i).policy i).classLimit = _
    rw [policy_reTrim]
  rw [classes]

end

/-! ### What the re-evaluation does (R51, R52) -/

section
variable {s : State} {i : SlotId}

theorem reEvaluate_untouched (state : (s.slot i).state = .empty ∨ (s.slot i).state = .settling ∨
    (s.slot i).state = .identify ∨ (s.slot i).state = .standby ∨ (s.slot i).state = .faulted ∨
    (s.slot i).state = .lockedOut ∨ (s.slot i).state = .resync) : s.reEvaluate i = s := by
  rcases state with h | h | h | h | h | h | h <;> simp only [State.reEvaluate, h]

theorem reEvaluate_trims (state : (s.slot i).state = .powered ∨ (s.slot i).state = .raising ∨
    (s.slot i).state = .restating ∨ (s.slot i).state = .reducing) : s.reEvaluate i = s.reTrim i := by
  rcases state with h | h | h | h <;> simp only [State.reEvaluate, h]

theorem standingPower_reTrim (limit : Nat) : ((s.reTrim i).slot i).standing limit = (s.slot i).standing limit := by
  have same := standing_retrimmed (s.slot i) (s.policy i).maxPower 0 limit
  rw [slot_reTrim, ← same]
  rfl

theorem reEvaluate_stands (left : s.leftAt i (s.policy i).maxPower = true)
    (state : (s.slot i).state = .waiting ∨ (s.slot i).state = .parked ∨ (s.slot i).state = .offering ∨
      (s.slot i).state = .powering) (low : (s.slot i).standing (s.policy i).maxPower ≤ (s.policy i).maxPower) :
    s.reEvaluate i = s.reTrim i := by
  rw [← leavesPoint_eq] at left
  have above : ¬(s.policy i).maxPower < (s.reTrim i).standingPower i := by
    rw [State.standingPower, policy_reTrim, standingPower_reTrim]
    omega
  rcases state with h | h | h | h <;> simp only [State.reEvaluate, h, left, if_true, above, if_false]

theorem reEvaluate_undoes (left : s.leftAt i (s.policy i).maxPower = true)
    (above : (s.policy i).maxPower < (s.slot i).standing (s.policy i).maxPower) :
    ((s.slot i).state = .offering → s.reEvaluate i = (s.reTrim i).undoOffer i) ∧
      ((s.slot i).state = .powering → s.reEvaluate i = (s.reTrim i).undoPowering i) := by
  rw [← leavesPoint_eq] at left
  have above' : (s.policy i).maxPower < (s.reTrim i).standingPower i := by
    rw [State.standingPower, policy_reTrim, standingPower_reTrim]
    exact above
  constructor <;> intro h <;> simp only [State.reEvaluate, h, left, if_true, above']

/-- A list with no point left (R51, R52). -/
theorem reEvaluate_over (unleft : s.leftAt i (s.policy i).maxPower = false) :
    ((s.slot i).state = .waiting ∨ (s.slot i).state = .parked ∨ (s.slot i).state = .powering →
        s.reEvaluate i = s.overMax i) ∧
      ((s.slot i).state = .offering → s.reEvaluate i = ((s.linkWithdraw i).linkAsk i .cut).overMax i) := by
  rw [← leavesPoint_eq] at unleft
  constructor
  · rintro (h | h | h) <;> simp only [State.reEvaluate, h, unleft, Bool.false_eq_true, if_false]
  · intro h
    simp only [State.reEvaluate, h, unleft, Bool.false_eq_true, if_false]

end

/-! ### The AE's part (R150, step 2) -/

section
variable {s : State} {i : SlotId}

theorem modSlot_self {f : SlotRec → SlotRec} (same : f (s.slot i) = s.slot i) : s.modSlot i f = s := by
  have slots : updateAt s.slots i f = s.slots := by
    rw [updateAt, show f s.slots[i.val] = s.slots[i.val] from same, Vector.set_getElem_self]
  rw [State.modSlot, slots]

/-- A step of which the SS sent nothing. -/
theorem takePolicy_silent (silent : (s.slot i).outbox = []) (state : (s.slot i).state ≠ .resync) : s.takePolicy i = s := by
  have same : (s.modSlot i fun r => { r with outbox := [] }) = s := modSlot_self (by rw [← silent])
  unfold State.takePolicy
  dsimp only
  rw [same, if_neg state, silent, List.foldl_nil]

theorem takePolicy_resync (silent : (s.slot i).outbox = []) (state : (s.slot i).state = .resync) :
    s.takePolicy i = (s.modEntry i fun e => { e with claim := (s.policy i).maxPower }).evalExcess := by
  have same : (s.modSlot i fun r => { r with outbox := [] }) = s := modSlot_self (by rw [← silent])
  unfold State.takePolicy
  dsimp only
  rw [same, if_pos state, silent, List.foldl_nil]

theorem takePolicy_noticed {n : Notice} (sent : (s.slot i).outbox = [n]) (state : (s.slot i).state ≠ .resync) :
    s.takePolicy i = (s.modSlot i fun r => { r with outbox := [] }).account i n := by
  unfold State.takePolicy
  dsimp only
  rw [if_neg (by rw [slot_modSlot_same]; exact state), sent, List.foldl_cons, List.foldl_nil]

/-- The end of a slot's RESYNC leaves the claims, the orders and the reclaim alone. -/
theorem resyncConcludes_facts (s : State) (i : SlotId) (n : Notice) :
    (s.resyncConcludes i n).slots = s.slots ∧ (s.resyncConcludes i n).links = s.links ∧
      (s.resyncConcludes i n).cu = s.cu ∧
      (∀ j, ((s.resyncConcludes i n).entry j).claim = (s.entry j).claim ∧
        ((s.resyncConcludes i n).entry j).mark = (s.entry j).mark) ∧
      (s.resyncConcludes i n).ae = { s.ae with
        slots := (s.resyncConcludes i n).ae.slots, resyncActive := (s.resyncConcludes i n).ae.resyncActive } := by
  have entries (j : SlotId) : ((s.modEntry i fun e => { e with resync := false }).entry j).claim = (s.entry j).claim ∧
      ((s.modEntry i fun e => { e with resync := false }).entry j).mark = (s.entry j).mark := by
    by_cases same : j = i
    · rw [same, entry_modEntry_same]
      exact ⟨rfl, rfl⟩
    · rw [entry_modEntry_other _ _ same]
      exact ⟨rfl, rfl⟩
  unfold State.resyncConcludes
  split
  · dsimp only
    split
    · exact ⟨rfl, rfl, rfl, entries, rfl⟩
    · exact ⟨rfl, rfl, rfl, entries, rfl⟩
  · exact ⟨rfl, rfl, rfl, fun _ => ⟨rfl, rfl⟩, rfl⟩

theorem account_admitKept (s : State) (i : SlotId) : (s.admitKept i).ae.account = s.ae.account := by
  unfold State.admitKept
  split
  · exact account_admitDemand s i
  · rfl

variable (idle : s.ae.reclaim.active = false) (calm : s.ae.excess = false) (within : s.ae.committed ≤ s.ae.effective)
include idle calm within

/-- A fault taken by the AE with no reclaim active: the claim freed (R5, R85). -/
theorem account_faulted (cause : FaultCause) : s.account i (.faulted cause) =
    (s.booked i AeSlot.freed (s.ae.grantOrder.filter (· != i))).resyncConcludes i (.faulted cause) := by
  rw [State.account]
  show (State.judgeNotice (s.takeHolding i 0) i _ _).resyncConcludes i _ = _
  rw [takeHolding_zero calm within, judgeNotice_idle _ _ _ (by exact idle)]

/-- RELEASED taken by the AE: the claim freed, and the slot's own entry where it keeps a list in STANDBY (R25). -/
theorem account_released : s.account i .released =
    ((s.booked i AeSlot.freed (s.ae.grantOrder.filter (· != i))).admitKept i).resyncConcludes i .released := by
  rw [State.account]
  show (State.judgeNotice ((s.takeHolding i 0).admitKept i) i _ _).resyncConcludes i _ = _
  rw [takeHolding_zero calm within, judgeNotice_idle]
  rw [reclaim_of_account (account_admitKept (s.booked i AeSlot.freed (s.ae.grantOrder.filter (· != i))) i)]
  exact idle

end

end Sys2Proof.Machine
end

section
/-! The shared step of SET_SLOT_POLICY as one (R150): its end at the watch, and that it leaves an AE that makes no decision
in that rest. -/

namespace Sys2Proof.Machine

/-! ### The reduction called for and the watch (R142, R152) -/

/-- The end of the policy step: the reduction that it calls for, then the watch. -/
def State.policyEnded (p : State) (i : SlotId) (w : Watch) : State := ((p.policyReduce i).setWatch i w).watchCheck i

section
variable {p : State} {i : SlotId} {w : Watch}

theorem policyReduce_low (low : (p.slot i).standing (p.policy i).maxPower ≤ (p.policy i).maxPower) :
    p.policyReduce i = p := by
  unfold State.policyReduce
  dsimp only
  rw [if_pos (show p.standingPower i ≤ _ from low)]

theorem policyReduce_reduces (state : (p.slot i).state = .powered ∨ (p.slot i).state = .reducing)
    (above : (p.policy i).maxPower < (p.slot i).standing (p.policy i).maxPower) {l : DemandList}
    (current : (p.slot i).current = some l) :
    p.policyReduce i = p.takeReduce i l.policyTarget.1 l.policyTarget.2 .policy := by
  unfold State.policyReduce
  dsimp only
  rw [if_neg (by rw [State.standingPower]; omega), current]
  rcases state with h | h <;> rw [h] <;> rfl

theorem policyReduce_owes (state : (p.slot i).state = .raising ∨ (p.slot i).state = .restating)
    (above : (p.policy i).maxPower < (p.slot i).standing (p.policy i).maxPower) :
    p.policyReduce i = p.owe i { origin := .policy, targetPower := (p.policy i).maxPower } := by
  unfold State.policyReduce
  dsimp only
  rw [if_neg (by rw [State.standingPower]; omega)]
  rcases state with h | h <;> rw [h]

theorem policyReduce_ae : (p.policyReduce i).ae = p.ae := by
  unfold State.policyReduce
  dsimp only
  split
  · rfl
  · split
    all_goals first | rfl | exact takeReduce_ae ..

theorem policyEnded_ae : (p.policyEnded i w).ae = p.ae := by
  rw [State.policyEnded, watchCheck_ae, setWatch_ae, policyReduce_ae]

theorem policyEnded_slot : (p.policyEnded i w).slot i =
    ({ (p.policyReduce i).slot i with watch := some w } : SlotRec).answered (p.policy i).maxPower := by
  have policy : (p.policyReduce i).policy i = p.policy i := by
    have frame : SlotFrame i p (p.policyReduce i) := by simp
    obtain ⟨⟨-, -, -, cu, -⟩, -⟩ := frame
    rw [State.policy, cu]
    rfl
  rw [State.policyEnded, slot_watchCheck, slot_setWatch, policy_setWatch, policy]

theorem policyEnded_rest : (p.policyEnded i w).link i = (p.policyReduce i).link i ∧
    (p.policyEnded i w).eu = (p.policyReduce i).eu := ⟨rfl, rfl⟩

theorem policyEnded_frame : SlotFrame i p (p.policyEnded i w) := by simp [State.policyEnded]

/-- A slot that stands at no more than the new max power answers at once. -/
theorem policyEnded_low (low : (p.slot i).standing (p.policy i).maxPower ≤ (p.policy i).maxPower)
    (limit : w.limit = (p.policy i).maxPower) :
    (p.policyEnded i w).slot i = { p.slot i with
      watch := none, outbox := (p.slot i).outbox ++ [.answer w.tag w.num .ok (byteOf w.found)] } ∧
    (p.policyEnded i w).link i = p.link i ∧ (p.policyEnded i w).eu = p.eu := by
  rw [policyEnded_slot, policyEnded_rest.1, policyEnded_rest.2, policyReduce_low low]
  exact ⟨SlotRec.answered_reached rfl (by rw [limit]; exact low), rfl, rfl⟩

/-- One that stands above it after the step's reduction keeps the watch. -/
theorem policyEnded_high {r : SlotRec} (reduced : (p.policyReduce i).slot i = r)
    (above : w.limit < r.standing (p.policy i).maxPower) :
    (p.policyEnded i w).slot i = { r with watch := some w } := by
  rw [policyEnded_slot, reduced]
  exact SlotRec.answered_above rfl above

end

/-! ### The step -/

/-- The SS's part of the policy step. -/
def State.policyPart (y : State) (i : SlotId) : State := ((y.reEvaluate i).reClass i).applyAdmit i

/-- The policy step but for the AE's decisions (R150, steps 1 to 3, and the watch). -/
def State.policyActed (y : State) (i : SlotId) (w : Watch) : State := ((y.policyPart i).takePolicy i).policyEnded i w

theorem policyStep_acted {y : State} {q : PolicyReq} (runs : y.runs q.tag q.num = true) :
    y.policyStep q = (y.policyActed q.slot
      { tag := q.tag, num := q.num, limit := (y.policy q.slot).maxPower, found := (y.slot q.slot).state.code }).aeRules
        true := by
  have parted : EngineFrame y (y.policyPart q.slot) :=
    SlotFrame.engine (i := q.slot) (by simp [State.policyPart])
  have reduced : EngineFrame y (((y.policyPart q.slot).takePolicy q.slot).policyReduce q.slot) :=
    ((EngineFrame.takePolicy_iff q.slot).mpr parted).trans (SlotFrame.engine (i := q.slot) (by simp))
  obtain ⟨-, -, -, cu, -⟩ := reduced
  have still_runs : (((y.policyPart q.slot).takePolicy q.slot).policyReduce q.slot).runs q.tag q.num = true := by
    rw [← runs, State.runs, State.runs, State.cmd, cu]
    rfl
  have policy : (((y.policyPart q.slot).takePolicy q.slot).policyReduce q.slot).policy q.slot = y.policy q.slot := by
    rw [State.policy, cu]
    rfl
  unfold State.policyStep
  dsimp only
  show State.aeRules (if (((y.policyPart q.slot).takePolicy q.slot).policyReduce q.slot).runs q.tag q.num = true then _
    else _) true = _
  rw [if_pos still_runs]
  show State.aeRules (State.watchCheck (State.setWatch _ q.slot { limit := (State.policy (((y.policyPart q.slot).takePolicy
    q.slot).policyReduce q.slot) q.slot).maxPower, .. }) q.slot) true = _
  rw [policy]
  rfl

/-! ### A list with no point left (R51, R52) -/

section
variable (s : State) (i : SlotId)

theorem slot_overMax : (s.overMax i).slot i =
    ((if (s.slot i).en then ((s.slot i).reTrim (s.policy i).maxPower).powerless
      else (s.slot i).reTrim (s.policy i).maxPower).struck .badDemand (s.policy i).classLimit s.holdoffTimer).sending
        (.faulted .badDemand) := by
  rw [State.overMax, slot_fault]
  show SlotRec.sending (SlotRec.struck (if ((s.modSlot i fun r => r.reTrim (s.policy i).maxPower).slot i).en then
    ((s.modSlot i fun r => r.reTrim (s.policy i).maxPower).slot i).powerless else
    (s.modSlot i fun r => r.reTrim (s.policy i).maxPower).slot i) _ _ _) _ = _
  rw [slot_modSlot_same]
  rfl

theorem overMax_ae : (s.overMax i).ae = (s.leaveQueue i).ae := by
  rw [State.overMax, fault_ae]
  rfl

theorem overMax_eu : (s.overMax i).eu =
    (s.event .demandBad (some i) 2 (s.policy i).maxPower).eu.faulted i .badDemand (s.slot i).strikes := by
  rw [State.overMax, fault_eu]
  show Eu.faulted (s.eu.append .demandBad (some i) 2 (BitVec.ofNat 16 ((s.modSlot i fun r => r.reTrim
    (s.policy i).maxPower).policy i).maxPower)) i _ ((s.modSlot i fun r => r.reTrim (s.policy i).maxPower).slot i).strikes = _
  rw [slot_modSlot_same]
  rfl

end

/-! ### What the AE takes of the step -/

section
variable {y : State} {i : SlotId}

/-- What the re-evaluation may be. -/
theorem reEvaluate_cases (y : State) (i : SlotId) : y.reEvaluate i = y ∨ y.reEvaluate i = y.reTrim i ∨
    y.reEvaluate i = (y.reTrim i).undoOffer i ∨ y.reEvaluate i = (y.reTrim i).undoPowering i ∨
    y.reEvaluate i = y.overMax i ∨ y.reEvaluate i = ((y.linkWithdraw i).linkAsk i .cut).overMax i := by
  unfold State.reEvaluate
  dsimp only
  repeat' split
  all_goals simp

theorem applyAdmit_resync (s : State) (i : SlotId) (resync : ((s.applyAdmit i).slot i).state = .resync) :
    (s.slot i).state = .resync := by
  unfold State.applyAdmit at resync
  split at resync
  · rw [slot_enter] at resync; cases resync
  · split at resync
    · rw [slot_joinQueue] at resync; cases resync
    · exact resync

/-- What the SS's part leaves in the outbox of a slot whose notices have all been taken: nothing, RELEASED from an offer
or a power-up undone, or FAULTED from a list with no point left. -/
theorem policyPart_notices (silent : (y.slot i).outbox = []) :
    ((y.policyPart i).slot i).outbox = [] ∧ (((y.policyPart i).slot i).state = .resync → (y.slot i).state = .resync) ∨
      (((y.policyPart i).slot i).state ≠ .resync ∧ (((y.policyPart i).slot i).outbox = [.released] ∨
        ((y.policyPart i).slot i).outbox = [.faulted .badDemand])) := by
  have judged : ((y.reEvaluate i).slot i).outbox = [] ∧ (((y.reEvaluate i).slot i).state = .resync →
      (y.slot i).state = .resync) ∨ ((y.reEvaluate i).slot i).state ≠ .resync ∧
      (((y.reEvaluate i).slot i).outbox = [.released] ∨ ((y.reEvaluate i).slot i).outbox = [.faulted .badDemand]) := by
    have over_ (u : State) (same : (u.slot i).outbox = []) :
        ((u.overMax i).slot i).state ≠ .resync ∧ ((u.overMax i).slot i).outbox = [.faulted .badDemand] := by
      rw [slot_overMax]
      refine ⟨?_, ?_⟩
      · show (if _ then SlotState.faulted else SlotState.lockedOut) ≠ .resync
        split_ifs <;> exact SlotState.noConfusion
      · split <;> exact congrArg (· ++ [Notice.faulted .badDemand]) same
    rcases reEvaluate_cases y i with h | h | h | h | h | h <;> rw [h]
    · exact .inl ⟨silent, id⟩
    · rw [slot_reTrim]; exact .inl ⟨silent, id⟩
    · rw [slot_undoOffer, slot_reTrim]
      exact .inr ⟨by simp [SlotRec.sending], .inl (congrArg (· ++ [Notice.released]) silent)⟩
    · rw [slot_undoPowering, slot_reTrim]
      exact .inr ⟨by simp [SlotRec.sending], .inl (congrArg (· ++ [Notice.released]) silent)⟩
    · exact .inr ⟨(over_ y silent).1, .inr (over_ y silent).2⟩
    · have faulted := over_ ((y.linkWithdraw i).linkAsk i .cut) silent
      exact .inr ⟨faulted.1, .inr faulted.2⟩
  obtain ⟨state, outbox⟩ := slot_reClass (y.reEvaluate i) i
  rw [State.policyPart, outbox_applyAdmit, outbox]
  have before (resync : ((((y.reEvaluate i).reClass i).applyAdmit i).slot i).state = .resync) :=
    state.symm.trans (applyAdmit_resync _ _ resync)
  exact judged.imp (fun ⟨none_, unsynced⟩ => ⟨none_, fun resync => unsynced (before resync)⟩)
    fun ⟨unsynced, sent⟩ => ⟨fun resync => unsynced (before resync), sent⟩

section
variable {s t : State} (same : t.ae.account = s.ae.account)
include same

theorem hold_of_account : t.ae.hold = s.ae.hold := show t.ae.account.hold = s.ae.account.hold by rw [same]

theorem resyncActive_of_account : t.ae.resyncActive = s.ae.resyncActive :=
  show t.ae.account.resyncActive = s.ae.account.resyncActive by rw [same]

end

/-- The SS's part of the step leaves the account alone, the admission queue aside. -/
theorem policyPart_account (y : State) (i : SlotId) : (y.policyPart i).ae.account = y.ae.account :=
  (AccountFrame.policyPart y i).1

theorem resyncConcludes_frame (s : State) (i : SlotId) (n : Notice) : SlotFrame i s (s.resyncConcludes i n) := by
  unfold State.resyncConcludes
  split
  · dsimp only
    have entry : SlotFrame i s (s.modEntry i fun e => { e with resync := false }) := by simp
    split
    · exact entry
    · exact entry
  · exact .refl i s

/-- An AE that makes no decision: no reclaim active, and committed within EB. -/
structure Restful (s : State) : Prop where
  idle : s.ae.reclaim.active = false
  calm : s.ae.excess = false
  within : s.ae.committed ≤ s.ae.effective

theorem Restful.of_account {s t : State} (same : t.ae.account = s.ae.account) (h : Restful s) : Restful t :=
  ⟨by rw [reclaim_of_account same]; exact h.idle, (excess_of_account same).trans h.calm, by
    rw [committed_of_account same, effective_of_account same]; exact h.within⟩

/-- A notice that frees the claim, taken at rest: the orders and one claim apart, the AE's record stands. -/
theorem account_freeing {s : State} {i : SlotId} {n : Notice} (rest : Restful s)
    (freeing : n = .released ∨ n = .faulted .badDemand) : SlotFrame i s (s.account i n) ∧
      (s.account i n).ae.hold = s.ae.hold ∧ (s.account i n).ae.reclaim.active = false ∧
      (s.account i n).ae.excess = false := by
  obtain ⟨idle, calm, within⟩ := rest
  have booked : SlotFrame i s (s.booked i AeSlot.freed (s.ae.grantOrder.filter (· != i))) :=
    (SlotFrame.modEntry_iff (i := i) AeSlot.freed).mpr (.refl i s)
  rcases freeing with rfl | rfl
  · rw [account_released idle calm within]
    obtain ⟨-, -, -, -, ae⟩ := resyncConcludes_facts
      ((s.booked i AeSlot.freed (s.ae.grantOrder.filter (· != i))).admitKept i) i .released
    have kept : SlotFrame i s ((s.booked i AeSlot.freed (s.ae.grantOrder.filter (· != i))).admitKept i) := by
      unfold State.admitKept State.admitDemand
      split_ifs
      · exact (SlotFrame.joinQueue_iff).mpr booked
      · exact (SlotFrame.enter_iff _).mpr booked
      · exact booked
    have same := account_admitKept (s.booked i AeSlot.freed (s.ae.grantOrder.filter (· != i))) i
    refine ⟨kept.trans (resyncConcludes_frame _ i _), ?_, ?_, ?_⟩ <;> rw [ae]
    · exact (hold_of_account same).trans rfl
    · exact (congrArg Reclaim.active (reclaim_of_account same)).trans idle
    · exact (excess_of_account same).trans calm
  · rw [account_faulted idle calm within]
    obtain ⟨-, -, -, -, ae⟩ := resyncConcludes_facts
      (s.booked i AeSlot.freed (s.ae.grantOrder.filter (· != i))) i (.faulted .badDemand)
    refine ⟨booked.trans (resyncConcludes_frame _ i _), ?_, ?_, ?_⟩ <;> rw [ae]
    · rfl
    · exact idle
    · exact calm

/-- The step, taken at rest, touches no other slot and leaves the AE at rest, but for the excess that a RESYNC slot's
claim may bring. -/
theorem policyActed_rests (w : Watch) (rest : Restful y) (silent : (y.slot i).outbox = []) :
    SlotFrame i y (y.policyActed i w) ∧ (y.policyActed i w).ae.hold = y.ae.hold ∧
      (y.policyActed i w).ae.reclaim.active = false ∧
      ((y.policyActed i w).ae.excess = false ∨
        (y.slot i).state = .resync ∧ (y.policyActed i w).ae.resyncActive = y.ae.resyncActive) := by
  have part : SlotFrame i y (y.policyPart i) := by simp [State.policyPart]
  have account := policyPart_account y i
  have taken : SlotFrame i (y.policyPart i) ((y.policyPart i).takePolicy i) ∧
      ((y.policyPart i).takePolicy i).ae.hold = y.ae.hold ∧
      ((y.policyPart i).takePolicy i).ae.reclaim.active = false ∧
      (((y.policyPart i).takePolicy i).ae.excess = false ∨
        (y.slot i).state = .resync ∧ ((y.policyPart i).takePolicy i).ae.resyncActive = y.ae.resyncActive) := by
    have hold : (y.policyPart i).ae.hold = y.ae.hold := hold_of_account account
    have resync : (y.policyPart i).ae.resyncActive = y.ae.resyncActive := resyncActive_of_account account
    have parted := rest.of_account account
    rcases policyPart_notices silent with ⟨none_, before⟩ | ⟨unsynced, sent⟩
    · by_cases state : ((y.policyPart i).slot i).state = .resync
      · rw [takePolicy_resync none_ state]
        refine ⟨SlotFrame.evalExcess ((SlotFrame.modEntry_iff _).mpr (.refl i _)), ?_, ?_, .inr ⟨?_, ?_⟩⟩
        · rw [evalExcess_ae]; exact hold
        · rw [evalExcess_ae]; exact parted.idle
        · exact before state
        · rw [evalExcess_ae]; exact resync
      · rw [takePolicy_silent none_ state]
        exact ⟨.refl i _, hold, parted.idle, .inl parted.calm⟩
    · have emptied : Restful ((y.policyPart i).modSlot i fun r => { r with outbox := [] }) :=
        ⟨parted.idle, parted.calm, parted.within⟩
      have frame : SlotFrame i (y.policyPart i) ((y.policyPart i).modSlot i fun r => { r with outbox := [] }) := by simp
      obtain ⟨n, one, freeing⟩ : ∃ n, ((y.policyPart i).slot i).outbox = [n] ∧
          (n = .released ∨ n = .faulted .badDemand) := by
        rcases sent with h | h
        · exact ⟨_, h, .inl rfl⟩
        · exact ⟨_, h, .inr rfl⟩
      rw [takePolicy_noticed one unsynced]
      obtain ⟨taken, hold', idle', calm'⟩ := account_freeing (i := i) emptied freeing
      exact ⟨frame.trans taken, hold'.trans hold, idle', .inl calm'⟩
  obtain ⟨frame, facts⟩ := taken
  rw [State.policyActed, policyEnded_ae]
  exact ⟨(part.trans frame).trans policyEnded_frame, facts⟩

end

end Sys2Proof.Machine
end

section
/-! SET_SLOT_POLICY by the slot's state (R51, R52, R150 to R152): what the step makes of a slot's record in each. -/

namespace Sys2Proof.Machine

theorem leaveQueue_ae_congr {s t : State} (i : SlotId) (same : t.ae = s.ae) : (t.leaveQueue i).ae = (s.leaveQueue i).ae := by
  unfold State.leaveQueue
  dsimp only
  rw [same]

section
variable {y : State} {i : SlotId} {w : Watch}

/-- The watch's answer (R142). -/
def Watch.answer (w : Watch) : Notice := .answer w.tag w.num .ok (byteOf w.found)

theorem policyActed_silent (silent : ((y.policyPart i).slot i).outbox = [])
    (state : ((y.policyPart i).slot i).state ≠ .resync) : y.policyActed i w = (y.policyPart i).policyEnded i w := by
  rw [State.policyActed, takePolicy_silent silent state]

/-- A step that sends nothing and leaves the slot at no more than its max power. -/
theorem policyActed_stands {p : State} {r : SlotRec} (part : y.policyPart i = p) (slot : p.slot i = r)
    (policy : p.policy i = y.policy i) (silent : r.outbox = []) (state : r.state ≠ .resync)
    (low : r.standing (y.policy i).maxPower ≤ (y.policy i).maxPower) (limit : w.limit = (y.policy i).maxPower) :
    (y.policyActed i w).slot i = { r with watch := none, outbox := [w.answer] } ∧
      (y.policyActed i w).link i = p.link i ∧ (y.policyActed i w).ae = p.ae ∧ (y.policyActed i w).eu = p.eu := by
  subst slot
  rw [policyActed_silent (by rw [part]; exact silent) (by rw [part]; exact state), part]
  obtain ⟨slot, link, eu⟩ := policyEnded_low (w := w) (by rw [policy]; exact low) (by rw [policy]; exact limit)
  rw [silent, List.nil_append] at slot
  exact ⟨slot, link, policyEnded_ae, eu⟩

/-! ### Slots that stand at no more than the max power -/

/-- The lists of a slot without one that counts are not marked anew (R51). -/
theorem policyPart_untouched (state : (y.slot i).state = .empty ∨ (y.slot i).state = .settling ∨
    (y.slot i).state = .identify ∨ (y.slot i).state = .standby ∨ (y.slot i).state = .faulted ∨
    (y.slot i).state = .lockedOut ∨ (y.slot i).state = .resync) : y.policyPart i = y.reClass i := by
  have slot := slot_reClassed y i
  rw [State.policyPart, reEvaluate_untouched state, applyAdmit_stays] <;> rw [slot] <;> intro h <;>
    rcases state with k | k | k | k | k | k | k <;> exact absurd (k.symm.trans h) SlotState.noConfusion

theorem policyPart_trims (trims : y.reEvaluate i = y.reTrim i)
    (unparks : (y.slot i).state = .waiting → (y.policy i).admits = true)
    (unjoined : (y.slot i).state = .parked → (y.policy i).admits = false) :
    y.policyPart i = (y.reTrim i).reClass i := by
  have policy : ((y.reTrim i).reClass i).policy i = y.policy i := policy_reTrim ..
  rw [State.policyPart, trims, applyAdmit_stays] <;> rw [slot_reTrim_reClass, policy]
  · exact unparks
  · exact unjoined

theorem policyActed_untouched (silent : (y.slot i).outbox = []) (state : (y.slot i).state = .empty ∨
    (y.slot i).state = .settling ∨ (y.slot i).state = .identify ∨ (y.slot i).state = .standby ∨
    (y.slot i).state = .faulted ∨ (y.slot i).state = .lockedOut) (limit : w.limit = (y.policy i).maxPower) :
    (y.policyActed i w).slot i = { y.slot i with
        effClass := ((y.slot i).retrimmed (y.policy i).maxPower (y.policy i).classLimit).effClass
        watch := none, outbox := [w.answer] } ∧
      (y.policyActed i w).link i = y.link i ∧ (y.policyActed i w).ae = y.ae ∧ (y.policyActed i w).eu = y.eu := by
  refine policyActed_stands (policyPart_untouched (by tauto)) (slot_reClassed y i) rfl silent ?_ ?_ limit
  · rcases state with k | k | k | k | k | k <;> exact fun h => SlotState.noConfusion (k.symm.trans h)
  · unfold SlotRec.standing
    rcases state with k | k | k | k | k | k <;> simp [k]

/-- A slot that stays where it is, its lists marked anew (R51, R52). -/
theorem policyActed_trimmed (silent : (y.slot i).outbox = []) (trims : y.reEvaluate i = y.reTrim i)
    (unparks : (y.slot i).state = .waiting → (y.policy i).admits = true)
    (unjoined : (y.slot i).state = .parked → (y.policy i).admits = false) (state : (y.slot i).state ≠ .resync)
    (low : (y.slot i).standing (y.policy i).maxPower ≤ (y.policy i).maxPower) (limit : w.limit = (y.policy i).maxPower) :
    (y.policyActed i w).slot i = { (y.slot i).retrimmed (y.policy i).maxPower (y.policy i).classLimit with
        watch := none, outbox := [w.answer] } ∧
      (y.policyActed i w).link i = y.link i ∧ (y.policyActed i w).ae = y.ae ∧
      (y.policyActed i w).eu = (y.reTrim i).eu := by
  obtain ⟨slot, link, ae, eu⟩ := policyActed_stands (w := w) (policyPart_trims trims unparks unjoined)
    (slot_reTrim_reClass y i) (policy_reTrim y i i) silent state (by rw [standing_retrimmed]; exact low) limit
  exact ⟨slot, link.trans (link_reTrim y i i), ae.trans (reTrim_ae y i), eu⟩

theorem waiting_low (r : SlotRec) (limit : Nat) (state : r.state = .waiting ∨ r.state = .parked) :
    r.standing limit ≤ limit := by
  unfold SlotRec.standing
  rcases state with h | h <;> simp [h]

/-- A WAITING slot that parks (R151). -/
theorem policyActed_parks (silent : (y.slot i).outbox = []) (waiting : (y.slot i).state = .waiting)
    (left : y.leftAt i (y.policy i).maxPower = true) (refused : (y.policy i).admits = false)
    (limit : w.limit = (y.policy i).maxPower) :
    (y.policyActed i w).slot i = { (y.slot i).retrimmed (y.policy i).maxPower (y.policy i).classLimit with
        state := .parked, watch := none, outbox := [w.answer] } ∧
      (y.policyActed i w).link i = y.link i ∧ (y.policyActed i w).ae = (y.leaveQueue i).ae ∧
      (y.policyActed i w).eu = (y.reTrim i).eu := by
  have trims := reEvaluate_stands left (.inl waiting) (waiting_low _ _ (.inl waiting))
  have policy : ((y.reTrim i).reClass i).policy i = y.policy i := policy_reTrim ..
  have part : y.policyPart i = (((y.reTrim i).reClass i).leaveQueue i).enter i .parked := by
    rw [State.policyPart, trims, applyAdmit_parks (by rw [slot_reTrim_reClass]; exact waiting) (by rw [policy]; exact refused)]
  have slot : ((((y.reTrim i).reClass i).leaveQueue i).enter i .parked).slot i =
      { (y.slot i).retrimmed (y.policy i).maxPower (y.policy i).classLimit with state := .parked } := by
    rw [slot_enter, slot_leaveQueue, slot_reTrim_reClass]
  obtain ⟨slot, link, ae, eu⟩ := policyActed_stands (w := w) part slot policy silent SlotState.noConfusion (Nat.zero_le _) limit
  refine ⟨slot, link.trans (link_reTrim y i i), ae.trans ?_, eu⟩
  exact leaveQueue_ae_congr i (reTrim_ae y i)

/-- A PARKED slot that enters the queue (R151). -/
theorem policyActed_joins (silent : (y.slot i).outbox = []) (parked : (y.slot i).state = .parked)
    (left : y.leftAt i (y.policy i).maxPower = true) (admits : (y.policy i).admits = true)
    (limit : w.limit = (y.policy i).maxPower) :
    (y.policyActed i w).slot i = { (y.slot i).retrimmed (y.policy i).maxPower (y.policy i).classLimit with
        state := .waiting, watch := none, outbox := [w.answer] } ∧
      (y.policyActed i w).link i = y.link i ∧
      (y.policyActed i w).ae = { (y.leaveQueue i).ae with entryOrder := y.ae.entryOrder.filter (· != i) ++ [i] } ∧
      (y.policyActed i w).eu = (y.reTrim i).eu := by
  have trims := reEvaluate_stands left (.inr (.inl parked)) (waiting_low _ _ (.inr parked))
  have policy : ((y.reTrim i).reClass i).policy i = y.policy i := policy_reTrim ..
  have part : y.policyPart i = ((y.reTrim i).reClass i).joinQueue i := by
    rw [State.policyPart, trims, applyAdmit_joins (by rw [slot_reTrim_reClass]; exact parked) (by rw [policy]; exact admits)]
  have slot : (((y.reTrim i).reClass i).joinQueue i).slot i =
      { (y.slot i).retrimmed (y.policy i).maxPower (y.policy i).classLimit with state := .waiting } := by
    rw [slot_joinQueue, slot_reTrim_reClass]
  obtain ⟨slot, link, ae, eu⟩ := policyActed_stands (w := w) part slot policy silent SlotState.noConfusion (Nat.zero_le _) limit
  refine ⟨slot, link.trans (link_reTrim y i i), ae.trans ?_, eu⟩
  have same : ((y.reTrim i).reClass i).ae = y.ae := reTrim_ae y i
  rw [joinQueue_ae, leaveQueue_ae_congr i same, same]

/-! ### Slots that stand above it -/

/-- What an owed reduction becomes beside one that the policy calls for (R152, R155). -/
def SlotRec.owedPolicy (r : SlotRec) (maxPower : Nat) : Option Owed :=
  if r.owed.any (fun w => w.origin = .host) then r.owed else some { origin := .policy, targetPower := maxPower }

/-- An exchange in progress owes the reduction (R152). -/
theorem policyActed_owes (silent : (y.slot i).outbox = [])
    (state : (y.slot i).state = .raising ∨ (y.slot i).state = .restating)
    (above : (y.policy i).maxPower < (y.slot i).standing (y.policy i).maxPower) (limit : w.limit = (y.policy i).maxPower) :
    (y.policyActed i w).slot i = { (y.slot i).retrimmed (y.policy i).maxPower (y.policy i).classLimit with
        watch := some w, outbox := [], owed := (y.slot i).owedPolicy (y.policy i).maxPower } ∧
      (y.policyActed i w).link i = y.link i ∧ (y.policyActed i w).ae = y.ae ∧
      (y.policyActed i w).eu = (y.reTrim i).eu := by
  obtain ⟨p, part⟩ : ∃ p, (y.reTrim i).reClass i = p := ⟨_, rfl⟩
  have policy : p.policy i = y.policy i := by rw [← part]; exact policy_reTrim ..
  have slot := slot_reTrim_reClass y i
  rw [part] at slot
  have parted := (policyPart_trims (reEvaluate_trims (by tauto))
    (fun h => by rcases state with k | k <;> rw [k] at h <;> cases h)
    (fun h => by rcases state with k | k <;> rw [k] at h <;> cases h)).trans part
  have silent' : (p.slot i).outbox = [] := by rw [slot]; exact silent
  rw [policyActed_silent (by rw [parted]; exact silent')
    (by rw [parted, slot]; exact fun h => by rcases state with k | k <;> exact SlotState.noConfusion (k.symm.trans h)), parted]
  have above' : (p.policy i).maxPower < (p.slot i).standing (p.policy i).maxPower := by
    rw [policy, slot, standing_retrimmed]
    exact above
  have owes := policyReduce_owes (i := i) (p := p) (by rw [slot]; exact state) above'
  have owed : (p.policyReduce i).slot i = { p.slot i with owed := (y.slot i).owedPolicy (y.policy i).maxPower } := by
    rw [owes, State.owe, slot_modSlot_same, policy, slot]
    simp [SlotRec.owedPolicy, SlotRec.retrimmed]
  refine ⟨?_, ?_, ?_, ?_⟩
  · rw [policyEnded_high (w := w) owed (by
      rw [limit, ← policy]; exact above'), slot]
    simp only [SlotRec.mk.injEq, true_and, and_true]
    exact silent
  · rw [policyEnded_rest.1, owes]
    show p.link i = _
    rw [← part]
    exact link_reTrim y i i
  · rw [policyEnded_ae, ← part]
    exact reTrim_ae y i
  · rw [policyEnded_rest.2, owes, ← part]
    rfl

end

end Sys2Proof.Machine
end

section
/-! SET_SLOT_POLICY where power is to be given up or the slot faults (R7, R51, R52, R152). -/

namespace Sys2Proof.Machine

section
variable {y : State} {i : SlotId} {w : Watch}

/-! ### Reductions started by the policy (R152) -/

section
variable (silent : (y.slot i).outbox = []) (state : (y.slot i).state = .powered ∨ (y.slot i).state = .reducing)
  (above : (y.policy i).maxPower < (y.slot i).grantedPower) {l : DemandList} (current : (y.slot i).current = some l)
include silent state above current

/-- The slot record marked anew stands above the max power, so the step asks for a reduction. -/
theorem policyActed_reduces : ∃ p : State, p.slot i = (y.slot i).retrimmed (y.policy i).maxPower (y.policy i).classLimit ∧
    p.link i = y.link i ∧ p.ae = y.ae ∧ p.eu = (y.reTrim i).eu ∧ p.cu = y.cu ∧ p.policy i = y.policy i ∧
    y.policyActed i w = p.policyEnded i w ∧
    p.policyReduce i = p.takeReduce i (l.trim (y.policy i).maxPower).policyTarget.1
      (l.trim (y.policy i).maxPower).policyTarget.2 .policy := by
  have standing : (y.slot i).standing (y.policy i).maxPower = (y.slot i).grantedPower := by
    unfold SlotRec.standing
    rcases state with k | k <;> rw [k]
  have policy : ((y.reTrim i).reClass i).policy i = y.policy i := policy_reTrim ..
  have slot := slot_reTrim_reClass y i
  have parted := policyPart_trims (reEvaluate_trims (by tauto))
    (fun h => by rcases state with k | k <;> rw [k] at h <;> cases h)
    (fun h => by rcases state with k | k <;> rw [k] at h <;> cases h)
  refine ⟨(y.reTrim i).reClass i, slot, link_reTrim y i i, reTrim_ae y i, rfl, reTrim_cu y i, policy, ?_, ?_⟩
  · rw [policyActed_silent (by rw [parted, slot]; exact silent)
      (by rw [parted, slot]; exact fun h => by rcases state with k | k <;> exact SlotState.noConfusion (k.symm.trans h)), parted]
  · refine policyReduce_reduces (by rw [slot]; exact state) (by rw [policy, slot, standing_retrimmed, standing]; exact above) ?_
    rw [slot]
    show (y.slot i).current.map _ = _
    rw [current]
    rfl

end

/-- The record of a slot that stands above the max power after the reduction that it began keeps the watch. -/
theorem ended_reducing {p : State} {r : SlotRec} (reduced : (p.policyReduce i).slot i = r) (state : r.state = .reducing)
    (above : w.limit < r.grantedPower) : (p.policyEnded i w).slot i = { r with watch := some w } := by
  refine policyEnded_high reduced ?_
  unfold SlotRec.standing
  rw [state]
  exact above

theorem grantedPower_retrimmed (r : SlotRec) (maxPower classLimit : Nat) :
    (r.retrimmed maxPower classLimit).grantedPower = r.grantedPower := by
  unfold SlotRec.grantedPower SlotRec.retrimmed
  cases r.current with
  | none => rfl
  | some l => exact powerAt_trim l maxPower r.granted

section
variable (silent : (y.slot i).outbox = []) (above : (y.policy i).maxPower < (y.slot i).grantedPower)
  {l : DemandList} (current : (y.slot i).current = some l) (limit : w.limit = (y.policy i).maxPower)
include silent above current limit

theorem policyActed_powered (powered : (y.slot i).state = .powered) :
    let aim := (l.trim (y.policy i).maxPower).policyTarget
    (y.policyActed i w).slot i = { ((y.slot i).retrimmed (y.policy i).maxPower (y.policy i).classLimit).reducingTo aim.1
        aim.2 .policy (y.cu.settings.reduceSteps * 10) with restated := none, watch := some w, outbox := [] } ∧
      (y.policyActed i w).ae = y.ae ∧
      ((y.slot i).restated = none → (y.policyActed i w).eu = (y.reTrim i).eu ∧
        (y.policyActed i w).link i = (y.link i).request (.reduce aim.1 aim.2) y.cu.settings.retryLimit) ∧
      ((y.slot i).restated.isSome = true →
        (y.policyActed i w).eu = (y.reTrim i).eu.append .demandRefused (some i) 8
          (BitVec.ofNat 16 (y.slot i).grantedPower) ∧
        (y.policyActed i w).link i =
          ((y.link i).ask .refuse).request (.reduce aim.1 aim.2) y.cu.settings.retryLimit) := by
  intro aim
  obtain ⟨p, slot, link, ae, eu, cu, policy, ended, reduces⟩ :=
    policyActed_reduces (w := w) silent (.inl powered) above current
  have granted := grantedPower_retrimmed (y.slot i) (y.policy i).maxPower (y.policy i).classLimit
  have above' : w.limit < ((y.slot i).retrimmed (y.policy i).maxPower (y.policy i).classLimit).grantedPower := by
    rw [limit, granted]; exact above
  have powered_p : (p.slot i).state = .powered := by rw [slot]; exact powered
  rw [ended, policyEnded_rest.1, policyEnded_rest.2, policyEnded_ae]
  cases restated : (y.slot i).restated with
  | none =>
    have restated_p : (p.slot i).restated = none := by
      rw [slot]
      show (y.slot i).restated.map _ = none
      rw [restated]
      rfl
    rw [reduces, takeReduce_powered powered_p restated_p, link_beginReduce, beginReduce_eu, link, cu, eu]
    have reduced : (p.policyReduce i).slot i = ((y.slot i).retrimmed (y.policy i).maxPower
        (y.policy i).classLimit).reducingTo aim.1 aim.2 .policy (y.cu.settings.reduceSteps * 10) := by
      rw [reduces, takeReduce_powered powered_p restated_p, slot_beginReduce, slot, cu]
    refine ⟨?_, ae, fun _ => ⟨rfl, rfl⟩, nofun⟩
    rw [ended_reducing reduced rfl above']
    simp only [SlotRec.mk.injEq, true_and, and_true]
    refine ⟨?_, silent⟩
    rw [← restated_p, slot]
    rfl
  | some m =>
    have restated_p : (p.slot i).restated.isSome = true := by
      rw [slot]
      show ((y.slot i).restated.map _).isSome = true
      rw [restated]
      rfl
    have reduced : (p.policyReduce i).slot i = SlotRec.reducingTo
        { (y.slot i).retrimmed (y.policy i).maxPower (y.policy i).classLimit with restated := none }
        aim.1 aim.2 .policy (y.cu.settings.reduceSteps * 10) := by
      rw [reduces, takeReduce_pending powered_p restated_p, slot_beginReduce, slot_refuse, slot_modSlot_same, slot]
      show SlotRec.reducingTo _ _ _ _ (p.cu.settings.reduceSteps * 10) = _
      rw [cu]
    rw [reduces, takeReduce_pending powered_p restated_p, link_beginReduce, beginReduce_eu, link_refuse, link_modSlot,
      link, refuse_eu, slot_modSlot_same, slot]
    refine ⟨?_, ae, nofun, fun _ => ⟨?_, ?_⟩⟩
    · rw [ended_reducing reduced rfl above']
      simp only [SlotRec.mk.injEq, true_and, and_true, SlotRec.reducingTo]
      exact silent
    · rw [State.modSlot_eu, eu]
      show Eu.append _ _ _ (byteOf (SlotState.code (y.slot i).state)) (BitVec.ofNat 16 (SlotRec.grantedPower
        ((y.slot i).retrimmed (y.policy i).maxPower (y.policy i).classLimit))) = _
      rw [granted, powered]
      rfl
    · show LinkRec.request _ _ p.cu.settings.retryLimit = _
      rw [cu]

theorem policyActed_reducing (reducing : (y.slot i).state = .reducing) {d : Reduction}
    (reduction : (y.slot i).reduction = some d) :
    let aim := (l.trim (y.policy i).maxPower).policyTarget
    (y.policyActed i w).slot i = { (y.slot i).retrimmed (y.policy i).maxPower (y.policy i).classLimit with
        watch := some w, outbox := [], reduction := some (d.upgraded aim.1 aim.2 .policy) } ∧
      (y.policyActed i w).ae = y.ae ∧ (y.policyActed i w).eu = (y.reTrim i).eu ∧
      (y.policyActed i w).link i = if aim.2 < d.targetPower then
        (y.link i).request (.reduce aim.1 aim.2) y.cu.settings.retryLimit else y.link i := by
  intro aim
  obtain ⟨p, slot, link, ae, eu, cu, policy, ended, reduces⟩ :=
    policyActed_reduces (w := w) silent (.inr reducing) above current
  have granted := grantedPower_retrimmed (y.slot i) (y.policy i).maxPower (y.policy i).classLimit
  have reducing_p : (p.slot i).state = .reducing := by rw [slot]; exact reducing
  have reduction_p : (p.slot i).reduction = some d := by rw [slot]; exact reduction
  rw [ended, policyEnded_rest.1, policyEnded_rest.2, policyEnded_ae]
  have reduced : (p.policyReduce i).slot i = { (y.slot i).retrimmed (y.policy i).maxPower (y.policy i).classLimit with
      reduction := some (d.upgraded aim.1 aim.2 .policy) } := by
    rw [reduces, takeReduce_reducing reducing_p reduction_p, slot_upgrade, slot]
  rw [ended_reducing reduced reducing (by rw [limit]; exact lt_of_lt_of_eq above granted.symm), reduces,
    takeReduce_reducing reducing_p reduction_p, link_upgrade, link, cu, (upgrade_rest ..).2.1, eu]
  refine ⟨?_, ae, rfl, rfl⟩
  simp only [SlotRec.mk.injEq, true_and, and_true]
  exact silent

end

end

end Sys2Proof.Machine
end

section
/-! SET_SLOT_POLICY where the AE takes a part of the step (R7, R51, R52): an offer or a power-up undone, a list with no point
left, and a slot in RESYNC. -/

namespace Sys2Proof.Machine

section
variable {y p : State} {i : SlotId} {w : Watch} (part : y.policyPart i = p) (policy : p.policy i = y.policy i)
  (rest : Restful p) (limit : w.limit = (y.policy i).maxPower)
include part policy rest limit

/-- The step of a slot that it has put into STANDBY with a list: its claim is freed, and it enters WAITING or PARKED. -/
theorem policyActed_undone (standby : (p.slot i).state = .standby) (sent : (p.slot i).outbox = [.released])
    (kept : (p.slot i).current.isSome = true) (left : (p.entry i).resync = false) :
    (y.policyActed i w).slot i = { p.slot i with
        state := if (y.policy i).admits then .waiting else .parked, watch := none, outbox := [w.answer] } ∧
      (y.policyActed i w).link i = p.link i ∧ (y.policyActed i w).eu = p.eu ∧
      ((y.policyActed i w).entry i).claim = 0 ∧ ((y.policyActed i w).entry i).mark = .none ∧
      (y.policyActed i w).ae.grantOrder = p.ae.grantOrder.filter (· != i) ∧
      ((y.policy i).admits = true → (y.policyActed i w).ae.entryOrder = p.ae.entryOrder.filter (· != i) ++ [i]) := by
  obtain ⟨z, emptied⟩ : ∃ z, (p.modSlot i fun r => { r with outbox := [] }) = z := ⟨_, rfl⟩
  have slot_z : z.slot i = { p.slot i with outbox := [] } := by rw [← emptied, slot_modSlot_same]
  have policy_z : z.policy i = y.policy i := by rw [← emptied]; exact policy
  obtain ⟨q, booked⟩ : ∃ q, z.booked i AeSlot.freed (z.ae.grantOrder.filter (· != i)) = q := ⟨_, rfl⟩
  have slot_q : q.slot i = { p.slot i with outbox := [] } := by rw [← booked, slot_booked, slot_z]
  have policy_q : q.policy i = y.policy i := by rw [← booked]; exact policy_z
  have entry_q : q.entry i = (p.entry i).freed := by rw [← booked, entry_booked, ← emptied]; rfl
  have freed : q.freed i = true := by rw [State.freed, slot_q]; rfl
  have account : z.account i .released = q.admitDemand i := by
    rw [account_released (by rw [← emptied]; exact rest.idle) (by rw [← emptied]; exact rest.calm)
      (by rw [← emptied]; exact rest.within), booked, admitKept_enters (by rw [slot_q]; exact standby)
      (by rw [slot_q]; exact kept) freed, resyncConcludes_other]
    have same := congrArg AeSlot.resync (entry_of_account (account_admitDemand q i) i)
    exact same.trans (by rw [entry_q]; exact left)
  have taken : (y.policyPart i).takePolicy i = q.admitDemand i := by
    rw [part, takePolicy_noticed sent (by rw [standby]; exact SlotState.noConfusion), emptied, account]
  have eu_q : q.eu = p.eu := by rw [← booked, ← emptied]; rfl
  have link_q : q.link i = p.link i := by rw [← booked, ← emptied]; rfl
  have grants_q : q.ae.grantOrder = p.ae.grantOrder.filter (· != i) := by rw [← booked, ← emptied]; rfl
  have entries_q : q.ae.entryOrder = p.ae.entryOrder := by rw [← booked, ← emptied]; rfl
  have acted : y.policyActed i w = (q.admitDemand i).policyEnded i w := by rw [State.policyActed, taken]
  rw [acted]
  cases admits : (y.policy i).admits with
  | true =>
    rw [admitDemand_joins (by rw [policy_q]; exact admits)]
    have slot : (q.joinQueue i).slot i = { p.slot i with state := .waiting, outbox := [] } := by rw [slot_joinQueue, slot_q]
    obtain ⟨slot', link, eu⟩ := policyEnded_low (p := q.joinQueue i) (i := i) (w := w)
      (by rw [slot]; exact Nat.zero_le _) (by rw [policy_joinQueue, policy_q]; exact limit)
    have ae : ((q.joinQueue i).policyEnded i w).ae = (q.joinQueue i).ae := policyEnded_ae
    have entry : ((q.joinQueue i).policyEnded i w).entry i = { q.entry i with blocked := false } := by
      rw [State.entry, ae]
      exact updateAt_same ..
    rw [slot', slot, entry, ae, entry_q]
    exact ⟨rfl, link.trans link_q, eu.trans eu_q, rfl, rfl, grants_q, fun _ => by rw [joinQueue_ae, entries_q]⟩
  | false =>
    rw [admitDemand_parks (by rw [policy_q]; exact admits)]
    have slot : (q.enter i .parked).slot i = { p.slot i with state := .parked, outbox := [] } := by rw [slot_enter, slot_q]
    obtain ⟨slot', link, eu⟩ := policyEnded_low (p := q.enter i .parked) (i := i) (w := w)
      (by rw [slot]; exact Nat.zero_le _) (by rw [policy_enter, policy_q]; exact limit)
    have ae : ((q.enter i .parked).policyEnded i w).ae = q.ae := policyEnded_ae
    have entry : ((q.enter i .parked).policyEnded i w).entry i = q.entry i := by rw [State.entry, ae]; rfl
    rw [slot', slot, entry, ae, entry_q]
    exact ⟨rfl, link.trans link_q, eu.trans eu_q, rfl, rfl, grants_q, nofun⟩

/-- The step of a slot whose list has no point left: the fault is taken at once. -/
theorem policyActed_faults (faulted : (p.slot i).state = .faulted ∨ (p.slot i).state = .lockedOut)
    (sent : (p.slot i).outbox = [.faulted .badDemand]) :
    (y.policyActed i w).slot i = { p.slot i with watch := none, outbox := [w.answer] } ∧
      ((y.policyActed i w).entry i).claim = 0 ∧ (y.policyActed i w).ae.entryOrder = p.ae.entryOrder ∧
      ((p.entry i).resync = false → (y.policyActed i w).eu = p.eu) := by
  obtain ⟨z, emptied⟩ : ∃ z, (p.modSlot i fun r => { r with outbox := [] }) = z := ⟨_, rfl⟩
  obtain ⟨q, booked⟩ : ∃ q, z.booked i AeSlot.freed (z.ae.grantOrder.filter (· != i)) = q := ⟨_, rfl⟩
  have entry_q : q.entry i = (p.entry i).freed := by rw [← booked, entry_booked, ← emptied]; rfl
  have unsynced : (p.slot i).state ≠ .resync := by
    rcases faulted with h | h <;> exact fun k => SlotState.noConfusion (h.symm.trans k)
  have taken : (y.policyPart i).takePolicy i = q.resyncConcludes i (.faulted .badDemand) := by
    rw [part, takePolicy_noticed sent unsynced, emptied, account_faulted (by rw [← emptied]; exact rest.idle)
      (by rw [← emptied]; exact rest.calm) (by rw [← emptied]; exact rest.within), booked]
  have acted : y.policyActed i w = (q.resyncConcludes i (.faulted .badDemand)).policyEnded i w := by
    rw [State.policyActed, taken]
  obtain ⟨slots, -, cu, entries, ae⟩ := resyncConcludes_facts q i (.faulted .badDemand)
  have slot : (q.resyncConcludes i (.faulted .badDemand)).slot i = { p.slot i with outbox := [] } := by
    rw [State.slot, slots, ← booked, ← emptied]
    exact slot_modSlot_same ..
  have policy' : (q.resyncConcludes i (.faulted .badDemand)).policy i = y.policy i := by
    rw [State.policy, cu, ← booked, ← emptied]
    exact policy
  have low : ((q.resyncConcludes i (.faulted .badDemand)).slot i).standing
      ((q.resyncConcludes i (.faulted .badDemand)).policy i).maxPower ≤
        ((q.resyncConcludes i (.faulted .badDemand)).policy i).maxPower := by
    rw [slot]
    unfold SlotRec.standing
    rcases faulted with h | h <;> simp [h]
  obtain ⟨slot', -, eu⟩ := policyEnded_low low (limit.trans (by rw [policy']))
  have ae' : ((q.resyncConcludes i (.faulted .badDemand)).policyEnded i w).ae =
      (q.resyncConcludes i (.faulted .badDemand)).ae := policyEnded_ae
  rw [acted, slot', slot]
  refine ⟨rfl, ?_, ?_, fun left => ?_⟩
  · rw [State.entry, ae']
    exact ((entries i).1).trans (by rw [entry_q]; rfl)
  · rw [ae', ae, ← booked, ← emptied]
    rfl
  · rw [eu, resyncConcludes_other _ (by rw [entry_q]; exact left), ← booked, ← emptied]
    rfl

end

/-- An offer or a power-up that stands above the max power is undone (R52). -/
theorem reEvaluate_undone {y : State} {i : SlotId} (state : (y.slot i).state = .offering ∨ (y.slot i).state = .powering)
    (left : y.leftAt i (y.policy i).maxPower = true)
    (above : (y.policy i).maxPower < (y.slot i).standing (y.policy i).maxPower) :
    ∃ (u : State) (r : SlotRec), y.reEvaluate i = u ∧
      (r = { (y.slot i).reTrim (y.policy i).maxPower with offered := none } ∧ (y.slot i).state = .offering ∧
          u.link i = (y.link i).withdraw.ask .cut ∨
        r = ((y.slot i).reTrim (y.policy i).maxPower).powerless ∧ u.link i = (y.link i).cut) ∧
      u.slot i = SlotRec.sending { r with state := .standby } .released ∧
      u.eu = (y.reTrim i).eu ∧ u.ae = y.ae ∧ u.policy i = y.policy i := by
  obtain ⟨offers, powers⟩ := reEvaluate_undoes left above
  rcases state with state | state
  · exact ⟨_, _, offers state, .inl ⟨rfl, state, by
      rw [State.undoOffer, link_notify, link_modSlot, link_linkAsk, link_linkWithdraw, link_reTrim]⟩, by
      rw [slot_undoOffer, slot_reTrim], rfl, reTrim_ae y i, policy_reTrim y i i⟩
  · exact ⟨_, _, powers state, .inr ⟨rfl, by
      rw [State.undoPowering, link_notify, link_enter, link_cut, link_reTrim]⟩, by
      rw [slot_undoPowering, slot_reTrim], rfl, reTrim_ae y i, policy_reTrim y i i⟩

section
variable {y : State} {i : SlotId} {w : Watch} (silent : (y.slot i).outbox = []) (rest : Restful y)
  (limit : w.limit = (y.policy i).maxPower)
include silent rest limit

omit silent in
/-- The step of a slot that the re-evaluation has put into STANDBY, its list marked anew (R52). -/
theorem policyActed_undoneAs {u : State} (step : y.reEvaluate i = u) (ae : u.ae = y.ae) (policy : u.policy i = y.policy i)
    (standby : (u.slot i).state = .standby) (sent : (u.slot i).outbox = [.released])
    (current : (u.slot i).current = (y.slot i).current.map fun l => l.trim (y.policy i).maxPower)
    (listed : (y.slot i).current.isSome = true) (unsynced : (y.entry i).resync = false) :
    (y.policyActed i w).slot i = { u.slot i with
        effClass := ((y.slot i).retrimmed (y.policy i).maxPower (y.policy i).classLimit).effClass
        state := if (y.policy i).admits then .waiting else .parked, watch := none, outbox := [w.answer] } ∧
      (y.policyActed i w).link i = u.link i ∧ (y.policyActed i w).eu = u.eu ∧
      ((y.policyActed i w).entry i).claim = 0 ∧ ((y.policyActed i w).entry i).mark = .none ∧
      (y.policyActed i w).ae.grantOrder = y.ae.grantOrder.filter (· != i) ∧
      ((y.policy i).admits = true → (y.policyActed i w).ae.entryOrder = y.ae.entryOrder.filter (· != i) ++ [i]) := by
  have unmoved {st : SlotState} (other : st ≠ .standby) : ((u.reClass i).slot i).state ≠ st := by
    rw [slot_reClassed]
    exact fun h => other (h.symm.trans standby)
  have part : y.policyPart i = u.reClass i := by
    rw [State.policyPart, step, applyAdmit_stays (fun h => absurd h (unmoved (by decide)))
      (fun h => absurd h (unmoved (by decide)))]
  have ae_u : (u.reClass i).ae = y.ae := ae
  have class_u : ((u.slot i).current.map (u.classOf i)).getD (u.policy i).classLimit =
      ((y.slot i).retrimmed (y.policy i).maxPower (y.policy i).classLimit).effClass := by
    rw [current, Option.map_map, show u.classOf i = fun l : DemandList => max l.cardClass (y.policy i).classLimit from by
      funext l; rw [State.classOf, policy], policy]
    rfl
  obtain ⟨slot, link, eu, claim, mark, grants, entries⟩ := policyActed_undone part policy
    (rest.of_account (congrArg Ae.account ae_u)) limit (by rw [slot_reClassed]; exact standby)
    (by rw [slot_reClassed]; exact sent) (by rw [slot_reClassed]; show (u.slot i).current.isSome = true; rw [current, Option.isSome_map]; exact listed)
    (by rw [State.entry, ae_u]; exact unsynced)
  rw [slot_reClassed, class_u] at slot
  rw [ae_u] at grants entries
  exact ⟨slot, link, eu, claim, mark, grants, entries⟩

/-- A list with no point left faults the slot (R51, R52). -/
theorem policyActed_over (state : (y.slot i).state = .waiting ∨ (y.slot i).state = .parked ∨
    (y.slot i).state = .offering ∨ (y.slot i).state = .powering) (unleft : y.leftAt i (y.policy i).maxPower = false) :
    ∃ r : SlotRec, (y.policyActed i w).slot i = { r with watch := none, outbox := [w.answer] } ∧
      r.cause = some .badDemand ∧ r.strikes = min ((y.slot i).strikes + 1) 3 ∧
      r.state = (if r.strikes < 3 then .faulted else .lockedOut) ∧ r.current = none ∧
      r.effClass = (y.policy i).classLimit ∧ ((y.policyActed i w).entry i).claim = 0 ∧
      (y.policyActed i w).ae.entryOrder = y.ae.entryOrder.filter (· != i) ∧
      ((y.entry i).resync = false → (y.policyActed i w).eu =
        (y.event .demandBad (some i) 2 (y.policy i).maxPower).eu.faulted i .badDemand (y.slot i).strikes) := by
  obtain ⟨u, over_, same_slot, same_policy, same_ae, same_eu⟩ : ∃ u : State, y.reEvaluate i = u.overMax i ∧
      u.slot i = y.slot i ∧ u.policy i = y.policy i ∧ u.ae = y.ae ∧ u.eu = y.eu := by
    obtain ⟨others, offering⟩ := reEvaluate_over unleft
    rcases state with h | h | h | h
    · exact ⟨y, others (.inl h), rfl, rfl, rfl, rfl⟩
    · exact ⟨y, others (.inr (.inl h)), rfl, rfl, rfl, rfl⟩
    · exact ⟨_, offering h, rfl, rfl, rfl, rfl⟩
    · exact ⟨y, others (.inr (.inr h)), rfl, rfl, rfl, rfl⟩
  obtain ⟨v, faulted⟩ : ∃ v, u.overMax i = v := ⟨_, rfl⟩
  have slot_v := slot_overMax u i
  rw [faulted, same_slot, same_policy] at slot_v
  have few : min ((y.slot i).strikes + 1) 3 < 3 ↔ (y.slot i).strikes < 2 := by omega
  have stopped : (v.slot i).state = .faulted ∨ (v.slot i).state = .lockedOut := by
    rw [slot_v]
    show (if _ then SlotState.faulted else SlotState.lockedOut) = .faulted ∨ (if _ then SlotState.faulted else
      SlotState.lockedOut) = .lockedOut
    split_ifs <;> simp
  have policy_v : v.policy i = y.policy i := by
    have frame : SlotFrame i u (u.overMax i) := by simp [State.overMax]
    obtain ⟨⟨-, -, -, cu, -⟩, -⟩ := frame
    rw [← same_policy, ← faulted, State.policy, cu]
    rfl
  have part : y.policyPart i = v.reClass i := by
    rw [State.policyPart, over_, faulted, applyAdmit_stays] <;> rw [slot_reClassed] <;> intro h <;>
      rcases stopped with k | k <;> exact SlotState.noConfusion (k.symm.trans h)
  have ae_v : (v.reClass i).ae = (y.leaveQueue i).ae := by
    show v.ae = _
    rw [← faulted, overMax_ae]
    exact leaveQueue_ae_congr i same_ae
  have sent : (v.slot i).outbox = [.faulted .badDemand] := by
    rw [slot_v]
    split <;> exact congrArg (· ++ [Notice.faulted .badDemand]) silent
  obtain ⟨slot, claim, entries, eu⟩ := policyActed_faults part policy_v
    (rest.of_account (by rw [ae_v, account_leaveQueue])) limit (by rw [slot_reClassed]; exact stopped)
    (by rw [slot_reClassed]; exact sent)
  rw [ae_v] at entries
  have entry_v : ((v.reClass i).entry i).resync = (y.entry i).resync := by
    have left : (y.leaveQueue i).entry i = { y.entry i with blocked := false } := updateAt_same ..
    rw [State.entry, ae_v]
    show ((y.leaveQueue i).entry i).resync = _
    rw [left]
  refine ⟨_, slot, ?_, ?_, ?_, ?_, ?_, claim, entries, fun left => ?_⟩
  · rw [slot_reClassed, slot_v]; rfl
  · rw [slot_reClassed, slot_v]
    split <;> rfl
  · rw [slot_reClassed, slot_v]
    split <;> exact if_congr few.symm rfl rfl
  · rw [slot_reClassed, slot_v]; rfl
  · rw [slot_reClassed]
    show Option.getD (Option.map _ (v.slot i).current) _ = _
    rw [slot_v, policy_v]
    rfl
  · rw [eu (entry_v.trans left)]
    show v.eu = _
    rw [← faulted, overMax_eu, same_slot, same_policy]
    show Eu.faulted (u.eu.append _ _ _ _) _ _ _ = _
    rw [same_eu]
    rfl

omit rest in
/-- The claim of a slot in RESYNC becomes the new max power (R7). -/
theorem policyActed_resync (state : (y.slot i).state = .resync) :
    (y.policyActed i w).slot i = { y.slot i with
        effClass := ((y.slot i).retrimmed (y.policy i).maxPower (y.policy i).classLimit).effClass
        watch := none, outbox := [w.answer] } ∧
      (y.policyActed i w).link i = y.link i ∧
      ∃ z : State, z = (y.modEntry i fun e => { e with claim := (y.policy i).maxPower }).evalExcess ∧
        (y.policyActed i w).ae = z.ae ∧ (y.policyActed i w).eu = z.eu := by
  have part := policyPart_untouched (y := y) (i := i) (by tauto)
  obtain ⟨q, taken⟩ : ∃ q, ((y.reClass i).modEntry i fun e => { e with claim := (y.policy i).maxPower }).evalExcess = q :=
    ⟨_, rfl⟩
  have acted : y.policyActed i w = q.policyEnded i w := by
    rw [State.policyActed, part, takePolicy_resync (by rw [slot_reClassed]; exact silent)
      (by rw [slot_reClassed]; exact state), ← taken]
    rfl
  have slot_q : q.slot i = (y.reClass i).slot i := by rw [← taken, State.slot, evalExcess_slots]; rfl
  have link_q : q.link i = y.link i := by rw [← taken, State.link, evalExcess_links]; rfl
  have policy_q : q.policy i = y.policy i := by
    obtain ⟨-, -, -, cu, -⟩ := evalExcess_engine ((y.reClass i).modEntry i fun e => { e with claim := (y.policy i).maxPower })
    rw [← taken, State.policy, cu]
    rfl
  have low : (q.slot i).standing (q.policy i).maxPower ≤ (q.policy i).maxPower := by
    rw [slot_q, slot_reClassed]
    unfold SlotRec.standing
    rw [show SlotRec.state _ = _ from state]
  obtain ⟨slot, link, eu⟩ := policyEnded_low low (limit.trans (by rw [policy_q]))
  rw [acted, slot, slot_q, slot_reClassed]
  refine ⟨?_, link.trans link_q, _, rfl, ?_, ?_⟩
  · simp only [SlotRec.mk.injEq, true_and, and_true, silent, List.nil_append]
    exact ⟨rfl, rfl⟩
  · rw [policyEnded_ae, ← taken, evalExcess_ae, evalExcess_ae]
    rfl
  · rw [eu, ← taken, evalExcess_eu, evalExcess_eu]
    rfl

end

end Sys2Proof.Machine
end

section
/-! SET_SLOT_POLICY as a whole command (R150). -/

namespace Sys2Proof.Machine

/-- The state in which the shared step runs: the slot's new policy is in force, and time has passed. -/
structure Installed (s y : State) (i : SlotId) (p : Policy) : Prop where
  slot : ∀ j, y.slot j = s.slot j
  link : ∀ j, y.link j = s.link j
  ae : y.ae = s.ae
  eu : y.eu = s.elapse.eu
  policy : y.policy i = p
  others : ∀ j, j ≠ i → y.policy j = s.policy j
  reduceSteps : y.cu.settings.reduceSteps = s.cu.settings.reduceSteps
  retryLimit : y.cu.settings.retryLimit = s.cu.settings.retryLimit

/-- The parameters of SET_SLOT_POLICY (R150). -/
def policyParams (slot classLimit admits : Byte) (maxPower : Half) : List Byte :=
  [slot, classLimit] ++ halfBytes maxPower ++ [admits, 0]

/-- The policy that they carry. -/
def carriedPolicy (classLimit admits : Byte) (maxPower : Half) : Policy :=
  { classLimit := classLimit.toNat, maxPower := maxPower.toNat, admits := admits == 1 }

section
variable (slot classLimit admits : Byte) (maxPower : Half) (num : Byte)

theorem policy_issued : (CmdSlot.issued 2 (policyParams slot classLimit admits maxPower) num).policy =
    carriedPolicy classLimit admits maxPower := by
  have half_eq : (CmdSlot.issued 2 (policyParams slot classLimit admits maxPower) num).half 3 = maxPower.toNat :=
    half_lowHigh maxPower
  rw [CmdSlot.policy, half_eq]
  rfl

theorem badPolicy_issued : badPolicy (.issued 2 (policyParams slot classLimit admits maxPower) num) =
    if 7 < slot.toNat then some 1 else if 3 < classLimit.toNat then some 2
    else if maxPower.toNat = 0 ∨ 1023 < maxPower.toNat then some 3 else if 1 < admits.toNat then some 5 else none := by
  have half_eq : (CmdSlot.issued 2 (policyParams slot classLimit admits maxPower) num).half 3 = maxPower.toNat :=
    half_lowHigh maxPower
  rw [badPolicy, half_eq]
  rfl

end

section
variable {s : State} {k : Fin 4} {classLimit admits : Byte} {maxPower : Half} (high : s.resetLow = false)
  (clear : portClear s) (idle : cuIdle s k)
include high clear idle

/-- The command at an idle CU, its parameters in range and the slot's notices all taken. -/
theorem policy_happening {i : SlotId} (silent : (s.slot i).outbox = [])
    (good : badPolicy (.issued 2 (policyParams (byteOf i.val) classLimit admits maxPower) s.cu.count) = none) :
    ∃ y t v : State, Installed s y i (carriedPolicy classLimit admits maxPower) ∧
      v = (y.policyActed i { tag := k, num := s.cu.count, limit := maxPower.toNat, found := (s.slot i).state.code }).aeRules
        true ∧
      exec (.setSlotPolicy (byteOf i.val) classLimit maxPower admits) s = .next t ∧
      submitted k 2 (policyParams (byteOf i.val) classLimit admits maxPower) .running .ok 0 s t ∧
      (∀ j, t.policy j = y.policy j) ∧ (∀ j, t.slot j = v.slot j ∧ t.link j = v.link j) ∧ t.ae = v.ae ∧ t.eu = v.eu := by
  obtain ⟨x, started, whole⟩ := command_effect (code := 2)
    (params := policyParams (byteOf i.val) classLimit admits maxPower) high clear idle rfl
  obtain ⟨y, installs⟩ : ∃ y, x.installPolicy i (carriedPolicy classLimit admits maxPower) = y := ⟨_, rfl⟩
  have installed : Installed s y i (carriedPolicy classLimit admits maxPower) := by
    have steps : x.cu.settings.reduceSteps = s.cu.settings.reduceSteps := by rw [started.settings]
    have limit : x.cu.settings.retryLimit = s.cu.settings.retryLimit := by rw [started.settings]
    rw [← installs]
    exact ⟨started.slot, started.link, started.ae, started.eu, updateAt_same .., fun j other =>
      (updateAt_other _ _ other).trans (started.policy j), steps, limit⟩
  have cmd : y.cmd k = .issued 2 (policyParams (byteOf i.val) classLimit admits maxPower) s.cu.count := by
    rw [← installs]; exact started.cmd_same
  have runs : y.runs k s.cu.count = true := by
    rw [State.runs, cmd]
    show (CmdState.running == CmdState.running && s.cu.count == s.cu.count) = true
    simp
  have step := policyStep_acted (y := y) (q := { slot := i, tag := k, num := s.cu.count }) runs
  dsimp only at step
  rw [installed.policy, installed.slot,
    show (carriedPolicy classLimit admits maxPower).maxPower = maxPower.toNat from rfl] at step
  obtain ⟨v, acts⟩ : ∃ v, y.policyStep { slot := i, tag := k, num := s.cu.count } = v := ⟨_, rfl⟩
  have run : x.runCommand k = v := by
    rw [runCommand_policy x k (by rw [started.cmd_same]; rfl), started.cmd_same, good, State.checked, State.runPolicy]
    rw [show (CmdSlot.issued 2 (policyParams (byteOf i.val) classLimit admits maxPower) s.cu.count).param 1 = byteOf i.val
      from rfl, slotOf_byteOf]
    dsimp only
    rw [policy_issued, installs, installed.slot, silent]
    exact (if_pos rfl).trans acts
  have frame := EngineFrame.policyStep y { slot := i, tag := k, num := s.cu.count }
  rw [acts] at frame
  obtain ⟨-, -, -, cu, -, port, -⟩ := frame
  have same : sameCommands x v := by
    refine ⟨?_, port.trans (by rw [← installs]; rfl)⟩
    rw [cu, ← installs]
    rfl
  rw [acts] at step
  have answer : exec (.setSlotPolicy (byteOf i.val) classLimit maxPower admits) s = .next { v with hp := s.hp.commanded } :=
    whole v run same
  refine ⟨y, { v with hp := s.hp.commanded }, v, installed, step, answer, started.submitted_running same, fun j => ?_, fun _ => ⟨rfl, rfl⟩, rfl, rfl⟩
  show v.policy j = _
  rw [State.policy, cu]
  rfl

theorem policy_refused {slot : Byte} {n : Nat}
    (bad : badPolicy (.issued 2 (policyParams slot classLimit admits maxPower) s.cu.count) = some n) :
    ∃ t, exec (.setSlotPolicy slot classLimit maxPower admits) s = .next t ∧ aroundCu s t ∧ t.ae = s.ae ∧
      t.cu.settings = s.cu.settings ∧
      submitted k 2 (policyParams slot classLimit admits maxPower) .failed .badParam (byteOf n) s t := by
  obtain ⟨h, runs⟩ := command_runs (code := 2) (params := policyParams slot classLimit admits maxPower) high clear idle rfl
  have run : (State.issued { s.elapse with hp := h } k 2 (policyParams slot classLimit admits maxPower)).runCommand k =
      (State.issued { s.elapse with hp := h } k 2 (policyParams slot classLimit admits maxPower)).conclude k .badParam
        (byteOf n) := by
    rw [runCommand_policy _ k (by rw [cmd_issued_same]; rfl), cmd_issued_same,
      show badPolicy (.issued 2 (policyParams slot classLimit admits maxPower) (State.cu { s.elapse with hp := h }).count)
        = some n from bad]
    rfl
  exact ⟨_, runs _ run rfl (unqueued_concluded (s := s) idle rfl), ⟨rfl, rfl, rfl, rfl, rfl, rfl⟩, rfl, rfl,
    submitted_concluded (r := .badParam) rfl rfl⟩

end

section
variable {s y : State} {i : SlotId} {p : Policy} (installed : Installed s y i p)
include installed

theorem Installed.reTrim_eu : (y.reTrim i).eu = s.retrimEu i p.maxPower := by
  rw [Machine.reTrim_eu, installed.slot, installed.policy, State.retrimEu]
  dsimp only
  split
  · exact installed.eu
  · show y.eu.append _ _ _ _ = _
    rw [installed.eu]
    rfl

theorem Installed.leftAt : y.leftAt i p.maxPower = s.leftAt i p.maxPower := by
  rw [State.leftAt, State.leftAt, installed.slot]

theorem Installed.entry (j : SlotId) : y.entry j = s.entry j := by
  rw [State.entry, installed.ae]
  rfl

theorem Installed.restful (still : aeStill s) : Restful y := by
  obtain ⟨-, idle, calm, within, -⟩ := still
  refine ⟨?_, ?_, ?_⟩ <;> rw [installed.ae]
  · exact idle
  · exact calm
  · exact within

/-- Under HOLD the AE decides nothing behind the step (R101). -/
theorem Installed.settled (still : aeStill s) (w : Watch) (silent : (s.slot i).outbox = [])
    (period : (s.slot i).state = .resync → s.ae.resyncActive = true) :
    (y.policyActed i w).aeRules true = y.policyActed i w ∧ SlotFrame i y (y.policyActed i w) := by
  obtain ⟨frame, hold, idle, calm⟩ := policyActed_rests w (installed.restful still) (by rw [installed.slot]; exact silent)
  have held : (y.policyActed i w).ae.hold = true := by rw [hold, installed.ae]; exact still.1
  refine ⟨State.aeRules_held true held ⟨fun _ => ?_, fun active => ?_⟩, frame⟩
  · rcases calm with calm | ⟨resync, same⟩
    · exact .inl calm
    · rw [installed.slot] at resync
      exact .inr (.inl (by rw [same, installed.ae]; exact period resync))
  · rw [idle] at active; cases active

end

end Sys2Proof.Machine
end

section
/-! SET_SLOT_POLICY by the slot's state, read off the state before (R150). -/

namespace Sys2Proof.Machine

/-- A policy's upgrade of a running reduction (R124). -/
theorem Reduction.upgraded_policy (d : Reduction) (index power : Nat) : d.upgraded index power .policy =
    if power < d.targetPower then { d with targetIndex := index, targetPower := power, origin := .policy } else d := by
  unfold Reduction.upgraded upgradedOrigin
  split <;> rfl

/-- From `s` the shared step has run whole: in `y` the policy stands installed, and `t` is what the step has left of the
slot, the account and the events. -/
structure PolicyStepped (s t y : State) (i : SlotId) (w : Watch) (p : Policy) : Prop where
  installed : Installed s y i p
  still : aeStill s
  silent : (s.slot i).outbox = []
  limit : w.limit = p.maxPower
  slot : t.slot i = (y.policyActed i w).slot i
  link : t.link i = (y.policyActed i w).link i
  ae : t.ae = (y.policyActed i w).ae
  eu : t.eu = (y.policyActed i w).eu

namespace PolicyStepped
variable {s t y : State} {i : SlotId} {w : Watch} {p : Policy} (h : PolicyStepped s t y i w p)
include h

theorem silent_y : (y.slot i).outbox = [] := by rw [h.installed.slot]; exact h.silent

theorem limit_y : w.limit = (y.policy i).maxPower := by rw [h.installed.policy]; exact h.limit

theorem left_y : y.leftAt i (y.policy i).maxPower = s.leftAt i p.maxPower := by
  rw [h.installed.policy]; exact h.installed.leftAt

theorem standing_y : (y.slot i).standing (y.policy i).maxPower = (s.slot i).standing p.maxPower := by
  rw [h.installed.policy, h.installed.slot]

theorem entry_t (j : SlotId) : t.entry j = (y.policyActed i w).entry j := by
  rw [State.entry, h.ae]
  rfl

/-- The lists of a slot without one that counts stand. -/
theorem untouched (state : (s.slot i).state = .empty ∨ (s.slot i).state = .settling ∨ (s.slot i).state = .identify ∨
    (s.slot i).state = .standby ∨ (s.slot i).state = .faulted ∨ (s.slot i).state = .lockedOut) :
    t.ae = s.ae ∧ t.link i = s.link i ∧ t.eu = s.elapse.eu ∧
      t.slot i = { s.slot i with
        effClass := ((s.slot i).retrimmed p.maxPower p.classLimit).effClass, watch := none, outbox := [w.answer] } := by
  obtain ⟨slot, link, ae, eu⟩ := policyActed_untouched h.silent_y (by rw [h.installed.slot]; exact state) h.limit_y
  rw [h.installed.slot, h.installed.policy] at slot
  exact ⟨h.ae.trans (ae.trans h.installed.ae), h.link.trans (link.trans (h.installed.link i)),
    h.eu.trans (eu.trans h.installed.eu), h.slot.trans slot⟩

/-- A slot that stays where it is, its lists marked anew. -/
theorem trimmed (trims : y.reEvaluate i = y.reTrim i) (unparks : (s.slot i).state = .waiting → p.admits = true)
    (unjoined : (s.slot i).state = .parked → p.admits = false) (state : (s.slot i).state ≠ .resync)
    (low : (s.slot i).standing p.maxPower ≤ p.maxPower) :
    t.ae = s.ae ∧ t.link i = s.link i ∧ t.eu = s.retrimEu i p.maxPower ∧
      t.slot i = { (s.slot i).retrimmed p.maxPower p.classLimit with watch := none, outbox := [w.answer] } := by
  obtain ⟨slot, link, ae, eu⟩ := policyActed_trimmed h.silent_y trims
    (by rw [h.installed.slot, h.installed.policy]; exact unparks)
    (by rw [h.installed.slot, h.installed.policy]; exact unjoined) (by rw [h.installed.slot]; exact state)
    (by rw [h.standing_y, h.installed.policy]; exact low) h.limit_y
  rw [h.installed.slot, h.installed.policy] at slot
  exact ⟨h.ae.trans (ae.trans h.installed.ae), h.link.trans (link.trans (h.installed.link i)),
    h.eu.trans (eu.trans h.installed.reTrim_eu), h.slot.trans slot⟩

theorem stands (state : (s.slot i).state = .waiting ∧ p.admits = true ∨ (s.slot i).state = .parked ∧ p.admits = false ∨
      (s.slot i).state = .offering ∨ (s.slot i).state = .powering) (left : s.leftAt i p.maxPower = true)
    (low : (s.slot i).standing p.maxPower ≤ p.maxPower) :
    t.ae = s.ae ∧ t.link i = s.link i ∧ t.eu = s.retrimEu i p.maxPower ∧
      t.slot i = { (s.slot i).retrimmed p.maxPower p.classLimit with watch := none, outbox := [w.answer] } := by
  refine h.trimmed (reEvaluate_stands (by rw [h.left_y]; exact left) (by rw [h.installed.slot]; tauto)
    (by rw [h.standing_y, h.installed.policy]; exact low)) (fun k => ?_) (fun k => ?_) (fun k => ?_) low
  · rcases state with ⟨-, allowed⟩ | ⟨k', -⟩ | k' | k'
    · exact allowed
    all_goals cases k.symm.trans k'
  · rcases state with ⟨k', -⟩ | ⟨-, refused⟩ | k' | k'
    · cases k.symm.trans k'
    · exact refused
    all_goals cases k.symm.trans k'
  · rcases state with ⟨k', -⟩ | ⟨k', -⟩ | k' | k' <;> cases k.symm.trans k'

theorem powered_low (state : (s.slot i).state = .powered ∨ (s.slot i).state = .raising ∨
      (s.slot i).state = .restating ∨ (s.slot i).state = .reducing)
    (low : (s.slot i).standing p.maxPower ≤ p.maxPower) :
    t.ae = s.ae ∧ t.link i = s.link i ∧ t.eu = s.retrimEu i p.maxPower ∧
      t.slot i = { (s.slot i).retrimmed p.maxPower p.classLimit with watch := none, outbox := [w.answer] } := by
  refine h.trimmed (reEvaluate_trims (by rw [h.installed.slot]; exact state)) (fun k => ?_) (fun k => ?_) (fun k => ?_) low <;>
    rcases state with k' | k' | k' | k' <;> cases k.symm.trans k'

theorem parks (state : (s.slot i).state = .waiting) (left : s.leftAt i p.maxPower = true) (refused : p.admits = false) :
    t.ae = (s.leaveQueue i).ae ∧ t.link i = s.link i ∧ t.eu = s.retrimEu i p.maxPower ∧
      t.slot i = { (s.slot i).retrimmed p.maxPower p.classLimit with
        state := .parked, watch := none, outbox := [w.answer] } := by
  obtain ⟨slot, link, ae, eu⟩ := policyActed_parks (w := w) h.silent_y (by rw [h.installed.slot]; exact state)
    (by rw [h.left_y]; exact left) (by rw [h.installed.policy]; exact refused) h.limit_y
  rw [h.installed.slot, h.installed.policy] at slot
  exact ⟨h.ae.trans (ae.trans (leaveQueue_ae_congr i h.installed.ae)), h.link.trans (link.trans (h.installed.link i)),
    h.eu.trans (eu.trans h.installed.reTrim_eu), h.slot.trans slot⟩

theorem joins (state : (s.slot i).state = .parked) (left : s.leftAt i p.maxPower = true) (allowed : p.admits = true) :
    t.ae = { (s.leaveQueue i).ae with entryOrder := s.ae.entryOrder.filter (· != i) ++ [i] } ∧
      t.link i = s.link i ∧ t.eu = s.retrimEu i p.maxPower ∧
      t.slot i = { (s.slot i).retrimmed p.maxPower p.classLimit with
        state := .waiting, watch := none, outbox := [w.answer] } := by
  obtain ⟨slot, link, ae, eu⟩ := policyActed_joins (w := w) h.silent_y (by rw [h.installed.slot]; exact state)
    (by rw [h.left_y]; exact left) (by rw [h.installed.policy]; exact allowed) h.limit_y
  rw [h.installed.slot, h.installed.policy] at slot
  rw [leaveQueue_ae_congr i h.installed.ae, h.installed.ae] at ae
  exact ⟨h.ae.trans ae, h.link.trans (link.trans (h.installed.link i)),
    h.eu.trans (eu.trans h.installed.reTrim_eu), h.slot.trans slot⟩

/-- An offer or a power-up that stands above the max power is undone. -/
theorem undone (state : (s.slot i).state = .offering ∨ (s.slot i).state = .powering)
    (left : s.leftAt i p.maxPower = true) (listed : (s.slot i).current.isSome = true)
    (above : p.maxPower < (s.slot i).standing p.maxPower) (unsynced : (s.entry i).resync = false) :
    ((t.slot i).state = (if p.admits then .waiting else .parked) ∧
        (t.slot i).current = ((s.slot i).retrimmed p.maxPower p.classLimit).current ∧
        (t.slot i).effClass = ((s.slot i).retrimmed p.maxPower p.classLimit).effClass ∧ (t.slot i).offered = none ∧
        (t.slot i).watch = none ∧ (t.slot i).outbox = [w.answer]) ∧
      ((t.entry i).claim = 0 ∧ (t.entry i).mark = .none) ∧
      ((s.slot i).state = .powering → (t.slot i).en = false ∧ (t.slot i).granted = 0) ∧
      t.ae.grantOrder = s.ae.grantOrder.filter (· != i) ∧
      (p.admits = true → t.ae.entryOrder = s.ae.entryOrder.filter (· != i) ++ [i]) ∧
      ((t.link i).exchange = none ∧ (t.link i).pendingReq = none ∧
        ((s.link i).link ≠ .down → (t.link i).waiting = some .cut)) ∧ t.eu = s.retrimEu i p.maxPower := by
  obtain ⟨u, r, step, parts, slot_u, eu_u, ae_u, policy_u⟩ := reEvaluate_undone (by rw [h.installed.slot]; exact state)
    (by rw [h.left_y]; exact left) (by rw [h.standing_y, h.installed.policy]; exact above)
  have record : r.current = (y.slot i).current.map (fun l : DemandList => l.trim (y.policy i).maxPower) ∧
      r.offered = none ∧ r.outbox = [] ∧ ((s.slot i).state = .powering → r.en = false ∧ r.granted = 0) := by
    rcases parts with ⟨rfl, offering, -⟩ | ⟨rfl, -⟩
    · exact ⟨rfl, rfl, h.silent_y, fun k => by rw [h.installed.slot] at offering; cases offering.symm.trans k⟩
    · exact ⟨rfl, rfl, h.silent_y, fun _ => ⟨rfl, rfl⟩⟩
  obtain ⟨current, offered, none_, off⟩ := record
  have link_facts : (u.link i).exchange = none ∧ (u.link i).pendingReq = none ∧
      ((s.link i).link ≠ .down → (u.link i).waiting = some .cut) := by
    rcases parts with ⟨-, -, eq⟩ | ⟨-, eq⟩ <;> rw [eq, h.installed.link]
    · exact (s.link i).withdraw_cut
    · obtain ⟨exchange, pending, -, waiting⟩ := (s.link i).cut_facts
      exact ⟨exchange, pending, waiting⟩
  obtain ⟨slot, link, eu, claim, mark, grants, entries⟩ := policyActed_undoneAs (w := w) (h.installed.restful h.still)
    h.limit_y step ae_u policy_u (by rw [slot_u]; rfl)
    (by rw [slot_u]; exact congrArg (· ++ [Notice.released]) none_) (by rw [slot_u]; exact current)
    (by rw [h.installed.slot]; exact listed) (by rw [h.installed.entry]; exact unsynced)
  rw [slot_u, h.installed.policy, h.installed.slot] at slot
  rw [h.installed.ae] at grants entries
  rw [h.installed.policy] at entries
  refine ⟨?_, ?_, fun k => ?_, ?_, fun allowed => ?_, ?_, ?_⟩
  · rw [h.slot, slot]
    refine ⟨rfl, ?_, rfl, offered, rfl, rfl⟩
    rw [h.installed.slot, h.installed.policy] at current
    exact current
  · rw [h.entry_t]
    exact ⟨claim, mark⟩
  · rw [h.slot, slot]
    exact off k
  · rw [h.ae]; exact grants
  · rw [h.ae]; exact entries allowed
  · rw [h.link, link]; exact link_facts
  · exact h.eu.trans (eu.trans (eu_u.trans h.installed.reTrim_eu))

/-- A list with no point left faults the slot. -/
theorem overMax (state : (s.slot i).state = .waiting ∨ (s.slot i).state = .parked ∨ (s.slot i).state = .offering ∨
      (s.slot i).state = .powering) (unleft : s.leftAt i p.maxPower = false) :
    ((t.slot i).cause = some .badDemand ∧ (t.slot i).strikes = min ((s.slot i).strikes + 1) 3 ∧
        (t.slot i).state = (if (t.slot i).strikes < 3 then .faulted else .lockedOut) ∧ (t.slot i).current = none ∧
        (t.slot i).effClass = p.classLimit ∧ (t.slot i).outbox = [w.answer]) ∧
      (t.entry i).claim = 0 ∧ t.ae.entryOrder = s.ae.entryOrder.filter (· != i) ∧
      ((s.entry i).resync = false → t.eu =
        (s.elapse.event .demandBad (some i) 2 p.maxPower).eu.faulted i .badDemand (s.slot i).strikes) := by
  obtain ⟨r, slot, cause, strikes, stops, current, class_, claim, entries, eu⟩ := policyActed_over (w := w) h.silent_y
    (h.installed.restful h.still) h.limit_y (by rw [h.installed.slot]; exact state) (by rw [h.left_y]; exact unleft)
  rw [h.installed.slot] at strikes eu
  rw [h.installed.policy] at class_ eu
  rw [h.installed.ae] at entries
  rw [h.installed.entry] at eu
  refine ⟨?_, ?_, ?_, fun left => ?_⟩
  · rw [h.slot, slot]
    exact ⟨cause, strikes, stops, current, class_, rfl⟩
  · rw [h.entry_t]; exact claim
  · rw [h.ae]; exact entries
  · rw [h.eu, eu left]
    show Eu.faulted (y.eu.append _ _ _ _) _ _ _ = _
    rw [h.installed.eu]
    rfl

theorem owes (state : (s.slot i).state = .raising ∨ (s.slot i).state = .restating)
    (above : p.maxPower < (s.slot i).standing p.maxPower) :
    t.ae = s.ae ∧ t.link i = s.link i ∧ t.eu = s.retrimEu i p.maxPower ∧
      t.slot i = { (s.slot i).retrimmed p.maxPower p.classLimit with
        watch := some w, outbox := [], owed := (s.slot i).owedPolicy p.maxPower } := by
  obtain ⟨slot, link, ae, eu⟩ := policyActed_owes (w := w) h.silent_y (by rw [h.installed.slot]; exact state)
    (by rw [h.standing_y, h.installed.policy]; exact above) h.limit_y
  rw [h.installed.slot, h.installed.policy] at slot
  exact ⟨h.ae.trans (ae.trans h.installed.ae), h.link.trans (link.trans (h.installed.link i)),
    h.eu.trans (eu.trans h.installed.reTrim_eu), h.slot.trans slot⟩

theorem powered {l : DemandList} (current : (s.slot i).current = some l) (state : (s.slot i).state = .powered)
    (above : p.maxPower < (s.slot i).grantedPower) :
    let aim := (l.trim p.maxPower).policyTarget
    t.ae = s.ae ∧
      t.slot i = { ((s.slot i).retrimmed p.maxPower p.classLimit).reducingTo aim.1 aim.2 .policy
          (s.cu.settings.reduceSteps * 10) with restated := none, watch := some w, outbox := [] } ∧
      ((s.slot i).restated = none → t.eu = s.retrimEu i p.maxPower ∧ ((s.link i).link ≠ .down →
        t.link i = (s.link i).asked (.reduce aim.1 aim.2) s.cu.settings.retryLimit)) ∧
      ((s.slot i).restated.isSome = true →
        t.eu = (s.retrimEu i p.maxPower).append .demandRefused (some i) 8 (BitVec.ofNat 16 (s.slot i).grantedPower) ∧
        ((s.link i).link ≠ .down →
          t.link i = { s.link i with waiting := some .refuse, pendingReq := some (.reduce aim.1 aim.2) })) := by
  intro aim
  obtain ⟨slot, ae, unlisted, listed⟩ := policyActed_powered (w := w) h.silent_y
    (by rw [h.installed.slot, h.installed.policy]; exact above) (by rw [h.installed.slot]; exact current) h.limit_y
    (by rw [h.installed.slot]; exact state)
  rw [h.installed.slot, h.installed.policy, h.installed.reduceSteps] at slot
  rw [h.installed.slot, h.installed.policy, h.installed.link, h.installed.retryLimit, h.installed.reTrim_eu] at unlisted
  rw [h.installed.slot, h.installed.policy, h.installed.link, h.installed.retryLimit, h.installed.reTrim_eu] at listed
  refine ⟨h.ae.trans (ae.trans h.installed.ae), h.slot.trans slot, fun none_ => ?_, fun some_ => ?_⟩
  · obtain ⟨eu, link⟩ := unlisted none_
    exact ⟨h.eu.trans eu, fun serves => h.link.trans (link.trans (LinkRec.request_asked serves (by nofun) _))⟩
  · obtain ⟨eu, link⟩ := listed some_
    exact ⟨h.eu.trans eu, fun serves => h.link.trans (link.trans (LinkRec.request_refused serves _ _))⟩

theorem reducing {l : DemandList} (current : (s.slot i).current = some l) {d : Reduction}
    (reduction : (s.slot i).reduction = some d) (state : (s.slot i).state = .reducing)
    (above : p.maxPower < (s.slot i).grantedPower) :
    let aim := (l.trim p.maxPower).policyTarget
    t.ae = s.ae ∧ t.eu = s.retrimEu i p.maxPower ∧
      t.slot i = { (s.slot i).retrimmed p.maxPower p.classLimit with
        watch := some w, outbox := []
        reduction := some (if aim.2 < d.targetPower then
            { d with targetIndex := aim.1, targetPower := aim.2, origin := .policy }
          else d) } ∧
      (aim.2 < d.targetPower → (s.link i).link ≠ .down →
        t.link i = (s.link i).asked (.reduce aim.1 aim.2) s.cu.settings.retryLimit) ∧
      (d.targetPower ≤ aim.2 → t.link i = s.link i) := by
  intro aim
  obtain ⟨slot, ae, eu, link⟩ := policyActed_reducing (w := w) h.silent_y
    (by rw [h.installed.slot, h.installed.policy]; exact above) (by rw [h.installed.slot]; exact current) h.limit_y
    (by rw [h.installed.slot]; exact state) (by rw [h.installed.slot]; exact reduction)
  rw [h.installed.slot, h.installed.policy, Reduction.upgraded_policy] at slot
  rw [h.installed.policy, h.installed.link, h.installed.retryLimit] at link
  refine ⟨h.ae.trans (ae.trans h.installed.ae), h.eu.trans (eu.trans h.installed.reTrim_eu), h.slot.trans slot,
    fun lower serves => ?_, fun above => ?_⟩
  · rw [h.link, link, if_pos lower, LinkRec.request_asked serves (by nofun)]
  · rw [h.link, link, if_neg (Nat.not_lt.mpr above)]

/-- The claim of a slot in RESYNC becomes the new max power. -/
theorem resync (state : (s.slot i).state = .resync) :
    t.entry i = { s.entry i with claim := p.maxPower } ∧ (∀ j, j ≠ i → t.entry j = s.entry j) ∧
      t.ae = { s.ae with slots := t.ae.slots, excess := decide (s.ae.effective < t.ae.committed) } ∧
      t.link i = s.link i ∧
      t.eu = (if s.ae.effective < t.ae.committed then
          s.elapse.event .budgetExcess none 0 (t.ae.committed - s.ae.effective)
        else s.elapse).eu ∧
      t.slot i = { s.slot i with
        effClass := ((s.slot i).retrimmed p.maxPower p.classLimit).effClass, watch := none, outbox := [w.answer] } := by
  obtain ⟨slot, link, z, claimed, ae, eu⟩ := policyActed_resync (w := w) h.silent_y h.limit_y
    (by rw [h.installed.slot]; exact state)
  rw [h.installed.slot, h.installed.policy] at slot
  rw [h.installed.policy] at claimed
  obtain ⟨q, moved⟩ : ∃ q, (y.modEntry i fun e => { e with claim := p.maxPower }) = q := ⟨_, rfl⟩
  rw [moved] at claimed
  have ae_q : q.ae = { s.ae with slots := q.ae.slots } := by
    rw [← h.installed.ae, ← moved]
    rfl
  have effective : q.ae.effective = s.ae.effective := by rw [ae_q]; rfl
  have excess : q.ae.excess = false := by
    rw [ae_q]
    exact h.still.2.2.1
  have ae_t : t.ae = { q.ae with excess := decide (q.ae.effective < q.ae.committed) } := by
    rw [h.ae, ae, claimed, evalExcess_ae]
  have committed : t.ae.committed = q.ae.committed := by rw [ae_t]; rfl
  have entry (j : SlotId) : t.entry j = q.entry j := by rw [State.entry, ae_t]; rfl
  have eu_q : q.eu = s.elapse.eu := by rw [← moved]; exact h.installed.eu
  refine ⟨?_, fun j other => ?_, ?_, h.link.trans (link.trans (h.installed.link i)), ?_, h.slot.trans slot⟩
  · rw [entry, ← moved, entry_modEntry_same, h.installed.entry]
  · rw [entry, ← moved, entry_modEntry_other _ _ other, h.installed.entry]
  · have slots : t.ae.slots = q.ae.slots := by rw [ae_t]
    rw [committed, slots, ae_t, effective]
    exact congrArg (fun a : Ae => { a with excess := decide (s.ae.effective < q.ae.committed) }) ae_q
  · rw [h.eu, eu, claimed, evalExcess_eu, committed, effective, excess]
    split
    · show q.eu.append _ _ _ _ = _
      rw [eu_q]
      rfl
    · exact eu_q

end PolicyStepped

end Sys2Proof.Machine
end

section
/-! SET_SLOT_POLICY, settled (R150). -/

namespace Sys2Proof.Machine

section
variable {s : State} {k : Fin 4} {classLimit admits : Byte} {maxPower : Half} {i : SlotId}

/-- The command at an idle CU under HOLD, its parameters in range and the slot's notices all taken. -/
theorem policy_stepped (high : s.resetLow = false) (clear : portClear s) (idle : cuIdle s k) (still : aeStill s)
    (silent : (s.slot i).outbox = []) (period : (s.slot i).state = .resync → s.ae.resyncActive = true)
    (good : badPolicy (.issued 2 (policyParams (byteOf i.val) classLimit admits maxPower) s.cu.count) = none) :
    ∃ t y, exec (.setSlotPolicy (byteOf i.val) classLimit maxPower admits) s = .next t ∧
      submitted k 2 (policyParams (byteOf i.val) classLimit admits maxPower) .running .ok 0 s t ∧
      t.policy i = carriedPolicy classLimit admits maxPower ∧
      (∀ j, j ≠ i → t.policy j = s.policy j ∧ t.slot j = s.slot j ∧ t.link j = s.link j) ∧
      PolicyStepped s t y i { tag := k, num := s.cu.count, limit := maxPower.toNat, found := (s.slot i).state.code }
        (carriedPolicy classLimit admits maxPower) := by
  obtain ⟨y, t, v, installed, acted, run, submitted_, policies, records, ae, eu⟩ :=
    policy_happening high clear idle silent good
  obtain ⟨still_v, frame⟩ := installed.settled still
    { tag := k, num := s.cu.count, limit := maxPower.toNat, found := (s.slot i).state.code } silent period
  rw [still_v] at acted
  subst acted
  refine ⟨t, y, run, submitted_, (policies i).trans installed.policy, fun j other => ?_,
    ⟨installed, still, silent, rfl, (records i).1, (records i).2, ae, eu⟩⟩
  obtain ⟨slot_j, link_j, -⟩ := frame.2 j other
  rw [policies, (records j).1, (records j).2, slot_j, link_j]
  exact ⟨installed.others j other, installed.slot j, installed.link j⟩

end

/-- Settles O47: by state, what `PolicyStepped` says of the step. -/
theorem setSlotPolicyActsByState : Obligations.SetSlotPolicyActsByState := by
  intro s k slot classLimit admits maxPower high clear idle still
  obtain ⟨bad, checks⟩ : ∃ bad, badPolicy (.issued 2 (policyParams slot classLimit admits maxPower) s.cu.count) = bad :=
    ⟨_, rfl⟩
  have checks' := (badPolicy_issued slot classLimit admits maxPower s.cu.count).symm.trans checks
  cases bad with
  | some n =>
    obtain ⟨t, run, around, ae, settings, submitted_⟩ := policy_refused high clear idle checks
    have byte : byteOf n = if 7 < slot.toNat then 1 else if 3 < classLimit.toNat then 2
        else if maxPower.toNat = 0 ∨ 1023 < maxPower.toNat then 3 else 5 := by
      split_ifs at checks' ⊢ <;> cases checks' <;> rfl
    refine ⟨t, run, fun _ => ⟨around, ae, settings, byte ▸ submitted_⟩, fun i named c3 m0 m1023 a1 => ?_⟩
    have small : ¬7 < slot.toNat := named ▸ byteOf_slot_small i
    rw [if_neg small, if_neg (by omega), if_neg (by omega), if_neg (by omega)] at checks'
    cases checks'
  | none =>
    have good : ¬(7 < slot.toNat ∨ 3 < classLimit.toNat ∨ maxPower.toNat = 0 ∨ 1023 < maxPower.toNat ∨ 1 < admits.toNat) := by
      split_ifs at checks' with s7 c3 m0 a1
      tauto
    obtain ⟨i, rfl, only⟩ := named_slot fun large => good (.inl large)
    by_cases premises : (s.slot i).outbox = [] ∧ ((s.slot i).state = .resync → s.ae.resyncActive = true)
    case neg =>
      obtain ⟨t, run⟩ := exec_next (.setSlotPolicy (byteOf i.val) classLimit maxPower admits) s
      refine ⟨t, run, fun h => absurd h good, fun j named _ _ _ _ silent period => ?_⟩
      cases only j named
      exact absurd ⟨silent, period⟩ premises
    obtain ⟨silent, period⟩ := premises
    obtain ⟨t, y, run, submitted_, policy, others, stepped⟩ := policy_stepped high clear idle still silent period checks
    refine ⟨t, run, fun h => absurd h good, fun j named _ _ _ a1 _ _ => ?_⟩
    cases only j named
    have allowed (one : admits = 1) : (carriedPolicy classLimit admits maxPower).admits = true := by rw [one]; rfl
    have refused (zero : admits = 0) : (carriedPolicy classLimit admits maxPower).admits = false := by rw [zero]; rfl
    have entered : (if (carriedPolicy classLimit admits maxPower).admits then SlotState.waiting else .parked) =
        if admits = 1 then .waiting else .parked := by
      rcases byte_le_one a1 with h | h <;> rw [h] <;> rfl
    refine ⟨submitted_, policy, others, stepped.untouched, fun state => ?_,
      fun state left low => stepped.stands (state.imp (And.imp_right allowed) (Or.imp_left (And.imp_right refused))) left low,
      stepped.powered_low, fun state left none_ => stepped.parks state left (refused none_),
      fun state left one => stepped.joins state left (allowed one), fun state left listed above unsynced => ?_,
      fun state unleft => ?_, stepped.owes, fun l current state above => stepped.powered current state above,
      fun l current d reduction state above => stepped.reducing current reduction state above⟩
    · obtain ⟨own, others, ae, link, eu, slot⟩ := stepped.resync state
      exact ⟨own, others, ae, link, eu, slot⟩
    · obtain ⟨⟨st, current, class_, offered, watch, outbox⟩, ⟨claim, mark⟩, off, grants, entries, ⟨exchange, pending, waiting⟩, eu⟩ :=
        stepped.undone state left listed above unsynced
      refine ⟨st.trans entered, current, class_, offered, watch, outbox, claim, mark, fun powering => ?_, grants,
        fun one => entries (allowed one), exchange, pending, waiting, eu⟩
      obtain ⟨en, granted⟩ := off powering
      exact ⟨by rw [State.enHigh, en]; exact Bool.and_false _, granted⟩
    · obtain ⟨⟨cause, strikes, st, current, class_, outbox⟩, claim, entries, eu⟩ := stepped.overMax state unleft
      exact ⟨cause, strikes, st, current, class_, outbox, claim, entries, eu⟩

end Sys2Proof.Machine
end

section
/-! A new DERATE_N level (R2, R3): EB and excess evaluated anew, and what a queue of commands leaves of the level. -/

namespace Sys2Proof.Machine

/-! ### The values of R1 and R2 -/

/-- What EB is made of (R1 to R3). -/
def Ae.limits (a : Ae) : Nat × Nat × Nat × Bool := (a.budget, a.reserve, a.derated, a.derateN)

theorem limits_of_account {s t : State} (same : t.ae.account = s.ae.account) : t.ae.limits = s.ae.limits :=
  show t.ae.account.limits = s.ae.account.limits by rw [same]

@[simp] theorem evalExcess_limits (s : State) : s.evalExcess.ae.limits = s.ae.limits := by
  rw [evalExcess_ae]; rfl

theorem rulesClosed_limits (x : Nat × Nat × Nat × Bool) : RulesClosed fun s => s.ae.limits = x where
  event _ _ _ _ _ h := h
  blocked _ _ _ h := h
  reduce s i index power h := (limits_of_account (account_takeReduce s i index power .reclaim)).trans h
  opened _ _ _ _ h := h
  converted _ _ h := h
  ended _ h := h
  offer s i _ _ _ h := (evalExcess_limits _).trans ((limits_of_account (account_leaveQueue s i)).trans h)
  raise _ i _ _ _ h := (limits_of_account (account_takeRaise _ i _)).trans ((evalExcess_limits _).trans h)

theorem noticeClosed_limits (x : Nat × Nat × Nat × Bool) : NoticeClosed (fun s => s.ae.limits = x) False where
  event _ _ _ _ _ h := h
  entry _ _ _ _ h := h
  holding s i k _ h := by
    refine (evalExcess_limits _).trans ?_
    split <;> exact h
  place _ _ _ _ h := h
  entering s i _ _ h := (limits_of_account (account_admitDemand s i)).trans h
  current _ _ _ _ _ h := h
  floor s i h := by
    unfold State.followFloor
    split <;> exact h
  mapping s i h := by
    obtain eq | ⟨l, -, -, ⟨-, eq⟩ | ⟨k, x, -, eq⟩⟩ := mapRestatement_cases s i <;> rw [eq] <;> exact h
  counted _ _ h := h
  period _ h := h
  judged _ _ _ _ h := h

theorem limits_takePolicy (s : State) (i : SlotId) : (s.takePolicy i).ae.limits = s.ae.limits := by
  unfold State.takePolicy
  dsimp only
  refine ActClosed.foldl (P := fun t => t.ae.limits = s.ae.limits)
    (fun t n h => (noticeClosed_limits s.ae.limits).account i n (fun _ strict => strict.elim) h) _ ?_
  split
  · exact evalExcess_limits _
  · rfl

theorem limits_policyStep (s : State) (q : PolicyReq) : (s.policyStep q).ae.limits = s.ae.limits := by
  have part := limits_of_account (AccountFrame.policyPart s q.slot).1
  have reduced (t : State) : (t.policyReduce q.slot).ae.limits = t.ae.limits :=
    limits_of_account ((AccountFrame.policyReduce_iff q.slot).mpr (.refl t)).1
  have acted := (reduced _).trans ((limits_takePolicy _ q.slot).trans part)
  unfold State.policyStep
  dsimp only
  refine (rulesClosed_limits s.ae.limits).aeRules true ?_
  generalize State.policyReduce .. = u at acted ⊢
  split
  · exact acted
  · exact acted

/-! ### Commands leave the level -/

/-- The level of DERATE_N in use, and the levels at the pins. -/
def State.levelIs (d : Bool) (v : Inputs) (s : State) : Prop := s.ae.derateN = d ∧ s.inputs = v

theorem derateN_of_limits {s t : State} (same : t.ae.limits = s.ae.limits) : t.ae.derateN = s.ae.derateN :=
  congrArg (fun x => x.2.2.2) same

theorem State.levelIs.of_limits {s t : State} {d : Bool} {v : Inputs} (h : s.levelIs d v)
    (limits : t.ae.limits = s.ae.limits) (frame : EngineFrame s t) : t.levelIs d v :=
  ⟨(derateN_of_limits limits).trans h.1, frame.2.2.1.trans h.2⟩

theorem limits_aeRules (s : State) (due : Bool) : (s.aeRules due).ae.limits = s.ae.limits :=
  (rulesClosed_limits s.ae.limits).aeRules due rfl

/-- No command changes the level of DERATE_N. -/
theorem commandClosed_levelIs (d : Bool) (v : Inputs) : CommandClosed (State.levelIs d v) where
  slot i f s act h := h.of_limits (limits_of_account (SlotAct.account i act s).1) (act.frame s).engine
  rules s due h := h.of_limits (limits_aeRules s due) (by simp)
  budgets s b r e h := by
    have installed := evalExcess_limits { s with ae := { s.ae with budget := b, reserve := r, derated := e } }
    exact ⟨(congrArg (fun x => x.2.2.2) installed).trans h.1, (evalExcess_inputs _).trans h.2⟩
  hold _ _ h := h
  policyWait _ _ h := h
  timing _ _ h := h
  policy _ _ _ _ h := h
  policyStep s q _ h := h.of_limits (limits_policyStep s q) (EngineFrame.policyStep s q)
  start _ _ _ h := h
  conclude _ _ _ _ h := h

/-! ### The happening -/

/-- The state in which the level at the pin stands, time having passed, and the AE has not taken it. -/
def State.derateSampled (s : State) (level : Bool) : State :=
  { s.elapse with inputs := { s.inputs with derateN := level } }

/-- EB at a level of DERATE_N (R3). -/
def Ae.effectiveAt (a : Ae) (level : Bool) : Nat := if level then a.budget else min a.budget a.derated

/-- The account after a new level (R2, R3, R13), before the decision rules. -/
def State.derateTo (s : State) (level : Bool) : State :=
  (({ s.derateSampled level with ae := { s.ae with derateN := level } } : State).event
    (if level then .derateOff else .derateOn) none 0 (s.ae.effectiveAt level)).evalExcess

section
variable (s : State) (level : Bool)

theorem derateTo_frame : EngineFrame (s.derateSampled level) (s.derateTo level) :=
  evalExcess_engine (({ s.derateSampled level with ae := { s.ae with derateN := level } } : State).event
    (if level then .derateOff else .derateOn) none 0 (s.ae.effectiveAt level))

theorem derateTo_ae : (s.derateTo level).ae =
    { s.ae with derateN := level, excess := decide (s.ae.effectiveAt level < s.ae.committed) } :=
  evalExcess_ae _

@[simp] theorem slot_derateTo (j : SlotId) : (s.derateTo level).slot j = s.slot j := by
  rw [State.slot, State.derateTo, evalExcess_slots]; rfl
@[simp] theorem entry_derateTo (j : SlotId) : (s.derateTo level).entry j = s.entry j := by
  rw [State.entry, derateTo_ae]; rfl
@[simp] theorem derateTo_slots : (s.derateTo level).slots = s.slots := evalExcess_slots _
@[simp] theorem derateTo_links : (s.derateTo level).links = s.links := evalExcess_links _
theorem derateTo_cu : (s.derateTo level).cu = s.cu := (derateTo_frame s level).2.2.2.1
theorem derateTo_effective : (s.derateTo level).ae.effective = s.ae.effectiveAt level := by rw [derateTo_ae]; rfl
theorem derateTo_committed : (s.derateTo level).ae.committed = s.ae.committed := by rw [derateTo_ae]; rfl

theorem derateTo_eu : (s.derateTo level).eu =
    let derated := s.elapse.event (if level then .derateOff else .derateOn) none 0 (s.ae.effectiveAt level)
    if s.ae.effectiveAt level < s.ae.committed then
      if s.ae.excess then derated.eu
      else (derated.event .budgetExcess none 0 (s.ae.committed - s.ae.effectiveAt level)).eu
    else if s.ae.excess then (derated.event .budgetOk none 0 (s.ae.effectiveAt level - s.ae.committed)).eu
    else derated.eu :=
  evalExcess_eu _

/-- The rules after a new level, the exit from excess not yet handed on. -/
def State.derateRuled : State := (s.derateTo level).aeRules (passCause (s.derateSampled level) (s.derateTo level))

theorem derateRuled_frame : EngineFrame (s.derateSampled level) (s.derateRuled level) :=
  (EngineFrame.aeRules_iff _).mpr (derateTo_frame s level)

theorem derateRuled_limits : (s.derateRuled level).ae.limits = (s.ae.budget, s.ae.reserve, s.ae.derated, level) :=
  (limits_aeRules _ _).trans (by rw [derateTo_ae]; rfl)

theorem derateRuled_running : (s.derateRuled level).running = s.running :=
  running_of_cu (derateRuled_frame s level).2.2.2.1

theorem derateRuled_cmd (u : Fin 4) : (s.derateRuled level).cmd u = s.cmd u := by
  have cu := (derateRuled_frame s level).2.2.2.1
  rw [State.cmd, cu]
  rfl

variable {s level}

theorem derate_happening (high : s.resetLow = false) (new : s.ae.derateN ≠ level) :
    exec (.derateNLevel level) s = .next ((s.derateRuled level).excessExit s.ae.excess) := by
  show execDerateNLevel level s = _
  rw [execDerateNLevel, happening_running _ high, State.takeDerate, if_neg (by exact new)]
  rfl

/-- With no command RUNNING, an exit from excess concerns none. -/
theorem derateRuled_exit (idle : s.running = none) (before : Bool) :
    (s.derateRuled level).excessExit before = s.derateRuled level := by
  unfold State.excessExit
  rw [derateRuled_running, idle]

/-- HOLD leaves the account as the level left it, where no reclaim is active and none may start. -/
theorem derateRuled_held (hold : s.ae.hold = true) (quiet : s.ae.reclaim.active = false)
    (unreclaimable : s.ae.committed ≤ s.ae.effectiveAt level ∨ s.budgetCandidates = []) :
    s.derateRuled level = s.derateTo level := by
  refine State.aeRules_held _ (by rw [derateTo_ae]; exact hold) ⟨fun _ => ?_, fun active => ?_⟩
  · rcases unreclaimable with within | none_
    · exact .inl (by rw [derateTo_ae]; exact decide_eq_false (by omega))
    · refine .inr (.inr ?_)
      rw [← none_]
      exact budgetCandidates_congr (derateTo_slots s level) (by rw [derateTo_ae])
  · rw [derateTo_ae] at active
    exact absurd active (by rw [quiet]; exact Bool.false_ne_true)

/-- The excess condition stays right through the decision rules. -/
theorem rulesClosed_excessRight : RulesClosed State.excessRight := by
  have kept {s t : State} (same : t.ae.account = s.ae.account) (h : s.excessRight) : t.excessRight := by
    unfold State.excessRight
    rw [excess_of_account same, effective_of_account same, committed_of_account same]
    exact h
  exact {
    event := fun _ _ _ _ _ h => h
    blocked := fun s i x h => kept (account_blocked s i x) h
    reduce := fun s i index power h => kept (account_takeReduce s i index power .reclaim) h
    opened := fun _ _ _ _ h => h
    converted := fun _ _ h => h
    ended := fun _ h => h
    offer := fun _ _ _ _ _ _ => evalExcess_right _
    raise := fun _ i p _ _ _ => kept (account_takeRaise _ i _) (evalExcess_right _) }

end

/-! ### The exit from excess (R149) -/

section
variable {s : State} {before : Bool}

/-- Where no command waits, an exit from excess at most concludes the RUNNING one. -/
theorem excessExit_unqueued (unqueued : ∀ u, (s.cmd u).state ≠ .queued) :
    s.excessExit before = s ∨ ∃ k, s.excessExit before = s.conclude k .ok 1 := by
  unfold State.excessExit
  split
  · split
    · refine .inr ⟨_, startNext_unqueued fun u => ?_⟩
      rw [conclude_cmd]
      split
      · exact CmdResult.concludes_ne_queued .ok
      · exact unqueued u
    · exact .inl rfl
  · exact .inl rfl

theorem excessExit_concludes {k : Fin 4} (runs : s.running = some k) (code : (s.cmd k).code = 1)
    (left : s.ae.excess = false) (unqueued : ∀ u, (s.cmd u).state ≠ .queued) :
    s.excessExit true = s.conclude k .ok 1 := by
  unfold State.excessExit
  rw [runs]
  refine (if_pos (by simp [left, code])).trans (startNext_unqueued fun u => ?_)
  rw [conclude_cmd]
  split
  · exact CmdResult.concludes_ne_queued .ok
  · exact unqueued u

end

/-- The events of a new level that HOLD leaves with no decision. -/
theorem derateTo_events {s : State} {level : Bool} : (s.derateTo level).eu =
    if (s.derateTo level).ae.excess && !s.ae.excess then
      ((s.elapse.eu.append (if level then .derateOff else .derateOn) none 0
        (BitVec.ofNat 16 (s.derateTo level).ae.effective)).append .budgetExcess none 0
          (BitVec.ofNat 16 (s.ae.committed - (s.derateTo level).ae.effective)))
    else if s.ae.excess && !(s.derateTo level).ae.excess then
      ((s.elapse.eu.append (if level then .derateOff else .derateOn) none 0
        (BitVec.ofNat 16 (s.derateTo level).ae.effective)).append .budgetOk none 0
          (BitVec.ofNat 16 ((s.derateTo level).ae.effective - s.ae.committed)))
    else s.elapse.eu.append (if level then .derateOff else .derateOn) none 0
      (BitVec.ofNat 16 (s.derateTo level).ae.effective) := by
  have excess : (s.derateTo level).ae.excess = decide (s.ae.effectiveAt level < s.ae.committed) := by rw [derateTo_ae]
  rw [derateTo_eu, derateTo_effective, excess]
  by_cases over_ : s.ae.effectiveAt level < s.ae.committed <;> cases before : s.ae.excess <;>
    simp only [over_, decide_true, decide_false, Bool.not_true, Bool.not_false, Bool.and_true, Bool.and_false,
      if_true, if_false, Bool.false_eq_true] <;> rfl

/-- Settles O14: the level taken by `derate_happening`; the decision rules by what they keep, and under HOLD by
`derateRuled_held`. -/
theorem derateLevelRecomputesBudget : Obligations.DerateLevelRecomputesBudget := by
  intro s level high new _
  have ruled : (s.derateRuled level).levelIs level { s.inputs with derateN := level } :=
    ⟨congrArg (fun x => x.2.2.2) (derateRuled_limits s level), (derateRuled_frame s level).2.2.1⟩
  obtain ⟨level_t, inputs_t⟩ := (commandClosed_levelIs _ _).excessExit s.ae.excess ruled
  have limits := derateRuled_limits s level
  have budget : (s.derateRuled level).ae.budget = s.ae.budget := congrArg (fun x => x.1) limits
  have derated : (s.derateRuled level).ae.derated = s.ae.derated := congrArg (fun x => x.2.2.1) limits
  refine ⟨_, derate_happening high new, level_t, inputs_t, fun unqueued => ?_, fun idle => ?_,
    fun k runs code unqueued hold quiet excess within => ?_⟩
  · have ae : ((s.derateRuled level).excessExit s.ae.excess).ae = (s.derateRuled level).ae := by
      obtain same | ⟨k, same⟩ := excessExit_unqueued (s := s.derateRuled level) (before := s.ae.excess)
        (fun u => by rw [derateRuled_cmd]; exact unqueued u) <;> rw [same]
      rfl
    rw [ae]
    refine ⟨budget, derated, ?_⟩
    rw [Ae.effective, budget, derated, ruled.1]
  · obtain ⟨pending, low, -, cu, wu, port, -⟩ := derateRuled_frame s level
    have host : sameHost s (s.derateRuled level) := ⟨pending, low, cu, wu, port⟩
    rw [derateRuled_exit idle]
    refine ⟨rulesClosed_excessRight.aeRules _ (evalExcess_right _), host, budget, derated,
      fun hold quiet none_ => ?_⟩
    rw [derateRuled_held hold quiet (.inr none_)]
    refine ⟨derateTo_slots s level, derateTo_links s level, ?_, derateTo_events⟩
    rw [derateTo_effective, derateTo_ae]
  · have effective : ((s.derateRuled level).excessExit s.ae.excess).ae.effective = s.ae.effectiveAt level := by
      obtain same | ⟨j, same⟩ := excessExit_unqueued (s := s.derateRuled level) (before := s.ae.excess)
        (fun u => by rw [derateRuled_cmd]; exact unqueued u) <;> rw [same]
      · rw [Ae.effective, budget, derated, ruled.1]; rfl
      · show (s.derateRuled level).ae.effective = _
        rw [Ae.effective, budget, derated, ruled.1]; rfl
    rw [effective] at within ⊢
    have held := derateRuled_held hold quiet (.inl within)
    have calm : (s.derateTo level).ae.excess = false := by rw [derateTo_ae]; exact decide_eq_false (by omega)
    have exits : (s.derateRuled level).excessExit s.ae.excess = (s.derateTo level).conclude k .ok 1 := by
      rw [excess, ← held]
      exact excessExit_concludes ((derateRuled_running s level).trans runs) (by rw [derateRuled_cmd]; exact code)
        (by rw [held]; exact calm) (fun u => by rw [derateRuled_cmd]; exact unqueued u)
    have cmd (u : Fin 4) : (s.derateTo level).cmd u = s.cmd u := by rw [← held, derateRuled_cmd]
    rw [exits]
    refine ⟨?_, fun u other => ?_, derateTo_slots s level, derateTo_links s level, ?_, ?_⟩
    · rw [conclude_cmd, if_pos rfl, cmd]; rfl
    · rw [conclude_cmd, if_neg other, cmd]
    · show (s.derateTo level).ae = _
      rw [derateTo_ae]
      exact congrArg (fun x => ({ s.ae with derateN := level, excess := x } : Ae)) (decide_eq_false (Nat.not_lt.mpr within))
    · have unnamed : (s.cmd k).namedSlot = none := by rw [CmdSlot.namedSlot, code]; rfl
      rw [conclude_eu, cmd, unnamed]
      show ((s.derateTo level).eu.append _ _ _ _) = _
      rw [derateTo_eu]
      dsimp only
      rw [if_neg (Nat.not_lt.mpr within), if_pos excess]
      rfl

end Sys2Proof.Machine
end

section
/-! The requests of a reclaim (R118, R119) slot by slot, and a choice of victims read off another state (R115 to R117). -/

namespace Sys2Proof.Machine

/-! ### Candidates and victims of like states -/

/-- Candidates depend on the grant order list and on the slots in POWERED alone. -/
theorem candidates_congr {s t : State} {p q : SlotId → Bool} (order : t.ae.grantOrder = s.ae.grantOrder)
    (same : ∀ j, (t.slot j).state = .powered ∨ (s.slot j).state = .powered →
      (t.slot j).state = (s.slot j).state ∧ (t.slot j).effClass = (s.slot j).effClass ∧ p j = q j) :
    t.candidates p = s.candidates q := by
  have each (c : Nat) (j : SlotId) : (((t.slot j).state == .powered && p j) && (t.slot j).effClass == c) =
      (((s.slot j).state == .powered && q j) && (s.slot j).effClass == c) := by
    by_cases powered : (t.slot j).state = .powered ∨ (s.slot j).state = .powered
    · obtain ⟨state, effClass, condition⟩ := same j powered
      rw [state, effClass, condition]
    · have out_t : ((t.slot j).state == .powered) = false := by simpa using fun h => powered (.inl h)
      have out_s : ((s.slot j).state == .powered) = false := by simpa using fun h => powered (.inr h)
      simp only [out_t, out_s, Bool.false_and]
  simp only [State.candidates, State.shedding, State.ofClass, List.filter_flatMap, List.filter_filter, each, order]

section
variable {s t : State} {need : Nat}

/-- A choice of victims depends on the candidates' lists and claims alone. -/
theorem selectVictims_congr {pool : List SlotId}
    (same : ∀ j ∈ pool, (t.slot j).current = (s.slot j).current ∧ (t.entry j).claim = (s.entry j).claim) :
    t.selectVictims need pool = s.selectVictims need pool := by
  have floor {j : SlotId} (h : (t.slot j).current = (s.slot j).current) : t.floorPower j = s.floorPower j := by
    rw [State.floorPower, h, State.floorPower]
  have first (a : Selection) : t.stage1 need pool a = s.stage1 need pool a := by
    induction pool generalizing a with
    | nil => rfl
    | cons j pool ih =>
      obtain ⟨current, claim⟩ := same j List.mem_cons_self
      have reducible : t.reducible j = s.reducible j := by simp only [State.reducible, current, claim]
      have reduces : t.reduceEntry j = s.reduceEntry j := by simp only [State.reduceEntry, current, claim, floor current]
      simp only [State.stage1, reducible, reduces, ih fun k member => same k (.tail _ member)]
  have second (a : Selection) : t.stage2 need pool a = s.stage2 need pool a := by
    clear first
    induction pool generalizing a with
    | nil => rfl
    | cons j pool ih =>
      obtain ⟨current, claim⟩ := same j List.mem_cons_self
      have revokes : t.revokeOne j a = s.revokeOne j a := by
        simp only [State.revokeOne, State.revokeEntry, claim, floor current]
      simp only [State.stage2, revokes, ih fun k member => same k (.tail _ member)]
  rw [State.selectVictims, first, second, State.selectVictims]

end

/-- Victims chosen from candidates: each once, in POWERED and PENDING. -/
theorem selectVictims_candidates (s : State) (need : Nat) (p : SlotId → Bool) (nodup : s.ae.grantOrder.Nodup) :
    ((s.selectVictims need (s.candidates p)).map Victim.slot).Nodup ∧
      ∀ v ∈ s.selectVictims need (s.candidates p), v.outcome = .pending ∧ (s.slot v.slot).state = .powered ∧
        p v.slot = true := by
  obtain ⟨each, chosen, -⟩ := selectVictims_chosenFrom s need (pool := s.candidates p) ((shedding_nodup nodup).filter _)
  refine ⟨each, fun v member => ?_⟩
  obtain ⟨candidate, shape⟩ := chosen v member
  simp only [State.candidates, List.mem_filter, Bool.and_eq_true, beq_iff_eq] at candidate
  refine ⟨?_, candidate.2⟩
  obtain eq | ⟨-, eq⟩ := shape <;> rw [eq] <;> rfl

/-! ### The requests -/

section
variable (s : State) (l : List Victim)

@[simp] theorem requestReductions_ae : (s.requestReductions l).ae = s.ae := by
  unfold State.requestReductions
  induction l generalizing s with
  | nil => rfl
  | cons v l ih => exact (ih _).trans (takeReduce_ae ..)

end

theorem takeReduce_other (s : State) {i j : SlotId} (other : j ≠ i) (index power : Nat) (origin : Origin) :
    (s.takeReduce i index power origin).slot j = s.slot j ∧ (s.takeReduce i index power origin).link j = s.link j := by
  obtain ⟨slot, link, -⟩ := ((SlotFrame.takeReduce_iff (s := s) index power origin).mpr (.refl i s)).2 j other
  exact ⟨slot, link⟩

/-- A victim's record once its SS has taken the request: any pending list is dropped first (R57, R119). -/
def SlotRec.reclaimed (r : SlotRec) (v : Victim) (deadline : Nat) : SlotRec :=
  SlotRec.reducingTo { r with restated := none } v.targetIndex v.targetPower .reclaim deadline

theorem takeReduce_reclaimed {s : State} {v : Victim} (powered : (s.slot v.slot).state = .powered) :
    (s.takeReduce v.slot v.targetIndex v.targetPower .reclaim).slot v.slot =
      (s.slot v.slot).reclaimed v (s.cu.settings.reduceSteps * 10) := by
  have cu : (s.dropPending v.slot).cu = s.cu := by
    unfold State.dropPending
    split <;> rfl
  have begins : s.takeReduce v.slot v.targetIndex v.targetPower .reclaim =
      (s.dropPending v.slot).beginReduce v.slot v.targetIndex v.targetPower .reclaim := by
    simp only [State.takeReduce, powered]
  rw [begins, slot_beginReduce, dropPending_slot, cu]
  rfl

section
variable {s : State} {l : List Victim}

/-- The requests leave every slot alone that is no victim. -/
theorem requestReductions_other {j : SlotId} (apart : ∀ v ∈ l, v.slot ≠ j) :
    (s.requestReductions l).slot j = s.slot j ∧ (s.requestReductions l).link j = s.link j := by
  unfold State.requestReductions
  induction l generalizing s with
  | nil => exact ⟨rfl, rfl⟩
  | cons v l ih =>
    obtain ⟨slot, link⟩ := takeReduce_other s (apart v List.mem_cons_self).symm v.targetIndex v.targetPower .reclaim
    obtain ⟨slot', link'⟩ := ih (s := s.takeReduce v.slot v.targetIndex v.targetPower .reclaim)
      fun w member => apart w (.tail _ member)
    exact ⟨slot'.trans slot, link'.trans link⟩

/-- Each victim takes its own request. -/
theorem requestReductions_victim (each : (l.map Victim.slot).Nodup) (powered : ∀ v ∈ l, (s.slot v.slot).state = .powered)
    {v : Victim} (member : v ∈ l) :
    (s.requestReductions l).slot v.slot = (s.slot v.slot).reclaimed v (s.cu.settings.reduceSteps * 10) := by
  induction l generalizing s with
  | nil => cases member
  | cons w l ih =>
    obtain ⟨once, each⟩ := List.nodup_cons.mp each
    have apart (u : Victim) (listed : u ∈ l) : u.slot ≠ w.slot := fun same => once (List.mem_map.mpr ⟨u, listed, same⟩)
    have kept (u : Victim) (listed : u ∈ l) :
        (s.takeReduce w.slot w.targetIndex w.targetPower .reclaim).slot u.slot = s.slot u.slot :=
      (takeReduce_other s (apart u listed) ..).1
    have cu : (s.takeReduce w.slot w.targetIndex w.targetPower .reclaim).cu = s.cu :=
      ((SlotFrame.takeReduce_iff (s := s) w.targetIndex w.targetPower .reclaim).mpr (.refl w.slot s)).engine.2.2.2.1
    rcases List.mem_cons.mp member with rfl | later
    · exact (requestReductions_other (s := s.takeReduce v.slot v.targetIndex v.targetPower .reclaim) apart).1.trans
        (takeReduce_reclaimed (powered v List.mem_cons_self))
    · have taken := ih (s := s.takeReduce w.slot w.targetIndex w.targetPower .reclaim) each
        (fun u listed => by rw [kept u listed]; exact powered u (.tail _ listed)) later
      rw [kept v later, cu] at taken
      exact taken

/-- Where the slot holds no pending list, a request appends no event, and brings no pending list. -/
theorem takeReduce_unpending (s : State) (i : SlotId) (index power : Nat) (origin : Origin)
    (none_ : (s.slot i).restated = none) : (s.takeReduce i index power origin).eu = s.eu ∧
      ((s.takeReduce i index power origin).slot i).restated = none := by
  unfold State.takeReduce
  split
  · rw [State.dropPending, if_neg (by rw [none_]; exact Bool.false_ne_true), slot_beginReduce]
    exact ⟨beginReduce_eu .., none_⟩
  · rw [slot_upgrade]
    exact ⟨(upgrade_rest ..).2.1, none_⟩
  · rw [State.owe, slot_modSlot_same]
    exact ⟨rfl, none_⟩
  · exact ⟨rfl, none_⟩

/-- Where no victim holds a pending list, the requests append no event. -/
theorem requestReductions_eu (unpending : ∀ v ∈ l, (s.slot v.slot).restated = none) :
    (s.requestReductions l).eu = s.eu := by
  induction l generalizing s with
  | nil => rfl
  | cons w l ih =>
    obtain ⟨eu, kept⟩ := takeReduce_unpending s w.slot w.targetIndex w.targetPower .reclaim
      (unpending w List.mem_cons_self)
    refine (ih (s := s.takeReduce w.slot w.targetIndex w.targetPower .reclaim) fun v member => ?_).trans eu
    by_cases own : v.slot = w.slot
    · rw [own]; exact kept
    · rw [(takeReduce_other s own ..).1]; exact unpending v (.tail _ member)

end

end Sys2Proof.Machine
end

section
/-! The decision rules case by case: the BUDGET trigger (R118), the conversion (R134), and a pass that offers nothing
(R94 to R98, R103). -/

namespace Sys2Proof.Machine

/-! ### Rules without a pass -/

section
variable {s : State}

theorem endTests_idle (quiet : s.ae.reclaim.active = false) : s.endTests = s :=
  if_neg (by rw [quiet]; exact Bool.false_ne_true)

theorem budgetTrigger_active (active : s.ae.reclaim.active = true) : s.budgetTrigger = s :=
  if_neg (by simp [active])

theorem budgetTrigger_calm (calm : s.ae.excess = false) : s.budgetTrigger = s :=
  if_neg (by simp [calm])

/-- With no reclaim active and no pass due, the BUDGET trigger is all there is. -/
theorem aeRules_trigger (quiet : s.ae.reclaim.active = false) : s.aeRules false = s.budgetTrigger := by
  simp [State.aeRules, endTests_idle quiet, reclaimCause, quiet]

/-- HOLD bars every pass (R101). -/
theorem aeRules_hold (due : Bool) (hold : s.endTests.budgetTrigger.ae.hold = true) :
    s.aeRules due = s.endTests.budgetTrigger := by
  simp [State.aeRules, hold]

theorem budgetTrigger_starts (excess : s.ae.excess = true) (quiet : s.ae.reclaim.active = false)
    (over_ : s.ae.resyncActive = false) (some_ : s.budgetCandidates ≠ []) : s.budgetTrigger = s.startBudget :=
  if_pos (by simp [excess, quiet, over_, some_])

end

/-! ### Nothing fits -/

theorem firstPoint_none {p : Point → Bool} {l : List Point} (h : ∀ x ∈ l, p x = false) (k : Nat) :
    firstPoint p k l = none := by
  induction l generalizing k with
  | nil => rfl
  | cons x l ih =>
    rw [firstPoint, h x List.mem_cons_self]
    exact ih (fun y member => h y (.tail _ member)) _

/-- Under excess nothing fits a list whose points have powers (R11, R46, R92). -/
theorem fitting_over {s : State} {i : SlotId} (over_ : s.ae.effective < s.ae.committed)
    (powers : ∀ l, (s.slot i).current = some l → ∀ x ∈ l.points, x.power ≠ 0) : s.fitting i = none := by
  have nothing : s.available i = 0 := by unfold State.available; omega
  unfold State.fitting
  rw [nothing]
  cases current : (s.slot i).current with
  | none => rfl
  | some l =>
    refine firstPoint_none (fun x member => ?_) 1
    have := powers l current x member
    simp
    omega

section
variable {s : State} (unfit : ∀ i, s.fitting i = none)
include unfit

theorem backfill_unfit (l : List SlotId) : s.backfill l = s := by
  unfold State.backfill
  split
  · induction l with
    | nil => rfl
    | cons i l ih =>
      rw [List.foldl_cons, unfit i]
      simp only [ite_self]
      exact ih
  · rfl

end

theorem fitting_block (s : State) (h i : SlotId) (reason : Nat) : (s.block h reason).fitting i = s.fitting i := by
  unfold State.block
  split
  · rfl
  · have committed : (s.modEntry h fun e => { e with blocked := true }).ae.committed = s.ae.committed :=
      committed_modEntry_keep s h _ rfl
    show State.fitting (s.modEntry h fun e => { e with blocked := true }) i = _
    unfold State.fitting State.available
    rw [committed]
    rfl

theorem settleHead_blocked {s : State} {h : SlotId} {reason : Nat} (blocks : s.blockReason h = some reason) :
    s.settleHead h = s.block h reason := by
  rw [State.settleHead, blocks]

/-- While a reclaim is active a pass in which nothing fits finds the head blocked, or its beneficiary there. -/
theorem allocationPass_unfit {s : State} (active : s.ae.reclaim.active = true) (unfit : ∀ i, s.fitting i = none) :
    s.allocationPass = s ∨ ∃ h, s.allocationPass = s.block h 1 := by
  unfold State.allocationPass State.passFrom
  split
  · exact .inl rfl
  · rename_i h rest _
    split
    · exact .inl (backfill_unfit unfit rest)
    · rw [unfit h, settleHead_blocked (reason := 1) (by simp [State.blockReason, active])]
      exact .inr ⟨h, backfill_unfit (fun i => (fitting_block s h i 1).trans (unfit i)) rest⟩

/-- A block leaves the slots, the links, the reclaim record and the CU as they are. -/
theorem block_rest (s : State) (h : SlotId) (reason : Nat) : (s.block h reason).slots = s.slots ∧
    (s.block h reason).links = s.links ∧ (s.block h reason).ae.reclaim = s.ae.reclaim := by
  unfold State.block
  split <;> exact ⟨rfl, rfl, rfl⟩

theorem raisePass_active {s : State} (active : s.ae.reclaim.active = true) : s.raisePass = s :=
  if_neg (by simp [State.raisesAllowed, active])

/-- A reclaim that goes on while nothing fits: the rules leave the slots, the links and the record. -/
theorem passes_unfit {s : State} (active : s.ae.reclaim.active = true) (unfit : ∀ i, s.fitting i = none) :
    s.allocationPass.raisePass.slots = s.slots ∧ s.allocationPass.raisePass.links = s.links ∧
      s.allocationPass.raisePass.ae.reclaim = s.ae.reclaim := by
  obtain same | ⟨h, same⟩ := allocationPass_unfit active unfit <;> rw [same]
  · rw [raisePass_active active]
    exact ⟨rfl, rfl, rfl⟩
  · obtain ⟨slots, links, reclaim⟩ := block_rest s h 1
    rw [raisePass_active (by rw [reclaim]; exact active)]
    exact ⟨slots, links, reclaim⟩

/-! ### A derate that brings excess (R118, R134) -/

/-- The level that falls raises nothing: no pass is due. -/
theorem derate_undue {s : State} (level : s.ae.derateN = true) :
    passCause (s.derateSampled false) (s.derateTo false) = false := by
  have slot (i : SlotId) : (s.derateSampled false).slot i = s.slot i := rfl
  have entry (i : SlotId) : (s.derateSampled false).entry i = s.entry i := rfl
  have ae : (s.derateSampled false).ae = s.ae := rfl
  have falls : ¬ s.ae.effective < s.ae.effectiveAt false := by
    unfold Ae.effective Ae.effectiveAt
    rw [level]
    simp only [if_true, Bool.false_eq_true, if_false]
    omega
  have unmarked : (allSlots.any fun i => ((s.slot i).state != .waiting && (s.slot i).state == .waiting) ||
      decide ((s.entry i).claim < (s.entry i).claim) || ((s.entry i).mark != .none && (s.entry i).mark == .none)) =
      false := by
    rw [List.any_eq_false]
    intro i _
    by_cases waits : (s.slot i).state = .waiting <;> by_cases mark : (s.entry i).mark = .none <;> simp [waits, mark]
  unfold passCause
  simp only [slot_derateTo, entry_derateTo, slot, entry, ae, derateTo_effective, unmarked, falls]
  simp [derateTo_ae]

theorem derateTo_excess {s : State} (over_ : min s.ae.budget s.ae.derated < s.ae.committed) :
    (s.derateTo false).ae.excess = true := by
  rw [derateTo_ae]
  exact decide_eq_true over_

/-- The record of a BUDGET reclaim as it starts (R118). -/
def State.budgetReclaim (s : State) : Reclaim :=
  { active := true, kind := .budget, beneficiary := none, shortfall := s.ae.committed - s.ae.effective, earmark := 0
    victims := s.selectVictims (s.ae.committed - s.ae.effective) s.budgetCandidates, yieldTaken := 0 }

/-- A BUDGET reclaim starts: the record, RECLAIM_START and the requests. -/
theorem startBudget_eq (s : State) : s.startBudget =
    ((s.withReclaim s.budgetReclaim).event .reclaimStart none 2 (s.ae.committed - s.ae.effective)).requestReductions
      s.budgetReclaim.victims := rfl

/-- The first clause of R118: the derate starts the reclaim, and no pass follows. -/
theorem derate_starts {s : State} (over_ : min s.ae.budget s.ae.derated < s.ae.committed)
    (level : s.ae.derateN = true) (quiet : s.ae.reclaim.active = false)
    (period : s.ae.resyncActive = false) (some_ : s.budgetCandidates ≠ []) :
    s.derateRuled false = (s.derateTo false).startBudget := by
  have candidates : (s.derateTo false).budgetCandidates = s.budgetCandidates :=
    budgetCandidates_congr (derateTo_slots s false) (by rw [derateTo_ae])
  rw [State.derateRuled, derate_undue level, aeRules_trigger (by rw [derateTo_ae]; exact quiet)]
  exact budgetTrigger_starts (derateTo_excess over_) (by rw [derateTo_ae]; exact quiet)
    (by rw [derateTo_ae]; exact period) (by rw [candidates]; exact some_)

/-- The victims of a BUDGET reclaim. -/
theorem budgetReclaim_victims (u : State) (nodup : u.ae.grantOrder.Nodup) :
    (u.budgetReclaim.victims.map Victim.slot).Nodup ∧
      ∀ v ∈ u.budgetReclaim.victims, v.outcome = .pending ∧ (u.slot v.slot).state = .powered := by
  obtain ⟨each, chosen⟩ := selectVictims_candidates u (u.ae.committed - u.ae.effective) (fun _ => true) nodup
  exact ⟨each, fun v member => ⟨(chosen v member).1, (chosen v member).2.1⟩⟩

/-! ### The conversion (R134) -/

theorem current_requestReductions {s : State} {l : List Victim} (each : (l.map Victim.slot).Nodup)
    (powered : ∀ v ∈ l, (s.slot v.slot).state = .powered) (j : SlotId) :
    ((s.requestReductions l).slot j).current = (s.slot j).current := by
  by_cases victim : ∃ v ∈ l, v.slot = j
  · obtain ⟨v, member, rfl⟩ := victim
    rw [requestReductions_victim each powered member]
    rfl
  · rw [(requestReductions_other fun v member same => victim ⟨v, member, same⟩).1]

/-- The record of an ADMIT reclaim that a level converts, or not (R134). -/
structure Convertible (s : State) (b : SlotId) : Prop where
  beneficiary : s.ae.reclaim.beneficiary = some b
  active : s.ae.reclaim.active = true
  kind : s.ae.reclaim.kind = .admission
  unconcluded : s.ae.reclaim.concluded = false
  waits : (s.slot b).state = .waiting
  lists : s.listsRight

/-- The shortfall of the conversion, and the victims listed for it. -/
def State.convertNeed (s : State) : Nat := s.ae.committed - s.ae.effective - s.ae.reclaim.expectedYield

def State.convertAdded (s : State) : List Victim :=
  if s.convertNeed = 0 then [] else s.selectVictims s.convertNeed s.conversionCandidates

theorem convertAdded_victims (s : State) (nodup : s.ae.grantOrder.Nodup) :
    (s.convertAdded.map Victim.slot).Nodup ∧
      ∀ v ∈ s.convertAdded, v.outcome = .pending ∧ (s.slot v.slot).state = .powered := by
  unfold State.convertAdded
  split
  · exact ⟨List.nodup_nil, nofun⟩
  · obtain ⟨each, chosen⟩ := selectVictims_candidates s s.convertNeed (fun i => !listed i s.ae.reclaim.victims) nodup
    exact ⟨each, fun v member => ⟨(chosen v member).1, (chosen v member).2.1⟩⟩

/-- A conversion: the record, the requests and RECLAIM_CONVERTED. -/
theorem convert_added (s : State) :
    s.convert = ((s.withReclaim (s.converted s.convertNeed)).requestReductions s.convertAdded).event .reclaimConverted
      s.ae.reclaim.beneficiary s.convertAdded.length s.convertNeed := rfl

namespace Convertible

variable {s : State} {b : SlotId} (record : Convertible s b)
include record

/-- Under excess the end tests convert the reclaim: nothing fits its beneficiary. -/
theorem endTests (over_ : s.ae.effective < s.ae.committed) (excess : s.ae.excess = true) : s.endTests = s.convert := by
  have unfit : s.fitting b = none := fitting_over over_ fun l current => record.lists b l (.inl current)
  unfold State.endTests
  simp only [record.active, record.kind, record.beneficiary, if_true]
  simp [State.admitRules, record.waits, unfit, record.unconcluded, excess]

/-- The converted record, and the requests of the victims that it adds; whatever pass follows offers nothing. -/
theorem aeRules (due : Bool) (over_ : s.ae.effective < s.ae.committed) (excess : s.ae.excess = true)
    (nodup : s.ae.grantOrder.Nodup) : (s.aeRules due).slots = s.convert.slots ∧ (s.aeRules due).links = s.convert.links ∧
      (s.aeRules due).ae.reclaim = s.convert.ae.reclaim ∧ (s.ae.hold = true → s.aeRules due = s.convert) := by
  obtain ⟨each, chosen⟩ := convertAdded_victims s nodup
  have ae : s.convert.ae = { s.ae with reclaim := s.converted s.convertNeed } := by
    rw [convert_added]
    exact requestReductions_ae _ _
  have active : s.convert.ae.reclaim.active = true := by rw [ae]; exact record.active
  have unfit (j : SlotId) : s.convert.fitting j = none := by
    refine fitting_over (by rw [ae]; exact over_) fun l current => ?_
    have same : (s.convert.slot j).current = (s.slot j).current := by
      rw [convert_added]
      exact current_requestReductions (s := s.withReclaim (s.converted s.convertNeed)) each
        (fun v member => (chosen v member).2) j
    exact record.lists j l (.inl (same.symm.trans current))
  unfold State.aeRules
  dsimp only
  rw [record.endTests over_ excess, budgetTrigger_active active]
  split
  · rename_i passes
    obtain ⟨slots, links, reclaim⟩ := passes_unfit active unfit
    refine ⟨slots, links, reclaim, fun hold => ?_⟩
    have hold : s.convert.ae.hold = true := by rw [ae]; exact hold
    rw [hold] at passes
    simp at passes
  · exact ⟨rfl, rfl, rfl, fun _ => rfl⟩

end Convertible

end Sys2Proof.Machine
end

section
/-! A derate that brings excess: the BUDGET reclaim that starts, or the conversion (R118, R134). -/

namespace Sys2Proof.Machine

/-- The account that the derate leaves is that of a convertible record. -/
theorem Convertible.derateTo {s : State} {b : SlotId} (record : Convertible s b) : Convertible (s.derateTo false) b := by
  have reclaim : (s.derateTo false).ae.reclaim = s.ae.reclaim := by rw [derateTo_ae]
  obtain ⟨beneficiary, active, kind, unconcluded, waits, lists⟩ := record
  refine ⟨by rw [reclaim]; exact beneficiary, by rw [reclaim]; exact active, by rw [reclaim]; exact kind,
    by rw [reclaim]; exact unconcluded, by rw [slot_derateTo]; exact waits, fun i l holds => ?_⟩
  rw [slot_derateTo] at holds
  exact lists i l holds

section
variable {s : State}

theorem convertNeed_derateTo : (s.derateTo false).convertNeed =
    s.ae.committed - min s.ae.budget s.ae.derated - s.ae.reclaim.expectedYield := by
  rw [State.convertNeed, derateTo_effective, derateTo_committed, derateTo_ae]
  rfl

theorem convertAdded_derateTo : (s.derateTo false).convertAdded =
    if s.ae.committed - min s.ae.budget s.ae.derated - s.ae.reclaim.expectedYield = 0 then []
    else s.selectVictims (s.ae.committed - min s.ae.budget s.ae.derated - s.ae.reclaim.expectedYield)
      s.conversionCandidates := by
  have candidates : (s.derateTo false).conversionCandidates = s.conversionCandidates := by
    refine candidates_congr (by rw [derateTo_ae]) fun j _ => ?_
    rw [slot_derateTo, derateTo_ae]
    exact ⟨rfl, rfl, rfl⟩
  rw [State.convertAdded, convertNeed_derateTo, candidates]
  congr 1
  exact selectVictims_congr fun j _ => ⟨by rw [slot_derateTo], by rw [entry_derateTo]⟩

/-- A request's effect on its victim, told of the record before the derate. -/
theorem requested_victim {u : State} {l : List Victim} {v : Victim} (slots : ∀ j, u.slot j = s.slot j)
    (cu : u.cu = s.cu) (each : (l.map Victim.slot).Nodup) (powered : ∀ v ∈ l, (s.slot v.slot).state = .powered)
    (member : v ∈ l) :
    (u.requestReductions l).slot v.slot = (s.slot v.slot).reclaimed v (s.cu.settings.reduceSteps * 10) := by
  rw [requestReductions_victim each (fun w listed => by rw [slots]; exact powered w listed) member, slots, cu]

end

/-- Settles O15: `derate_starts` and the requests; `Convertible.aeRules` for the conversion. -/
theorem derateStartsBudgetReclaim : Obligations.DerateStartsBudgetReclaim := by
  intro s high level idle nodup over_
  have grants : (s.derateTo false).ae.grantOrder.Nodup := by rw [derateTo_ae]; exact nodup
  have answer := derate_happening (level := false) high (by rw [level]; exact Bool.noConfusion)
  rw [derateRuled_exit idle] at answer
  have short : (s.derateTo false).ae.committed - (s.derateTo false).ae.effective =
      s.ae.committed - min s.ae.budget s.ae.derated := by rw [derateTo_effective, derateTo_committed]; rfl
  refine ⟨_, answer, fun quiet period some_ => ?_, fun b own active kind unconcluded waits lists => ?_⟩
  · obtain ⟨pending, low, -, cu, wu, port, -⟩ := derateRuled_frame s false
    have host : sameHost s (s.derateRuled false) := ⟨pending, low, cu, wu, port⟩
    obtain ⟨each, chosen⟩ := budgetReclaim_victims (s.derateTo false) grants
    obtain ⟨v, victims⟩ : ∃ v : List Victim, (s.derateTo false).budgetReclaim.victims = v := ⟨_, rfl⟩
    rw [victims] at each chosen
    have powered (w : Victim) (member : w ∈ v) : (s.slot w.slot).state = .powered := by
      rw [← slot_derateTo s false]
      exact (chosen w member).2
    obtain ⟨u, opened⟩ : ∃ u : State, ((s.derateTo false).withReclaim (s.derateTo false).budgetReclaim).event
      .reclaimStart none 2 ((s.derateTo false).ae.committed - (s.derateTo false).ae.effective) = u := ⟨_, rfl⟩
    have slots (j : SlotId) : u.slot j = s.slot j := by rw [← opened]; exact slot_derateTo s false j
    have links (j : SlotId) : u.link j = s.link j := by
      rw [← opened]
      exact congrArg (fun x : Slots LinkRec => x[j.val]) (derateTo_links s false)
    have cu_u : u.cu = s.cu := by rw [← opened]; exact derateTo_cu s false
    have started : s.derateRuled false = u.requestReductions v := by
      rw [derate_starts over_ level quiet period some_, startBudget_eq, opened, victims]
    have ae : (s.derateRuled false).ae =
        { (s.derateTo false).ae with reclaim := (s.derateTo false).budgetReclaim } := by
      rw [started, requestReductions_ae, ← opened]
      rfl
    have slots_ae : (s.derateRuled false).ae.slots = s.ae.slots := by rw [ae, derateTo_ae]
    have record : (s.derateRuled false).ae.reclaim = (s.derateTo false).budgetReclaim := by rw [ae]
    rw [record, victims]
    refine ⟨rfl, rfl, rfl, rfl, rfl, short, slots_ae, fun w member => ?_, fun i apart => ?_, host⟩
    · rw [started, requested_victim slots cu_u each powered member]
      exact ⟨(chosen w member).1, powered w member, rfl, rfl, rfl, rfl⟩
    · obtain ⟨slot, link⟩ := requestReductions_other (s := u) apart
      rw [started, slot, link]
      exact ⟨slots i, links i⟩
  · have record : Convertible (s.derateTo false) b :=
      Convertible.derateTo ⟨own, active, kind, unconcluded, waits, lists⟩
    have over_u : (s.derateTo false).ae.effective < (s.derateTo false).ae.committed := by
      rw [derateTo_effective, derateTo_committed]; exact over_
    obtain ⟨same_slots, -, reclaim, held⟩ := record.aeRules (passCause (s.derateSampled false) (s.derateTo false)) over_u
      (derateTo_excess over_) grants
    obtain ⟨each, chosen⟩ := convertAdded_victims (s.derateTo false) grants
    have need := convertNeed_derateTo (s := s)
    have added := convertAdded_derateTo (s := s)
    rw [convert_added] at same_slots reclaim held
    intro n l
    have need : (s.derateTo false).convertNeed = n := need
    have added : (s.derateTo false).convertAdded = l := added
    rw [added] at each chosen same_slots reclaim held
    rw [need] at same_slots reclaim held
    have powered (w : Victim) (member : w ∈ l) : (s.slot w.slot).state = .powered := by
      rw [← slot_derateTo s false]
      exact (chosen w member).2
    obtain ⟨u, opened⟩ : ∃ u : State, (s.derateTo false).withReclaim ((s.derateTo false).converted n) = u := ⟨_, rfl⟩
    have slots (j : SlotId) : u.slot j = s.slot j := by rw [← opened]; exact slot_derateTo s false j
    have cu_u : u.cu = s.cu := by rw [← opened]; exact derateTo_cu s false
    rw [opened] at same_slots reclaim held
    have slot (j : SlotId) : (s.derateRuled false).slot j = (u.requestReductions l).slot j :=
      congrArg (fun x : Slots SlotRec => x[j.val]) same_slots
    refine ⟨?_, fun v member => ?_, fun hold calm unpending => ?_⟩
    · have of_u : (s.derateRuled false).ae.reclaim = u.ae.reclaim :=
        reclaim.trans (congrArg Ae.reclaim (requestReductions_ae u l))
      rw [of_u, ← opened]
      have listed : (if n = 0 then [] else
          (s.derateTo false).selectVictims n (s.derateTo false).conversionCandidates) = l := by
        rw [← need]
        exact added
      show (s.derateTo false).converted n = _
      rw [State.converted, listed, derateTo_ae]
    · rw [slot, requested_victim slots cu_u each powered member]
      exact ⟨(chosen v member).1, powered v member, rfl, rfl⟩
    · have beneficiary : (s.derateTo false).ae.reclaim.beneficiary = some b := record.beneficiary
      have requested : (u.requestReductions l).eu = u.eu :=
        requestReductions_eu fun w _ => by rw [slots]; exact unpending w.slot
      have ruled : s.derateRuled false =
          (u.requestReductions l).event .reclaimConverted (s.derateTo false).ae.reclaim.beneficiary l.length n :=
        held (by rw [derateTo_ae]; exact hold)
      have events : (s.derateTo false).eu = ((s.elapse.event .derateOn none 0
          (min s.ae.budget s.ae.derated)).event .budgetExcess none 0
            (s.ae.committed - min s.ae.budget s.ae.derated)).eu := by
        rw [derateTo_eu]
        exact (if_pos over_).trans (if_neg (by rw [calm]; exact Bool.false_ne_true))
      rw [ruled, beneficiary]
      show (u.requestReductions l).eu.append _ _ _ _ = _
      rw [requested, ← opened]
      exact congrArg (fun e : Eu => e.append .reclaimConverted (some b) (byteOf l.length) (BitVec.ofNat 16 n)) events

end Sys2Proof.Machine
end

section
/-! What an offer and a raise leave (R93, R106), and passes over an open account (R90, R97, R103 to R105). -/

namespace Sys2Proof.Machine

/-! ### The two decisions -/

/-- What an SS is asked to offer. -/
def Offered.ofPoint (p : Nat × Point) : Offered := { index := p.1, power := p.2.power, tag := p.2.tag }

theorem available_leaveQueue (s : State) (i j : SlotId) : (s.leaveQueue i).available j = s.available j := by
  have committed := committed_of_account (account_leaveQueue s i)
  unfold State.available
  rw [committed]
  rfl

section
variable {s : State} {i : SlotId} {p : Nat × Point} (calm : s.ae.excess = false)
  (within : s.ae.committed ≤ s.ae.effective)
include calm within

/-- A claim raised within what is available brings no excess. -/
theorem claimFor_available {power : Nat} (mark : Mark) (fits : power ≤ s.available i + (s.entry i).claim) :
    s.claimFor i power mark = s.modEntry i fun e => { e with claim := power, mark := mark } := by
  refine evalExcess_calm calm ?_
  have moved := committed_modEntry s i fun e => { e with claim := power, mark := mark }
  have effective := effective_modEntry s i fun e => { e with claim := power, mark := mark }
  rw [effective]
  unfold State.available at fits
  dsimp only at moved
  omega

/-- An offer (R93): the claim, the exit from the queue, and the request to the SS. -/
theorem offer_eq (fits : p.2.power ≤ s.available i) : s.offer i p =
    ((s.leaveQueue i).modEntry i fun e => { e with claim := p.2.power, mark := .offer }).takeOffer i (.ofPoint p) := by
  have committed := committed_of_account (account_leaveQueue s i)
  have claimed := claimFor_available (s := s.leaveQueue i) (i := i) (power := p.2.power) calm
    (by rw [committed]; exact within) .offer (by rw [available_leaveQueue]; omega)
  rw [State.offer, claimed]
  rfl

theorem offer_entry (fits : p.2.power ≤ s.available i) : (s.offer i p).entry i =
    { s.entry i with claim := p.2.power, mark := .offer, blocked := false } := by
  rw [offer_eq calm within fits]
  show ((s.leaveQueue i).modEntry i _).entry i = _
  rw [entry_modEntry_same]
  exact congrArg (fun e : AeSlot => { e with claim := p.2.power, mark := .offer }) (updateAt_same _ _ _)

theorem offer_entry_other (fits : p.2.power ≤ s.available i) {j : SlotId} (other : j ≠ i) :
    (s.offer i p).entry j = s.entry j := by
  rw [offer_eq calm within fits]
  show ((s.leaveQueue i).modEntry i _).entry j = _
  rw [entry_modEntry_other _ _ other]
  exact updateAt_other _ _ other

theorem offer_ae (fits : p.2.power ≤ s.available i) : (s.offer i p).ae =
    { s.ae with slots := (s.offer i p).ae.slots, entryOrder := s.ae.entryOrder.filter (· != i) } := by
  rw [offer_eq calm within fits]
  rfl

theorem offer_eu (fits : p.2.power ≤ s.available i) : (s.offer i p).eu = s.eu := by
  rw [offer_eq calm within fits]
  rfl

theorem offer_slot (fits : p.2.power ≤ s.available i) : (s.offer i p).slot i =
    { s.slot i with state := .offering, offered := some (.ofPoint p) } := by
  rw [offer_eq calm within fits, State.takeOffer, slot_linkRequest, slot_modSlot_same]
  rfl

theorem offer_link (fits : p.2.power ≤ s.available i) : (s.offer i p).link i =
    (s.link i).request (.offer p.1 p.2.power p.2.tag false) s.cu.settings.retryLimit := by
  rw [offer_eq calm within fits, State.takeOffer, link_linkRequest]
  rfl

theorem offer_link_other (fits : p.2.power ≤ s.available i) {j : SlotId} (other : j ≠ i) :
    (s.offer i p).link j = s.link j := by
  rw [offer_eq calm within fits]
  exact link_modLink_other _ _ other

/-- A raise (R106) of a slot with no pending list. -/
theorem raise_eq (fits : p.2.power ≤ s.available i + (s.entry i).claim) (unpending : (s.slot i).restated = none) :
    s.raise i p = ((s.modEntry i fun e => { e with claim := p.2.power, mark := .raise }).modSlot i fun r =>
      { r with state := .raising, offered := some (.ofPoint p) }).linkRequest i
        (.offer p.1 p.2.power p.2.tag false) := by
  rw [State.raise, claimFor_available calm within .raise fits, State.takeRaise, if_neg]
  · rfl
  · show ¬ (s.slot i).restated.isSome = true
    rw [unpending]
    exact Bool.false_ne_true

end

/-! ### Passes over an open account -/

section
variable {s : State}

/-- With no reclaim, no excess, and neither HOLD nor the RESYNC period, a cause brings both passes (R90, R91). -/
theorem aeRules_open (quiet : s.ae.reclaim.active = false) (calm : s.ae.excess = false) (unheld : s.ae.hold = false)
    (period : s.ae.resyncActive = false) : s.aeRules true = s.allocationPass.raisePass := by
  simp [State.aeRules, endTests_idle quiet, budgetTrigger_calm calm, unheld, period]

theorem allocationPass_empty (empty : s.ae.entryOrder = []) : s.allocationPass = s := by
  have queue : s.queue = [] := by simp [State.queue, State.ofClass, empty]
  unfold State.allocationPass State.passFrom
  rw [queue]

/-- A list of one slot, of a class of R1, in any order by class. -/
theorem byClass_single {j : SlotId} (low : (s.slot j).effClass ≤ 3) :
    ([0, 1, 2, 3].flatMap fun c => s.ofClass c [j]) = [j] := by
  have classes : (s.slot j).effClass = 0 ∨ (s.slot j).effClass = 1 ∨ (s.slot j).effClass = 2 ∨
      (s.slot j).effClass = 3 := by omega
  rcases classes with c | c | c | c <;> simp [State.ofClass, c]

theorem queue_single {j : SlotId} (order : s.ae.entryOrder = [j]) (low : (s.slot j).effClass ≤ 3) : s.queue = [j] := by
  rw [State.queue, order]
  exact byClass_single low

theorem raiseOrder_single {j : SlotId} (order : s.ae.grantOrder = [j]) (low : (s.slot j).effClass ≤ 3) :
    s.raiseOrder = [j] := by
  rw [State.raiseOrder, order]
  exact byClass_single low

end

end Sys2Proof.Machine
end

section
/-! Notices with holding 0 (R5, R14, R25, R85), and the raise that the freed power allows (R103 to R106). -/

namespace Sys2Proof.Machine

/-! ### The account -/

/-- The account with slot `i`'s claim freed (R5, R14). -/
def State.unclaimed (s : State) (i : SlotId) : State := s.booked i AeSlot.freed (s.ae.grantOrder.filter (· != i))

section
variable {s : State} {i : SlotId} (idle : s.ae.reclaim.active = false) (calm : s.ae.excess = false)
  (within : s.ae.committed ≤ s.ae.effective) (left : (s.entry i).resync = false)
include idle calm within left

/-- A notice that frees the claim and leaves the slot where it is. -/
theorem account_zero {n : Notice} {cause : FaultCause} (which : n = .declined .offer 0 ∨ n = .declined .mapping 0 ∨
    n = .faulted cause ∨ n = .removed) : s.account i n = s.unclaimed i := by
  refine account_booked idle left ?_
  rcases which with rfl | rfl | rfl | rfl
  · exact takeAnswer_zero calm within
  · exact takeHolding_zero calm within
  · exact takeHolding_zero calm within
  · exact takeHolding_zero calm within

/-- One that lets a slot with a kept list enter the queue (R25, R127). -/
theorem account_zeroKept {n : Notice} (which : n = .reduced 0 ∨ n = .released) :
    s.account i n = (s.unclaimed i).admitKept i := by
  have taken : s.takeNotice i n = (s.unclaimed i).admitKept i := by
    rcases which with rfl | rfl
    · show State.admitKept ((s.takeHolding i 0).modEntry i _) i = _
      rw [takeHolding_zero calm within, modEntry_booked, booked_booked]
      rfl
    · show (s.takeHolding i 0).admitKept i = _
      rw [takeHolding_zero calm within]
      rfl
  have same := account_admitKept (s.unclaimed i) i
  have entry : (((s.unclaimed i).admitKept i).entry i).resync = false := by
    refine (congrArg AeSlot.resync (entry_of_account same i)).trans ?_
    show ((s.unclaimed i).entry i).resync = false
    rw [State.unclaimed, entry_booked]
    exact left
  rw [State.account, taken, judgeNotice_idle, resyncConcludes_other _ entry]
  rw [reclaim_of_account same]
  exact idle

end

/-- A notice that frees its slot's claim and lets the slot enter nothing, or else one after which a kept list queues. -/
def Notice.endsClaim (n : Notice) (cause : FaultCause) : Prop :=
  n = .declined .offer 0 ∨ n = .declined .mapping 0 ∨ n = .faulted cause ∨ n = .removed

def Notice.keepsList (n : Notice) : Prop := n = .reduced 0 ∨ n = .released

/-- The command of each of these notices. -/
theorem zero_command {s : State} {i : SlotId} {n : Notice} {cause : FaultCause} {c : Instr}
    (which : (n = .declined .offer 0 ∧ c = .declinedNotice i) ∨ (n = .declined .mapping 0 ∧ c = .declinedNotice i) ∨
      (n = .reduced 0 ∧ c = .reducedNotice i) ∨ (n = .released ∧ c = .releasedNotice i) ∨
      (n = .faulted cause ∧ c = .faultedNotice i) ∨ (n = .removed ∧ c = .removedNotice i)) :
    (∃ kind : Notice → Bool, exec c s = happening (State.noticeOf kind i) s ∧ kind n = true) ∧
      (∀ k num r d, n ≠ .answer k num r d) ∧ (n.endsClaim cause ∧ ¬ n.keepsList ∨ n.keepsList) := by
  rcases which with ⟨rfl, rfl⟩ | ⟨rfl, rfl⟩ | ⟨rfl, rfl⟩ | ⟨rfl, rfl⟩ | ⟨rfl, rfl⟩ | ⟨rfl, rfl⟩
  · exact ⟨⟨_, rfl, rfl⟩, nofun, .inl ⟨.inl rfl, by simp [Notice.keepsList]⟩⟩
  · exact ⟨⟨_, rfl, rfl⟩, nofun, .inl ⟨.inr (.inl rfl), by simp [Notice.keepsList]⟩⟩
  · exact ⟨⟨_, rfl, rfl⟩, nofun, .inr (.inl rfl)⟩
  · exact ⟨⟨_, rfl, rfl⟩, nofun, .inr (.inr rfl)⟩
  · exact ⟨⟨_, rfl, rfl⟩, nofun, .inl ⟨.inr (.inr (.inl rfl)), by simp [Notice.keepsList]⟩⟩
  · exact ⟨⟨_, rfl, rfl⟩, nofun, .inl ⟨.inr (.inr (.inr rfl)), by simp [Notice.keepsList]⟩⟩

/-! ### The slot's own entry -/

section
variable (s : State) (i : SlotId) (rest : List Notice)

@[simp] theorem slot_unclaimed (j : SlotId) : (s.unclaimed i).slot j = s.slot j := rfl
@[simp] theorem entry_unclaimed : (s.unclaimed i).entry i = (s.entry i).freed := entry_booked
theorem entry_unclaimed_other {j : SlotId} (other : j ≠ i) : (s.unclaimed i).entry j = s.entry j := entry_booked_other other
theorem unclaimed_committed : (s.unclaimed i).ae.committed + (s.entry i).claim = s.ae.committed :=
  committed_modEntry s i AeSlot.freed

/-- What stands around the AE entry and the slot, at a notice that may bring the slot's own entry. -/
theorem admitKept_around : SlotFrame i s.elapse (((s.taken i rest).unclaimed i).admitKept i) := by
  have booked : SlotFrame i s.elapse ((s.taken i rest).unclaimed i) :=
    (SlotFrame.modEntry_iff (i := i) AeSlot.freed).mpr ((SlotFrame.modSlot_iff (i := i) _).mpr (.refl i s.elapse))
  unfold State.admitKept State.admitDemand
  split
  · split
    · exact (SlotFrame.joinQueue_iff).mpr booked
    · exact (SlotFrame.enter_iff (i := i) .parked).mpr booked
  · exact booked

theorem admitKept_rest (u : State) : (u.admitKept i).links = u.links ∧ (u.admitKept i).eu = u.eu := by
  unfold State.admitKept State.admitDemand
  split
  · split <;> exact ⟨rfl, rfl⟩
  · exact ⟨rfl, rfl⟩

/-- What such a notice leaves in every case. -/
theorem unclaimed_facts {t : State} (left : (s.entry i).resync = false)
    (which : t = (s.taken i rest).unclaimed i ∨ t = ((s.taken i rest).unclaimed i).admitKept i) :
    aroundNotice i s t ∧ t.eu = s.elapse.eu ∧ (∀ j, j ≠ i → t.entry j = s.entry j) ∧ (t.entry i).claim = 0 ∧
      (t.entry i).confirmed = 0 ∧ (t.entry i).mark = .none ∧ (t.entry i).restating = false ∧
      (t.entry i).resync = false := by
  have frame : SlotFrame i s.elapse t := by
    rcases which with rfl | rfl
    · exact (SlotFrame.modEntry_iff (i := i) AeSlot.freed).mpr
        ((SlotFrame.modSlot_iff (i := i) _).mpr (.refl i s.elapse))
    · exact admitKept_around s i rest
  have stands : t.links = s.links ∧ t.eu = s.elapse.eu ∧ t.ae.account = ((s.taken i rest).unclaimed i).ae.account := by
    rcases which with rfl | rfl
    · exact ⟨rfl, rfl, rfl⟩
    · obtain ⟨links, eu⟩ := admitKept_rest i ((s.taken i rest).unclaimed i)
      exact ⟨links, eu, account_admitKept ..⟩
  obtain ⟨links, eu, account⟩ := stands
  have entry : ({ t.entry i with blocked := false } : AeSlot) = { (s.entry i).freed with blocked := false } := by
    have unclaimed : ((s.taken i rest).unclaimed i).entry i = (s.entry i).freed := entry_unclaimed (s.taken i rest) i
    rw [entry_of_account account, unclaimed]
  obtain ⟨claim, confirmed, mark, restating, -, resync⟩ := AeSlot.mk.inj entry
  obtain ⟨engine, others⟩ := id frame
  exact ⟨⟨sameHost_elapse engine, fun j other => (others j other).1, links, engine.2.2.1⟩, eu,
    fun j other => (others j other).2.2, claim, confirmed, mark, restating, resync.trans left⟩

end

/-! ### The raise (R103 to R106) -/

/-- The one candidate of the raise pass, and the point that it is raised to. -/
structure Raisable (s : State) (j : SlotId) (g : Nat × Point) : Prop where
  quiet : s.ae.reclaim.active = false
  unqueued : s.ae.entryOrder = []
  raises : s.cu.settings.autoRaise = true
  unheld : s.ae.hold = false
  period : s.ae.resyncActive = false
  calm : s.ae.excess = false
  within : s.ae.committed ≤ s.ae.effective
  order : s.ae.grantOrder = [j]
  low : (s.slot j).effClass ≤ 3
  unpending : (s.slot j).restated = none
  candidate : s.raiseCandidate j = true
  point : s.raisePoint j = some g

namespace Raisable

variable {s : State} {j : SlotId} {g : Nat × Point} (raisable : Raisable s j g)
include raisable

theorem aeRules : s.aeRules true = s.raise j g := by
  have allowed : s.raisesAllowed = true := by
    simp [State.raisesAllowed, raisable.quiet, raisable.unqueued, raisable.raises, raisable.unheld, raisable.period]
  rw [aeRules_open raisable.quiet raisable.calm raisable.unheld raisable.period,
    allocationPass_empty raisable.unqueued, State.raisePass, if_pos allowed,
    raiseOrder_single raisable.order raisable.low, List.foldl_cons, List.foldl_nil]
  simp only [State.raiseVisit, raisable.candidate, raisable.point, if_true]

theorem raise_eq : s.raise j g = ((s.modEntry j fun e => { e with claim := g.2.power, mark := .raise }).modSlot j fun r =>
    { r with state := .raising, offered := some (.ofPoint g) }).linkRequest j
      (.offer g.1 g.2.power g.2.tag false) :=
  Sys2Proof.Machine.raise_eq raisable.calm raisable.within (raisePoint_le raisable.point) raisable.unpending

/-- What a raise leaves: the claim and its mark, the slot in RAISING, and the request to its LE. -/
theorem raise_leaves : (s.raise j g).slot j = { s.slot j with state := .raising, offered := some (.ofPoint g) } ∧
    (s.raise j g).link j = (s.link j).request (.offer g.1 g.2.power g.2.tag false) s.cu.settings.retryLimit ∧
    (s.raise j g).entry j = { s.entry j with claim := g.2.power, mark := .raise } ∧
    (∀ q, q ≠ j → (s.raise j g).slot q = s.slot q ∧ (s.raise j g).link q = s.link q ∧
      (s.raise j g).entry q = s.entry q) ∧
    (s.raise j g).ae = { s.ae with slots := (s.raise j g).ae.slots } ∧ (s.raise j g).eu = s.eu := by
  rw [raisable.raise_eq]
  refine ⟨?_, ?_, ?_, fun q other => ⟨?_, ?_, ?_⟩, rfl, rfl⟩
  · rw [slot_linkRequest, slot_modSlot_same]; rfl
  · rw [link_linkRequest]; rfl
  · exact entry_modEntry_same ..
  · rw [slot_linkRequest, slot_modSlot_other _ _ other]; rfl
  · exact link_modLink_other _ _ other
  · exact entry_modEntry_other _ _ other

end Raisable

/-- A slot that enters WAITING causes a pass, and so does a claim that falls (R90). -/
theorem passCause_slot {s t : State} (i : SlotId)
    (causes : (s.slot i).state ≠ .waiting ∧ (t.slot i).state = .waiting ∨ (t.entry i).claim < (s.entry i).claim) :
    passCause s t = true := by
  have some_ : (allSlots.any fun i =>
      ((s.slot i).state != .waiting && (t.slot i).state == .waiting) ||
      decide ((t.entry i).claim < (s.entry i).claim) ||
      ((s.entry i).mark != .none && (t.entry i).mark == .none)) = true := by
    refine List.any_eq_true.mpr ⟨i, mem_allSlots i, ?_⟩
    rcases causes with ⟨before, after⟩ | falls
    · simp [before, after]
    · simp [falls]
  unfold passCause
  rw [some_]
  rfl

section
variable {s : State} {i : SlotId} {rest : List Notice}

/-- The slot whose list is kept in STANDBY enters WAITING or PARKED with the notice (R25). -/
theorem unclaimed_enters (standby : (s.slot i).state = .standby) (kept : (s.slot i).current ≠ none)
    (freed : rest.any Notice.frees = false) {t : State} (taken : t = ((s.taken i rest).unclaimed i).admitKept i) :
    t.slot i = { s.slot i with outbox := rest, state := if (s.policy i).admits then .waiting else .parked } ∧
      t.ae = { s.ae with
        slots := t.ae.slots, grantOrder := s.ae.grantOrder.filter (· != i)
        entryOrder := if (s.policy i).admits then s.ae.entryOrder.filter (· != i) ++ [i] else s.ae.entryOrder } := by
  have slot : ((s.taken i rest).unclaimed i).slot i = { s.slot i with outbox := rest } := slot_taken s i rest
  have policy : ((s.taken i rest).unclaimed i).policy i = s.policy i := rfl
  rw [admitKept_enters (by rw [slot]; exact standby) (by rw [slot]; exact Option.isSome_iff_ne_none.mpr kept)
    (by rw [State.freed, slot]; exact congrArg not freed)] at taken
  cases admits : (s.policy i).admits
  · rw [admitDemand_parks (by rw [policy]; exact admits)] at taken
    rw [taken, slot_enter, slot]
    exact ⟨rfl, rfl⟩
  · rw [admitDemand_joins (by rw [policy]; exact admits)] at taken
    rw [taken, slot_joinQueue, slot]
    exact ⟨rfl, rfl⟩

end

/-- The account with `i`'s claim freed is one in which `j` is raised to `g`. -/
theorem unclaimed_raisable {s : State} {i j : SlotId} {rest : List Notice} {l : DemandList} {m g : Nat × Point}
    (opens : aeOpen s) (unqueued : s.ae.entryOrder = []) (raises : s.cu.settings.autoRaise = true)
    (order : s.ae.grantOrder.filter (· != i) = [j]) (powered : (s.slot j).state = .powered)
    (unmarked : (s.entry j).mark = .none) (mapped : (s.entry j).restating = false)
    (undeclined : (s.slot j).raiseDeclined = false) (unpending : (s.slot j).restated = none)
    (low : (s.slot j).effClass ≤ 3) (current : (s.slot j).current = some l) (preferred : l.preferred = some m)
    (above : m.1 < (s.slot j).granted)
    (point : l.highestBetween (s.slot j).grantedPower (s.ae.effective -
      (s.ae.committed - (s.entry i).claim + if (s.slot j).effClass = 0 then 0 else s.ae.reserve) +
        (s.entry j).claim) = some g) : Raisable ((s.taken i rest).unclaimed i) j g := by
  obtain ⟨unheld, quiet, unearmarked, calm, within, period, -, -⟩ := opens
  have other : j ≠ i := by
    have member : j ∈ s.ae.grantOrder.filter (· != i) := by rw [order]; exact List.mem_singleton_self j
    simpa using (List.mem_filter.mp member).2
  have slot : ((s.taken i rest).unclaimed i).slot j = s.slot j := slot_taken_other s i rest other
  have entry : ((s.taken i rest).unclaimed i).entry j = s.entry j := entry_unclaimed_other (s.taken i rest) i other
  have committed : ((s.taken i rest).unclaimed i).ae.committed + (s.entry i).claim = s.ae.committed :=
    unclaimed_committed (s.taken i rest) i
  have effective : ((s.taken i rest).unclaimed i).ae.effective = s.ae.effective := rfl
  have available : ((s.taken i rest).unclaimed i).available j = s.ae.effective -
      (s.ae.committed - (s.entry i).claim + if (s.slot j).effClass = 0 then 0 else s.ae.reserve) := by
    have spared : ((s.taken i rest).unclaimed i).ae.reclaim.earmark = 0 := unearmarked
    have reserve : ((s.taken i rest).unclaimed i).ae.reserve = s.ae.reserve := rfl
    unfold State.available
    rw [slot, effective, spared, reserve, ite_self]
    omega
  refine ⟨quiet, unqueued, raises, unheld, period, calm, by rw [effective]; omega, order, by rw [slot]; exact low,
    by rw [slot]; exact unpending, ?_, ?_⟩
  · simp [State.raiseCandidate, slot, entry, powered, unmarked, mapped, undeclined, current, preferred, above]
  · rw [State.raisePoint, available, slot, entry, current]
    exact point

/-- Settles O42: the account by `account_zero` and `account_zeroKept`, the raise by `Raisable`. -/
theorem zeroHoldingsFreeTheClaim : Obligations.ZeroHoldingsFreeTheClaim := by
  intro s i n cause rest c high oldest left which
  obtain ⟨⟨kind, run, asked⟩, other, sort⟩ := zero_command (s := s) which
  have account (idle : s.ae.reclaim.active = false) (calm : s.ae.excess = false)
      (within : s.ae.committed ≤ s.ae.effective) :
      (s.taken i rest).account i n = (s.taken i rest).unclaimed i ∧ ¬ n.keepsList ∨
        (s.taken i rest).account i n = ((s.taken i rest).unclaimed i).admitKept i := by
    rcases sort with ⟨ends, unkept⟩ | kept
    · exact .inl ⟨account_zero (s := s.taken i rest) idle calm within left ends, unkept⟩
    · exact .inr (account_zeroKept (s := s.taken i rest) idle calm within left kept)
  have stays (state : (s.slot i).state ≠ .standby ∨ (s.slot i).current = none) :
      ((s.taken i rest).unclaimed i).admitKept i = (s.taken i rest).unclaimed i := by
    have slot : ((s.taken i rest).unclaimed i).slot i = { s.slot i with outbox := rest } := slot_taken s i rest
    refine admitKept_stays ?_
    rw [slot]
    rcases state with h | h
    · exact .inl h
    · exact .inr (.inl h)
  obtain ⟨t, answer⟩ := exec_next c s
  refine ⟨t, answer, fun still => ?_, fun j opens state claimed unqueued raises order powered unmarked mapped undeclined
    unpending low l current m preferred above g point => ?_⟩
  · obtain ⟨hold, idle, calm, within, -⟩ := id still
    have standing (u : State) (same : u.ae.account = ((s.taken i rest).unclaimed i).ae.account) : u.ae.hold = true ∧
        u.ae.reclaim.active = false ∧ u.ae.excess = false :=
      ⟨(hold_of_account same).trans hold, (congrArg Reclaim.active (reclaim_of_account same)).trans idle,
        (excess_of_account same).trans calm⟩
    have ends : t = (s.taken i rest).account i n := by
      have stands : ((s.taken i rest).account i n).ae.account = ((s.taken i rest).unclaimed i).ae.account := by
        rcases account idle calm within with ⟨same, -⟩ | same <;> rw [same]
        exact account_admitKept ..
      obtain ⟨hold', idle', calm'⟩ := standing _ stands
      have settled := still_account high still oldest asked other rfl hold' idle' calm'
      exact Host.Outcome.next.inj (answer.symm.trans (run.trans settled))
    have which' : t = (s.taken i rest).unclaimed i ∨ t = ((s.taken i rest).unclaimed i).admitKept i := by
      rcases account idle calm within with ⟨same, -⟩ | same
      · exact .inl (ends.trans same)
      · exact .inr (ends.trans same)
    obtain ⟨around, eu, others, claim, confirmed, mark, mapped, concluded⟩ := unclaimed_facts s i rest left which'
    refine ⟨around, eu, others, claim, confirmed, mark, mapped, concluded, fun state => ?_,
      fun kept standby held freed => ?_⟩
    · have same : t = (s.taken i rest).unclaimed i := which'.elim id fun h => h.trans (stays state)
      have entry : ((s.taken i rest).unclaimed i).entry i = (s.entry i).freed := entry_unclaimed (s.taken i rest) i
      rw [same, entry]
      exact ⟨slot_taken s i rest, rfl, rfl⟩
    · refine unclaimed_enters standby held freed (ends.trans ?_)
      rcases account idle calm within with ⟨-, unkept⟩ | same
      · exact absurd kept unkept
      · exact same
  · obtain ⟨-, idle, -, calm, within, -, unwaited, none_runs⟩ := id opens
    have raisable := unclaimed_raisable (rest := rest) opens unqueued raises order powered unmarked mapped undeclined
      unpending low current preferred above point
    have other_j : j ≠ i := by
      have member : j ∈ s.ae.grantOrder.filter (· != i) := by rw [order]; exact List.mem_singleton_self j
      simpa using (List.mem_filter.mp member).2
    have freed : (s.taken i rest).account i n = (s.taken i rest).unclaimed i := by
      rcases account idle calm within with ⟨same, -⟩ | same
      · exact same
      · exact same.trans (stays state)
    have caused : passCause (s.taken i rest) ((s.taken i rest).unclaimed i) = true := by
      refine passCause_slot i (.inr ?_)
      have entry : ((s.taken i rest).unclaimed i).entry i = (s.entry i).freed := entry_unclaimed (s.taken i rest) i
      rw [entry]
      exact Nat.pos_of_ne_zero claimed
    have ends : t = ((s.taken i rest).unclaimed i).raise j g := by
      have taken := notice_happening high oldest asked unwaited other none_runs
      rw [State.aeNotice, freed, caused, Bool.true_or, raisable.aeRules] at taken
      exact Host.Outcome.next.inj (answer.symm.trans (run.trans taken))
    obtain ⟨slot, link, entry, others, ae, eu⟩ := raisable.raise_leaves
    rw [← ends] at slot link entry others ae eu
    have slot_j : ((s.taken i rest).unclaimed i).slot j = s.slot j := slot_taken_other s i rest other_j
    have entry_j : ((s.taken i rest).unclaimed i).entry j = s.entry j :=
      entry_unclaimed_other (s.taken i rest) i other_j
    have entry_i : ((s.taken i rest).unclaimed i).entry i = (s.entry i).freed := entry_unclaimed (s.taken i rest) i
    have grants : ((s.taken i rest).unclaimed i).ae = { s.ae with
        slots := ((s.taken i rest).unclaimed i).ae.slots, grantOrder := [j] } := by
      rw [← order]; rfl
    rw [slot_j] at slot
    rw [entry_j] at entry
    refine ⟨(others i other_j.symm).1.trans (slot_taken s i rest), slot, entry, ?_, ?_, fun q off_i off_j => ?_,
      fun serves => ?_, eu⟩
    · rw [(others i other_j.symm).2.2, entry_i]
      rfl
    · rw [ae, grants]
    · obtain ⟨slot_q, link_q, entry_q⟩ := others q off_j
      exact ⟨slot_q.trans (slot_taken_other s i rest off_i), link_q,
        entry_q.trans (entry_unclaimed_other (s.taken i rest) i off_i)⟩
    · rw [link]
      exact LinkRec.request_asked (f := .offer g.1 g.2.power g.2.tag false) serves nofun s.cu.settings.retryLimit

end Sys2Proof.Machine
end

section
/-! Notices of a victim of an active reclaim under HOLD: the outcome judged (R126), and the end tests (R129 to R133). -/

namespace Sys2Proof.Machine

/-! ### The judgement -/

section
variable {i : SlotId} {v : Victim} {l : List Victim} (each : (l.map Victim.slot).Nodup) (member : v ∈ l)
  (own : v.slot = i)
include each member own

/-- The one entry of a slot is judged; the others stand. -/
theorem judgeVictims_one (n : Notice) (c : Nat) : judgeVictims i n c l =
    l.map fun w => if w.slot = i then { w with outcome := (v.judge n c).1 } else w := by
  refine List.map_congr_left fun w listed => ?_
  split
  · rename_i same
    rw [List.inj_on_of_nodup_map each listed member (same.trans own.symm)]
  · rfl

theorem judgeYield_one (n : Notice) (c : Nat) : judgeYield i n c l = (v.judge n c).2 := by
  have once : (l.filter fun w => w.slot == i) = [v] := by
    induction l with
    | nil => cases member
    | cons w l ih =>
      obtain ⟨absent, each⟩ := List.nodup_cons.mp each
      rcases List.mem_cons.mp member with rfl | later
      · have others : (l.filter fun w => w.slot == i) = [] := by
          rw [List.filter_eq_nil_iff]
          intro w listed same
          exact absent (List.mem_map.mpr ⟨w, listed, (beq_iff_eq.mp same).trans own.symm⟩)
        rw [List.filter_cons_of_pos (by simpa using own), others]
      · have other : ¬ (w.slot == i) = true := by
          intro same
          exact absent (List.mem_map.mpr ⟨v, later, own.trans (beq_iff_eq.mp same).symm⟩)
        exact (List.filter_cons_of_neg (p := fun w : Victim => w.slot == i) other).trans (ih each later)
  unfold judgeYield
  rw [once]
  simp

end

/-- A reclaim record with slot `i`'s entry at a new outcome, and yield taken. -/
def Reclaim.taking (r : Reclaim) (i : SlotId) (o : VictimOutcome) (yield : Nat) : Reclaim :=
  { r with
    yieldTaken := r.yieldTaken + yield
    victims := r.victims.map fun w => if w.slot = i then { w with outcome := o } else w }

section
variable {r : Reclaim} {i : SlotId} {v : Victim} (active : r.active = true) (each : (r.victims.map Victim.slot).Nodup)
  (member : v ∈ r.victims) (own : v.slot = i)
include active each member own

theorem judge_taking (n : Notice) (c : Nat) : r.judge i n c = r.taking i (v.judge n c).1 (v.judge n c).2 := by
  rw [Reclaim.judge, if_pos active, judgeVictims_one each member own, judgeYield_one each member own]
  rfl

/-- NOTED turns a PENDING entry NOTED (R126). -/
theorem judge_noted (pending : v.outcome = .pending) (c : Nat) : r.judge i .noted c = r.taking i .noted 0 := by
  rw [judge_taking active each member own]
  simp [Victim.judge, pending]

/-- A REDUCED to the target makes the entry DONE, and its fall counts as yield (R126). -/
theorem judge_reduced {h c : Nat} (open_ : v.outcome = .pending ∨ v.outcome = .noted) (falls : h < c)
    (target : h ≤ v.targetPower) : r.judge i (.reduced h) c = r.taking i .done (c - h) := by
  rw [judge_taking active each member own]
  have differs : h ≠ c := by omega
  rcases open_ with o | o <;> simp [Victim.judge, o, differs, target]

omit active each in
/-- While an entry is open the reclaim has not concluded (R129). -/
theorem taking_unconcluded {o : VictimOutcome} (open_ : o.concluded = false) (yield : Nat) :
    (r.taking i o yield).concluded = false := by
  rw [Bool.eq_false_iff, ne_eq, Reclaim.concluded, List.all_eq_true]
  intro all
  have := all { v with outcome := o } (List.mem_map.mpr ⟨v, member, if_pos own⟩)
  rw [open_] at this
  cases this

end

/-! ### NOTED -/

theorem account_notedVictim {s : State} {i : SlotId} {v : Victim} (active : s.ae.reclaim.active = true)
    (each : (s.ae.reclaim.victims.map Victim.slot).Nodup) (member : v ∈ s.ae.reclaim.victims) (own : v.slot = i)
    (pending : v.outcome = .pending) : s.account i .noted = s.withReclaim (s.ae.reclaim.taking i .noted 0) := by
  rw [State.account, resyncConcludes_unheld rfl]
  show s.judgeNotice i .noted _ = _
  rw [State.judgeNotice, judge_noted active each member own pending]
  rfl

/-! ### REDUCED -/

/-- The account with slot `i`'s claim fallen to a holding, and no restatement outstanding (R5, R54). -/
def State.lowered (s : State) (i : SlotId) (h : Nat) : State :=
  s.modEntry i fun e => { e.holding h with restating := false }

/-- An evaluation of excess and a change that leaves the claims commute. -/
theorem evalExcess_modEntry (s : State) (i : SlotId) (f : AeSlot → AeSlot)
    (keeps : (f (s.entry i)).claim = (s.entry i).claim) :
    s.evalExcess.modEntry i f = (s.modEntry i f).evalExcess := by
  have committed := committed_modEntry_keep s i f keeps
  unfold State.evalExcess
  dsimp only
  rw [committed, effective_modEntry]
  have excess : (s.modEntry i f).ae.excess = s.ae.excess := rfl
  rw [excess]
  split <;> split <;> rfl

section
variable {s : State} {i : SlotId} {h : Nat} {v : Victim}

theorem takeNotice_reduced (nonzero : h ≠ 0) : s.takeNotice i (.reduced h) = (s.lowered i h).evalExcess := by
  have holding : s.takeHolding i h = (s.modEntry i (·.holding h)).evalExcess := by
    rw [State.takeHolding, if_neg nonzero]
    rfl
  refine (if_neg nonzero).trans ?_
  rw [holding, evalExcess_modEntry (s.modEntry i (·.holding h)) i _ rfl, modEntry_modEntry]
  rfl

theorem account_reducedVictim (active : s.ae.reclaim.active = true) (left : (s.entry i).resync = false)
    (each : (s.ae.reclaim.victims.map Victim.slot).Nodup) (member : v ∈ s.ae.reclaim.victims) (own : v.slot = i)
    (open_ : v.outcome = .pending ∨ v.outcome = .noted) (nonzero : h ≠ 0) (falls : h < (s.entry i).claim)
    (target : h ≤ v.targetPower) : s.account i (.reduced h) =
      (s.lowered i h).evalExcess.withReclaim (s.ae.reclaim.taking i .done ((s.entry i).claim - h)) := by
  have reclaim : (s.lowered i h).evalExcess.ae.reclaim = s.ae.reclaim := by rw [evalExcess_ae]; rfl
  have entry : (s.lowered i h).evalExcess.entry i = { (s.entry i).holding h with restating := false } := by
    rw [State.entry, evalExcess_ae]
    exact entry_modEntry_same ..
  rw [State.account, takeNotice_reduced nonzero, State.judgeNotice, reclaim,
    judge_reduced active each member own open_ falls target]
  refine resyncConcludes_other _ ?_
  refine (congrArg AeSlot.resync entry).trans left

end

end Sys2Proof.Machine
end

section
/-! The end tests after a victim's notice under HOLD (R129 to R133), and the next BUDGET reclaim (R118). -/

namespace Sys2Proof.Machine

/-! ### HOLD -/

theorem rulesClosed_hold : RulesClosed fun s => s.ae.hold = true where
  event _ _ _ _ _ h := h
  blocked _ _ _ h := h
  reduce s i index power h := (hold_of_account (account_takeReduce s i index power .reclaim)).trans h
  opened _ _ _ _ h := h
  converted _ _ h := h
  ended _ h := h
  offer s i p _ _ h := by
    show (State.claimFor (s.leaveQueue i) i p.2.power .offer).ae.hold = true
    rw [State.claimFor, evalExcess_ae]
    exact h
  raise s i p _ _ h := by
    refine (hold_of_account (account_takeRaise _ i _)).trans ?_
    rw [State.claimFor, evalExcess_ae]
    exact h

/-- Under HOLD the end tests and the BUDGET trigger are all there is, whatever caused a pass (R101). -/
theorem aeRules_underHold {s : State} (due : Bool) (hold : s.ae.hold = true) :
    s.aeRules due = s.endTests.budgetTrigger :=
  aeRules_hold due (rulesClosed_hold.budgetTrigger (rulesClosed_hold.endTests hold))

/-! ### A BUDGET reclaim's end tests -/

section
variable {s : State}

theorem endTests_budget (active : s.ae.reclaim.active = true) (kind : s.ae.reclaim.kind = .budget) :
    s.endTests = s.budgetRules := by
  unfold State.endTests
  simp only [active, kind, if_true]

theorem budgetRules_goesOn (excess : s.ae.excess = true) (open_ : s.ae.reclaim.concluded = false) : s.budgetRules = s := by
  simp [State.budgetRules, excess, open_]

theorem budgetRules_clears (calm : s.ae.excess = false) : s.budgetRules = s.endReclaim 0x21 := by
  simp [State.budgetRules, calm]

theorem budgetRules_concludes (excess : s.ae.excess = true) (done : s.ae.reclaim.concluded = true) :
    s.budgetRules = s.endReclaim 0x22 := by simp [State.budgetRules, excess, done]

theorem endReclaim_ae (code : Nat) : (s.endReclaim code).ae =
    { s.ae with reclaim := { s.ae.reclaim with active := false, earmark := 0 } } := rfl

theorem budgetTrigger_slots : s.budgetTrigger.ae.slots = s.ae.slots := by
  unfold State.budgetTrigger
  split
  · rw [startBudget_eq, requestReductions_ae]; rfl
  · rfl

theorem budgetRules_slots : s.budgetRules.ae.slots = s.ae.slots := by
  unfold State.budgetRules
  split_ifs <;> rfl

/-- With no POWERED slot in the grant order list no BUDGET reclaim starts. -/
theorem budgetTrigger_uncandidated (none_ : s.budgetCandidates = []) : s.budgetTrigger = s :=
  if_neg (by simp [none_])

end

/-! ### The account of a victim's REDUCED -/

/-- The account after slot `i`'s REDUCED to `h`, before the decision rules: the claim fallen by `down`. -/
structure Reported (s u : State) (i : SlotId) (rest : List Notice) (h down : Nat) (judged : Reclaim) : Prop where
  around : aroundNotice i s u
  slot : u.slot i = { s.slot i with outbox := rest }
  entry : u.entry i = { s.entry i with claim := h, confirmed := h, restating := false }
  others : ∀ j, j ≠ i → u.entry j = s.entry j
  committed : u.ae.committed = s.ae.committed - down
  ae : u.ae = { s.ae with
    slots := u.ae.slots, excess := decide (s.ae.effective < u.ae.committed), reclaim := judged }
  eu : u.eu = if s.ae.effective < u.ae.committed then
      if s.ae.excess then s.elapse.eu
      else (s.elapse.event .budgetExcess none 0 (u.ae.committed - s.ae.effective)).eu
    else if s.ae.excess then (s.elapse.event .budgetOk none 0 (s.ae.effective - u.ae.committed)).eu
    else s.elapse.eu

theorem lowered_reported {s : State} {i : SlotId} {rest : List Notice} {h : Nat} (judged : Reclaim)
    (falls : h < (s.entry i).claim) (unmarked : (s.entry i).mark = .none) :
    Reported s (((s.taken i rest).lowered i h).evalExcess.withReclaim judged) i rest h ((s.entry i).claim - h)
      judged := by
  have entry : ((s.taken i rest).lowered i h).entry i =
      { s.entry i with claim := h, confirmed := h, restating := false } := by
    refine (entry_modEntry_same ..).trans ?_
    show { (s.entry i).holding h with restating := false } = _
    simp [AeSlot.holding, unmarked]
  have committed : ((s.taken i rest).lowered i h).ae.committed = s.ae.committed - ((s.entry i).claim - h) := by
    have moved := committed_modEntry (s.taken i rest) i fun e => { e.holding h with restating := false }
    have claim := congrArg AeSlot.claim entry
    rw [State.lowered, entry_modEntry_same] at claim
    rw [claim] at moved
    have moved : ((s.taken i rest).lowered i h).ae.committed + (s.entry i).claim = s.ae.committed + h := moved
    omega
  have same : (((s.taken i rest).lowered i h).evalExcess.withReclaim judged).ae.committed =
      ((s.taken i rest).lowered i h).ae.committed := evalExcess_committed _
  have slots : (((s.taken i rest).lowered i h).evalExcess.withReclaim judged).slots = (s.taken i rest).slots :=
    evalExcess_slots _
  have entries (j : SlotId) : (((s.taken i rest).lowered i h).evalExcess.withReclaim judged).entry j =
      ((s.taken i rest).lowered i h).entry j := by
    show ((s.taken i rest).lowered i h).evalExcess.entry j = _
    rw [State.entry, evalExcess_ae]
    rfl
  have slot (j : SlotId) : (((s.taken i rest).lowered i h).evalExcess.withReclaim judged).slot j =
      (s.taken i rest).slot j := congrArg (fun x : Slots SlotRec => x[j.val]) slots
  refine ⟨⟨sameHost_elapse ((taken_frame s i rest).trans (evalExcess_engine ((s.taken i rest).lowered i h))),
    fun j other => (slot j).trans (slot_taken_other s i rest other), evalExcess_links _, evalExcess_inputs _⟩,
    (slot i).trans (slot_taken s i rest), (entries i).trans entry,
    fun j other => (entries j).trans (entry_modEntry_other _ _ other), same.trans committed, ?_, ?_⟩
  · have claims : (((s.taken i rest).lowered i h).evalExcess.withReclaim judged).ae.slots =
        ((s.taken i rest).lowered i h).ae.slots := by
      show ((s.taken i rest).lowered i h).evalExcess.ae.slots = _
      rw [evalExcess_ae]
    rw [same, claims]
    show { ((s.taken i rest).lowered i h).evalExcess.ae with reclaim := judged } = _
    rw [evalExcess_ae]
    rfl
  · rw [same]
    exact evalExcess_eu _

theorem committed_of_slots {a b : Ae} (same : a.slots = b.slots) : a.committed = b.committed := by
  rw [Ae.committed, same, Ae.committed]

namespace Reported

variable {s u : State} {i : SlotId} {rest : List Notice} {h down : Nat} {judged : Reclaim}
  (report : Reported s u i rest h down judged)
include report

theorem reclaim : u.ae.reclaim = judged := by rw [report.ae]
theorem effective : u.ae.effective = s.ae.effective := by
  rw [report.ae]
  rfl
theorem excess : u.ae.excess = decide (s.ae.effective < u.ae.committed) := congrArg Ae.excess report.ae

/-- The entries and committed of a state whose decision rules moved no claim. -/
theorem claims {t : State} (same : t.ae.slots = u.ae.slots) :
    t.entry i = { s.entry i with claim := h, confirmed := h, restating := false } ∧
      (∀ j, j ≠ i → t.entry j = s.entry j) ∧ t.ae.committed = s.ae.committed - down := by
  have entry (j : SlotId) : t.entry j = u.entry j := by rw [State.entry, same]; rfl
  exact ⟨(entry i).trans report.entry, fun j other => (entry j).trans (report.others j other),
    (committed_of_slots same).trans report.committed⟩

variable (active : judged.active = true)
include active

section
variable (kind : judged.kind = .budget)
include kind

theorem budget_endTests : u.endTests = u.budgetRules :=
  endTests_budget (by rw [report.reclaim]; exact active) (by rw [report.reclaim]; exact kind)

/-- Excess holds and a victim has not concluded: the reclaim goes on (R133). -/
theorem budget_goesOn (over_ : s.ae.effective < u.ae.committed) (open_ : judged.concluded = false) :
    u.endTests.budgetTrigger = u := by
  rw [report.budget_endTests active kind,
    budgetRules_goesOn (by rw [report.excess]; exact decide_eq_true over_) (by rw [report.reclaim]; exact open_)]
  exact budgetTrigger_active (by rw [report.reclaim]; exact active)

/-- Excess clears: the reclaim ends with 21h (R133). -/
theorem budget_clears (within : u.ae.committed ≤ s.ae.effective) : u.endTests.budgetTrigger = u.endReclaim 0x21 := by
  have calm : u.ae.excess = false := by rw [report.excess]; exact decide_eq_false (by omega)
  rw [report.budget_endTests active kind, budgetRules_clears calm]
  exact budgetTrigger_calm calm

/-- Every victim has concluded under excess: the reclaim ends with 22h (R133). -/
theorem budget_concludes (over_ : s.ae.effective < u.ae.committed) (done : judged.concluded = true) :
    u.endTests.budgetTrigger = (u.endReclaim 0x22).budgetTrigger := by
  rw [report.budget_endTests active kind,
    budgetRules_concludes (by rw [report.excess]; exact decide_eq_true over_) (by rw [report.reclaim]; exact done)]

omit active kind in
/-- Its candidates are those of before: the notice moved no slot out of or into POWERED. -/
theorem candidates (code : Nat) : (u.endReclaim code).budgetCandidates = s.budgetCandidates := by
  have order : u.ae.grantOrder = s.ae.grantOrder := by rw [report.ae]
  refine candidates_congr order fun j _ => ?_
  have slot : (u.endReclaim code).slot j = u.slot j := rfl
  rw [slot]
  by_cases own : j = i
  · rw [own, report.slot]
    exact ⟨rfl, rfl, rfl⟩
  · rw [report.around.2.1 j own]
    exact ⟨rfl, rfl, rfl⟩

/-- The next BUDGET reclaim starts at once for what is still short (R118). -/
theorem budget_restarts (over_ : s.ae.effective < u.ae.committed) (done : judged.concluded = true)
    (period : s.ae.resyncActive = false) (some_ : s.budgetCandidates ≠ []) :
    u.endTests.budgetTrigger = (u.endReclaim 0x22).startBudget := by
  rw [report.budget_concludes active kind over_ done]
  have excess : u.ae.excess = true := by rw [report.excess]; exact decide_eq_true over_
  have over_period : u.ae.resyncActive = false := by rw [report.ae]; exact period
  exact budgetTrigger_starts excess rfl over_period (by rw [report.candidates]; exact some_)

end

/-! ### An ADMIT reclaim's end tests -/

section
variable {b : SlotId} (own : judged.beneficiary = some b) (kind : judged.kind = .admission) (other : b ≠ i)
  (calm : s.ae.excess = false) (within : s.ae.committed ≤ s.ae.effective)

omit active in
include calm within in
/-- A claim that falls within EB leaves no excess and appends nothing. -/
theorem stays_calm : u.ae.excess = false ∧ u.ae.committed ≤ u.ae.effective ∧ u.eu = s.elapse.eu := by
  have low : u.ae.committed ≤ s.ae.effective := by rw [report.committed]; omega
  have unexceeded : ¬ s.ae.effective < u.ae.committed := by omega
  refine ⟨by rw [report.excess]; exact decide_eq_false unexceeded, by rw [report.effective]; exact low, ?_⟩
  rw [report.eu, if_neg unexceeded, if_neg (by rw [calm]; exact Bool.false_ne_true)]

include own kind

/-- The end tests of an ADMIT reclaim, in their order (R129 to R131). -/
theorem admission_cases (calm_u : u.ae.excess = false) (within_u : u.ae.committed ≤ u.ae.effective) :
    ((u.slot b).state ≠ .waiting ∧ u.endTests.budgetTrigger = u.endReclaim 0x13) ∨
    ((u.slot b).state = .waiting ∧
      ((∃ p, u.fitting b = some p ∧ u.endTests.budgetTrigger = (u.endReclaim 0x11).offer b p) ∨
       (u.fitting b = none ∧ judged.concluded = true ∧ u.endTests.budgetTrigger = u.endReclaim 0x12) ∨
       (u.fitting b = none ∧ judged.concluded = false ∧ u.endTests.budgetTrigger = u))) := by
  have tests : u.endTests = u.admitRules b := by
    unfold State.endTests
    simp only [report.reclaim, active, kind, own, if_true]
  have concluded : u.ae.reclaim.concluded = judged.concluded := by rw [report.reclaim]
  have owns : u.isBeneficiary b = true := by simp [State.isBeneficiary, report.reclaim, active, kind, own]
  rw [tests]
  unfold State.admitRules
  by_cases waits : (u.slot b).state = .waiting
  · refine .inr ⟨waits, ?_⟩
    rw [if_neg (not_not.mpr waits)]
    cases fits : u.fitting b with
    | some p =>
      have available : p.2.power ≤ (u.endReclaim 0x11).available b :=
        fitting_le ((fitting_endReclaim 0x11 owns).trans fits)
      refine .inl ⟨p, rfl, budgetTrigger_calm ?_⟩
      rw [offer_ae (s := u.endReclaim 0x11) calm_u within_u available]
      exact calm_u
    | none =>
      dsimp only
      rw [concluded]
      cases done : judged.concluded
      · refine .inr (.inr ⟨rfl, rfl, ?_⟩)
        rw [calm_u]
        exact budgetTrigger_calm calm_u
      · exact .inr (.inl ⟨rfl, rfl, budgetTrigger_calm calm_u⟩)
  · exact .inl ⟨waits, by rw [if_pos waits]; exact budgetTrigger_calm calm_u⟩

include other

/-- What fits the beneficiary: all that the fall leaves available, its own earmark included (R11, R92). -/
theorem admission_fitting {l : DemandList} (current : (s.slot b).current = some l) :
    u.fitting b = l.highestWithin (s.ae.effective -
      (s.ae.committed - down + if (s.slot b).effClass = 0 then 0 else s.ae.reserve)) := by
  have slot : u.slot b = s.slot b := report.around.2.1 b other
  have owns : u.isBeneficiary b = true := by simp [State.isBeneficiary, report.reclaim, active, kind, own]
  have reserve : u.ae.reserve = s.ae.reserve := by rw [report.ae]
  have available : u.available b = s.ae.effective -
      (s.ae.committed - down + if (s.slot b).effClass = 0 then 0 else s.ae.reserve) := by
    unfold State.available
    rw [owns, slot, report.effective, report.committed, reserve]
    simp
  rw [State.fitting, slot, current, available]
  rfl

end

end Reported

end Sys2Proof.Machine
end

section
/-! Notices of a victim of an active reclaim under HOLD: NOTED and REDUCED, to the reclaim's end or on (R126 to R133). -/

namespace Sys2Proof.Machine

/-- A notice taken under HOLD while no command runs: the account, the end tests and the BUDGET trigger. -/
theorem held_notice {s : State} {i : SlotId} {n : Notice} {rest : List Notice} {kind : Notice → Bool} {u : State}
    (high : s.resetLow = false) (oldest : (s.slot i).outbox = n :: rest) (asked : kind n = true)
    (unwaited : s.cu.policyWait = []) (other : ∀ k num r d, n ≠ .answer k num r d) (idle : s.running = none)
    (account : (s.taken i rest).account i n = u) (hold : u.ae.hold = true) :
    happening (State.noticeOf kind i) s = .next u.endTests.budgetTrigger := by
  rw [notice_happening high oldest asked unwaited other idle, State.aeNotice]
  rw [account, aeRules_underHold _ hold]

/-- NOTED of a victim under excess: the BUDGET reclaim goes on (R133). -/
theorem noted_goesOn {s : State} {i : SlotId} {rest : List Notice} {r : Reclaim} (active : r.active = true)
    (kind : r.kind = .budget) (excess : s.ae.excess = true) (open_ : r.concluded = false) :
    ((s.taken i rest).withReclaim r).endTests.budgetTrigger = (s.taken i rest).withReclaim r := by
  rw [endTests_budget (s := (s.taken i rest).withReclaim r) active kind,
    budgetRules_goesOn (s := (s.taken i rest).withReclaim r) excess open_]
  exact budgetTrigger_active (s := (s.taken i rest).withReclaim r) active

section
variable {s u : State} {i : SlotId} {rest : List Notice} {h down : Nat} {judged : Reclaim}
  (report : Reported s u i rest h down judged) (active : judged.active = true)
include report active

/-- The BUDGET clauses of a victim's REDUCED (R118, R133). -/
theorem reduced_budget (kind : judged.kind = .budget) (excess : s.ae.excess = true) :
    let t := u.endTests.budgetTrigger
    t.entry i = { s.entry i with claim := h, confirmed := h, restating := false } ∧
      (∀ j, j ≠ i → t.entry j = s.entry j) ∧ t.ae.committed = s.ae.committed - down ∧
      (s.ae.effective < t.ae.committed → judged.concluded = false →
        aroundNotice i s t ∧ t.slot i = { s.slot i with outbox := rest } ∧ t.ae.reclaim = judged ∧
        t.ae.excess = true ∧ t.eu = s.elapse.eu) ∧
      (t.ae.committed ≤ s.ae.effective →
        aroundNotice i s t ∧ t.slot i = { s.slot i with outbox := rest } ∧
        t.ae.reclaim = { judged with active := false, earmark := 0 } ∧ t.ae.excess = false ∧
        t.eu = ((s.elapse.event .budgetOk none 0 (s.ae.effective - t.ae.committed)).event .reclaimEnd
          judged.beneficiary 0x21 judged.yieldTaken).eu) ∧
      (s.ae.effective < t.ae.committed → judged.concluded = true → s.budgetCandidates = [] →
        aroundNotice i s t ∧ t.slot i = { s.slot i with outbox := rest } ∧
        t.ae.reclaim = { judged with active := false, earmark := 0 } ∧ t.ae.excess = true ∧
        t.eu = (s.elapse.event .reclaimEnd judged.beneficiary 0x22 judged.yieldTaken).eu) ∧
      (s.ae.effective < t.ae.committed → judged.concluded = true → s.budgetCandidates ≠ [] →
        s.ae.resyncActive = false → (∀ j, (s.slot j).restated = none) →
        t.ae.reclaim.active = true ∧ t.ae.reclaim.kind = .budget ∧ t.ae.reclaim.beneficiary = none ∧
        t.ae.reclaim.earmark = 0 ∧ t.ae.reclaim.yieldTaken = 0 ∧
        t.ae.reclaim.shortfall = t.ae.committed - s.ae.effective ∧ t.ae.excess = true ∧
        t.eu = ((s.elapse.event .reclaimEnd judged.beneficiary 0x22 judged.yieldTaken).event .reclaimStart
          none 2 (t.ae.committed - s.ae.effective)).eu) := by
  intro t
  have same : t.ae.slots = u.ae.slots := by
    show u.endTests.budgetTrigger.ae.slots = _
    rw [budgetTrigger_slots, report.budget_endTests active kind, budgetRules_slots]
  have committed : t.ae.committed = u.ae.committed := committed_of_slots same
  obtain ⟨entry, others, fallen⟩ := report.claims same
  rw [committed]
  refine ⟨entry, others, fallen ▸ committed.symm, fun over_ open_ => ?_, fun within => ?_, fun over_ done none_ => ?_,
    fun over_ done some_ period unpending => ?_⟩
  · have ends : t = u := report.budget_goesOn active kind over_ open_
    rw [ends]
    refine ⟨report.around, report.slot, report.reclaim, by rw [report.excess]; exact decide_eq_true over_, ?_⟩
    rw [report.eu, if_pos over_, if_pos excess]
  · have ends : t = u.endReclaim 0x21 := report.budget_clears active kind within
    have events : u.eu = (s.elapse.event .budgetOk none 0 (s.ae.effective - u.ae.committed)).eu := by
      rw [report.eu, if_neg (Nat.not_lt.mpr within), if_pos excess]
    rw [ends]
    refine ⟨report.around, report.slot, by rw [endReclaim_ae, report.reclaim],
      by rw [endReclaim_ae]; exact report.excess.trans (decide_eq_false (Nat.not_lt.mpr within)), ?_⟩
    show u.eu.append .reclaimEnd u.ae.reclaim.beneficiary _ (BitVec.ofNat 16 u.ae.reclaim.yieldTaken) = _
    rw [report.reclaim, events]
    rfl
  · have ends : t = u.endReclaim 0x22 := by
      refine (report.budget_concludes active kind over_ done).trans (budgetTrigger_uncandidated ?_)
      rw [report.candidates]
      exact none_
    have events : u.eu = s.elapse.eu := by rw [report.eu, if_pos over_, if_pos excess]
    rw [ends]
    refine ⟨report.around, report.slot, by rw [endReclaim_ae, report.reclaim],
      by rw [endReclaim_ae]; exact report.excess.trans (decide_eq_true over_), ?_⟩
    show u.eu.append .reclaimEnd u.ae.reclaim.beneficiary _ (BitVec.ofNat 16 u.ae.reclaim.yieldTaken) = _
    rw [report.reclaim, events]
    rfl
  · have ends : t = (u.endReclaim 0x22).startBudget := report.budget_restarts active kind over_ done period some_
    have events : u.eu = s.elapse.eu := by rw [report.eu, if_pos over_, if_pos excess]
    have short : (u.endReclaim 0x22).ae.committed - (u.endReclaim 0x22).ae.effective =
        u.ae.committed - s.ae.effective := by
      show u.ae.committed - u.ae.effective = _
      rw [report.effective]
    have ae : t.ae = { (u.endReclaim 0x22).ae with reclaim := (u.endReclaim 0x22).budgetReclaim } := by
      rw [ends, startBudget_eq, requestReductions_ae]
      rfl
    have unpended (j : SlotId) : (u.slot j).restated = none := by
      by_cases own : j = i
      · rw [own, report.slot]; exact unpending i
      · rw [report.around.2.1 j own]; exact unpending j
    refine ⟨by rw [ae]; rfl, by rw [ae]; rfl, by rw [ae]; rfl, by rw [ae]; rfl, by rw [ae]; rfl,
      by rw [ae]; exact short, by rw [ae]; exact report.excess.trans (decide_eq_true over_), ?_⟩
    rw [ends, startBudget_eq, short, requestReductions_eu (by exact fun w _ => unpended w.slot)]
    show (u.eu.append .reclaimEnd u.ae.reclaim.beneficiary _ (BitVec.ofNat 16 u.ae.reclaim.yieldTaken)).append _ _ _ _ = _
    rw [report.reclaim, events]
    rfl

end

section
variable {s u : State} {i b : SlotId} {rest : List Notice} {h down : Nat} {judged : Reclaim}
  (report : Reported s u i rest h down judged) (active : judged.active = true) (own : judged.beneficiary = some b)
  (kind : judged.kind = .admission) (other : b ≠ i) (calm : s.ae.excess = false)
  (within : s.ae.committed ≤ s.ae.effective)
include report active own kind other calm within

/-- The ADMIT reclaim's end with an offer to its beneficiary (R130): the slot of the victim stands. -/
theorem admission_offer {p : Nat × Point} (fits : u.fitting b = some p) :
    let t := (u.endReclaim 0x11).offer b p
    t.entry i = { s.entry i with claim := h, confirmed := h, restating := false } ∧
      t.slot i = { s.slot i with outbox := rest } ∧ t.ae.reclaim = { judged with active := false, earmark := 0 } ∧
      t.slot b = { s.slot b with state := .offering, offered := some (.ofPoint p) } ∧
      t.entry b = { s.entry b with claim := p.2.power, mark := .offer, blocked := false } ∧
      t.ae.entryOrder = s.ae.entryOrder.filter (· != b) ∧
      t.eu = (s.elapse.event .reclaimEnd (some b) 0x11 judged.yieldTaken).eu := by
  obtain ⟨calm_u, within_u, events⟩ := report.stays_calm calm within
  have owns : u.isBeneficiary b = true := by simp [State.isBeneficiary, report.reclaim, active, kind, own]
  have available : p.2.power ≤ (u.endReclaim 0x11).available b :=
    fitting_le ((fitting_endReclaim 0x11 owns).trans fits)
  have slot_b : (u.endReclaim 0x11).slot b = s.slot b := report.around.2.1 b other
  have entry_b : (u.endReclaim 0x11).entry b = s.entry b := report.others b other
  have order : u.ae.entryOrder = s.ae.entryOrder := by rw [report.ae]
  intro t
  have ae : t.ae = { (u.endReclaim 0x11).ae with
      slots := t.ae.slots, entryOrder := (u.endReclaim 0x11).ae.entryOrder.filter (· != b) } :=
    offer_ae (s := u.endReclaim 0x11) calm_u within_u available
  have eu : t.eu = (u.endReclaim 0x11).eu := offer_eu (s := u.endReclaim 0x11) calm_u within_u available
  refine ⟨?_, ?_, ?_, ?_, ?_, ?_, ?_⟩
  · exact (offer_entry_other (s := u.endReclaim 0x11) calm_u within_u available other.symm).trans report.entry
  · exact (slot_offer_other (u.endReclaim 0x11) p other.symm).trans report.slot
  · rw [ae, endReclaim_ae, report.reclaim]
  · rw [← slot_b]
    exact offer_slot (s := u.endReclaim 0x11) calm_u within_u available
  · rw [← entry_b]
    exact offer_entry (s := u.endReclaim 0x11) calm_u within_u available
  · rw [ae, ← order]
    rfl
  · rw [eu]
    show u.eu.append .reclaimEnd u.ae.reclaim.beneficiary _ (BitVec.ofNat 16 u.ae.reclaim.yieldTaken) = _
    rw [report.reclaim, events, own]
    rfl

omit active kind other in
/-- An ADMIT reclaim's end without an offer (R129, R131). -/
theorem admission_end (code : Nat) : aroundNotice i s (u.endReclaim code) ∧
    (u.endReclaim code).ae.reclaim = { judged with active := false, earmark := 0 } ∧
    (u.endReclaim code).eu = (s.elapse.event .reclaimEnd (some b) code judged.yieldTaken).eu := by
  obtain ⟨-, -, events⟩ := report.stays_calm calm within
  refine ⟨report.around, by rw [endReclaim_ae, report.reclaim], ?_⟩
  show u.eu.append .reclaimEnd u.ae.reclaim.beneficiary _ (BitVec.ofNat 16 u.ae.reclaim.yieldTaken) = _
  rw [report.reclaim, events, own]
  rfl

/-- The ADMIT clauses of a victim's REDUCED (R129 to R131). -/
theorem reduced_admission :
    let t := u.endTests.budgetTrigger
    let avail := s.ae.effective - (s.ae.committed - down + if (s.slot b).effClass = 0 then 0 else s.ae.reserve)
    t.entry i = { s.entry i with claim := h, confirmed := h, restating := false } ∧
      t.slot i = { s.slot i with outbox := rest } ∧
      ((s.slot b).state ≠ .waiting →
        aroundNotice i s t ∧ t.ae.reclaim = { judged with active := false, earmark := 0 } ∧
        t.eu = (s.elapse.event .reclaimEnd (some b) 0x13 judged.yieldTaken).eu) ∧
      (∀ l, (s.slot b).current = some l → (s.slot b).state = .waiting →
        (∀ p, l.highestWithin avail = some p →
          t.ae.reclaim = { judged with active := false, earmark := 0 } ∧
          t.slot b = { s.slot b with
            state := .offering, offered := some { index := p.1, power := p.2.power, tag := p.2.tag } } ∧
          t.entry b = { s.entry b with claim := p.2.power, mark := .offer, blocked := false } ∧
          t.ae.entryOrder = s.ae.entryOrder.filter (· != b) ∧
          t.eu = (s.elapse.event .reclaimEnd (some b) 0x11 judged.yieldTaken).eu) ∧
        (l.highestWithin avail = none → judged.concluded = true →
          aroundNotice i s t ∧ t.ae.reclaim = { judged with active := false, earmark := 0 } ∧
          t.eu = (s.elapse.event .reclaimEnd (some b) 0x12 judged.yieldTaken).eu) ∧
        (l.highestWithin avail = none → judged.concluded = false →
          aroundNotice i s t ∧ t.ae.reclaim = judged ∧ t.eu = s.elapse.eu)) := by
  obtain ⟨calm_u, within_u, events⟩ := report.stays_calm calm within
  have slot_b : u.slot b = s.slot b := report.around.2.1 b other
  have fitting {l : DemandList} (current : (s.slot b).current = some l) :=
    report.admission_fitting active own kind other current
  intro t avail
  obtain ⟨left, ends⟩ | ⟨waits, ⟨p, fits, ends⟩ | ⟨unfit, done, ends⟩ | ⟨unfit, open_, ends⟩⟩ :=
    report.admission_cases active own kind calm_u within_u
  all_goals have ends := show t = _ from ends
  all_goals rw [ends]
  · rw [slot_b] at left
    exact ⟨report.entry, report.slot, fun _ => admission_end report own calm within 0x13,
      fun _ _ waits => absurd waits left⟩
  · rw [slot_b] at waits
    obtain ⟨entry, slot, offered⟩ := admission_offer report active own kind other calm within fits
    refine ⟨entry, slot, fun left => absurd waits left, fun l current _ => ⟨fun q found => ?_,
      fun none_ => ?_, fun none_ => ?_⟩⟩
    · have same : p = q := Option.some.inj (fits.symm.trans ((fitting current).trans found))
      rw [← same]
      exact offered
    · exact absurd (fits.symm.trans ((fitting current).trans none_)) (Option.some_ne_none p)
    · exact absurd (fits.symm.trans ((fitting current).trans none_)) (Option.some_ne_none p)
  · rw [slot_b] at waits
    refine ⟨report.entry, report.slot, fun left => absurd waits left, fun l current _ => ⟨fun q found => ?_,
      fun _ _ => admission_end report own calm within 0x12, fun _ open_ => ?_⟩⟩
    · exact absurd (found.symm.trans ((fitting current).symm.trans unfit)) (Option.some_ne_none q)
    · rw [done] at open_; cases open_
  · rw [slot_b] at waits
    refine ⟨report.entry, report.slot, fun left => absurd waits left, fun l current _ => ⟨fun q found => ?_,
      fun _ done => ?_, fun _ _ => ⟨report.around, report.reclaim, events⟩⟩⟩
    · exact absurd (found.symm.trans ((fitting current).symm.trans unfit)) (Option.some_ne_none q)
    · rw [open_] at done; cases done

end

/-- Settles O43: the judgement by `judge_noted` and `judge_reduced`, the end tests by `Reported`. -/
theorem victimNoticesAreJudged : Obligations.VictimNoticesAreJudged := by
  intro s i h v rest high hold active unwaited idle left member own each
  refine ⟨fun oldest pending kind excess => ?_, fun oldest open_ nonzero falls target unmarked => ?_⟩
  · have account := account_notedVictim (s := s.taken i rest) active each member own pending
    have settled : exec (.notedNotice i) s = .next _ :=
      held_notice high oldest (by rfl) unwaited nofun idle account hold
    refine ⟨_, settled.trans (congrArg _ (noted_goesOn active kind excess (taking_unconcluded member own rfl 0))),
      ⟨sameHost_elapse (taken_frame s i rest), fun j => slot_taken_other s i rest, rfl, rfl⟩, rfl,
      slot_taken s i rest, rfl⟩
  · intro down judged
    have account := account_reducedVictim (s := s.taken i rest) active left each member own open_ nonzero falls target
    have report := lowered_reported (rest := rest) judged falls unmarked
    obtain ⟨u, reported⟩ : ∃ u : State, ((s.taken i rest).lowered i h).evalExcess.withReclaim judged = u := ⟨_, rfl⟩
    have account : (s.taken i rest).account i (.reduced h) = u := account.trans reported
    rw [reported] at report
    have hold_u : u.ae.hold = true := by rw [report.ae]; exact hold
    have settled : exec (.reducedNotice i) s = .next u.endTests.budgetTrigger :=
      held_notice high oldest (by rfl) unwaited nofun idle account hold_u
    refine ⟨_, settled, fun kind excess => ?_, fun b beneficiary kind other calm within => ?_⟩
    · exact reduced_budget report active kind excess
    · exact reduced_admission report active beneficiary kind other calm within

end Sys2Proof.Machine
end

section
/-! DEMAND taken by the AE (R26, R54, R86): the account, and what it leaves where the AE makes no decision. -/

namespace Sys2Proof.Machine

/-! ### The account -/

theorem followFloor_idle {s : State} (i : SlotId) (idle : s.ae.reclaim.active = false) : s.followFloor i = s :=
  if_neg (by simp [State.isBeneficiary, idle])

section
variable {s : State} {i : SlotId} (idle : s.ae.reclaim.active = false)
include idle

/-- A DEMAND carries no holding: the account is what taking it makes of the queue. -/
theorem account_demand (restating : Bool) : s.account i (.demand restating none) =
    if restating then s.mapRestatement i else s.takeDemand i := by
  have active : (s.takeNotice i (.demand restating none)).ae.reclaim = s.ae.reclaim := by
    cases restating
    · show (s.takeDemand i).ae.reclaim = _
      unfold State.takeDemand
      split
      · split
        · exact reclaim_of_account (account_admitDemand (s.makeCurrent i _) i)
        · rfl
      · have kept := reclaim_of_account (account_admitKept s i)
        rw [followFloor_idle i (by rw [kept]; exact idle)]
        exact kept
    · show (s.mapRestatement i).ae.reclaim = _
      obtain eq | ⟨l, -, -, ⟨-, eq⟩ | ⟨k, x, -, eq⟩⟩ := mapRestatement_cases s i <;> rw [eq] <;> rfl
  rw [State.account, resyncConcludes_unheld rfl, judgeNotice_idle _ _ _ (by rw [active]; exact idle)]
  cases restating <;> rfl

end

/-- The state in which slot `i`'s arrived list has become current (R26). -/
theorem takeDemand_arrives {s : State} {i : SlotId} {l : DemandList} (arriving : (s.slot i).arriving = some l)
    (state : (s.slot i).state = .identify ∨ (s.slot i).state = .standby)
    (last : (s.slot i).outbox.any Notice.isDemand = false) (freed : (s.slot i).outbox.any Notice.frees = false) :
    s.takeDemand i = (s.makeCurrent i l).admitDemand i := by
  unfold State.takeDemand
  rw [arriving]
  exact if_pos ⟨state, by rw [last]; rfl, by rw [State.freed, freed]; rfl⟩

/-- The slot's own entry keeps the links, the events and the account, its queue aside. -/
structure Entered (s u : State) (i : SlotId) : Prop where
  frame : SlotFrame i s u
  links : u.links = s.links
  eu : u.eu = s.eu
  hold : u.ae.hold = s.ae.hold
  reclaim : u.ae.reclaim = s.ae.reclaim
  excess : u.ae.excess = s.ae.excess

namespace Entered

variable {s u w : State} {i : SlotId}

theorem refl (s : State) (i : SlotId) : Entered s s i := ⟨.refl i s, rfl, rfl, rfl, rfl, rfl⟩

theorem trans (h : Entered s u i) (k : Entered u w i) : Entered s w i :=
  ⟨h.frame.trans k.frame, k.links.trans h.links, k.eu.trans h.eu, k.hold.trans h.hold, k.reclaim.trans h.reclaim,
    k.excess.trans h.excess⟩

theorem modSlot (s : State) (i : SlotId) (f : SlotRec → SlotRec) : Entered s (s.modSlot i f) i :=
  ⟨(SlotFrame.modSlot_iff (i := i) f).mpr (.refl i s), rfl, rfl, rfl, rfl, rfl⟩

theorem modEntry (s : State) (i : SlotId) (f : AeSlot → AeSlot) : Entered s (s.modEntry i f) i :=
  ⟨(SlotFrame.modEntry_iff (i := i) f).mpr (.refl i s), rfl, rfl, rfl, rfl, rfl⟩

theorem admitDemand (s : State) (i : SlotId) : Entered s (s.admitDemand i) i := by
  unfold State.admitDemand
  split
  · exact ⟨SlotFrame.joinQueue_iff.mpr (.refl i s), rfl, rfl, rfl, rfl, rfl⟩
  · exact .modSlot s i _

/-- A DEMAND at an AE with no reclaim active. -/
theorem account_demand (idle : s.ae.reclaim.active = false) (restating : Bool) :
    Entered s (s.account i (.demand restating none)) i := by
  rw [Sys2Proof.Machine.account_demand idle]
  cases restating
  · show Entered s (s.takeDemand i) i
    unfold State.takeDemand
    split
    · split
      · exact (Entered.modSlot s i _).trans (.admitDemand (s.makeCurrent i _) i)
      · exact .refl s i
    · have kept : Entered s (s.admitKept i) i := by
        unfold State.admitKept
        split
        · exact .admitDemand s i
        · exact .refl s i
      rw [followFloor_idle i (by rw [kept.reclaim]; exact idle)]
      exact kept
  · show Entered s (s.mapRestatement i) i
    obtain eq | ⟨l, -, -, ⟨-, eq⟩ | ⟨k, x, -, eq⟩⟩ := mapRestatement_cases s i <;> rw [eq]
    · exact .refl s i
    · exact .modSlot s i _
    · exact (Entered.modEntry s i _).trans (.modSlot _ i _)

end Entered

end Sys2Proof.Machine
end

section
/-! DEMAND at an AE that makes no decision: entry, replacement and restatement (R26, R54, R86). -/

namespace Sys2Proof.Machine

section
variable {s : State} {i : SlotId} {rest : List Notice}

/-- The slot whose list has arrived, with it as current (R26, R50). -/
def State.arrived (s : State) (i : SlotId) (rest : List Notice) (l : DemandList) : State :=
  (s.taken i rest).makeCurrent i l

theorem slot_arrived (l : DemandList) : (s.arrived i rest l).slot i =
    { (s.slot i).listed l (s.policy i).classLimit with outbox := rest } := by
  rw [State.arrived, slot_makeCurrent, slot_taken]
  rfl

/-- What stands around the account that a DEMAND leaves, and its events. -/
theorem Entered.around {u : State} (entered : Entered (s.taken i rest) u i) : aroundNotice i s u ∧ u.eu = s.elapse.eu := by
  obtain ⟨engine, others⟩ := id entered.frame
  exact ⟨⟨sameHost_elapse ((taken_frame s i rest).trans engine),
    fun j other => ((others j other).1).trans (slot_taken_other s i rest other), entered.links, engine.2.2.1⟩, entered.eu⟩

/-- The DEMAND of the list that has arrived (R26). -/
theorem account_arrives {l : DemandList} (idle : s.ae.reclaim.active = false) (arriving : (s.slot i).arriving = some l)
    (last : rest.any Notice.isDemand = false) (freed : rest.any Notice.frees = false)
    (state : (s.slot i).state = .identify ∨ (s.slot i).state = .standby) :
    (s.taken i rest).account i (.demand false none) = (s.arrived i rest l).admitDemand i := by
  have demanded : (s.taken i rest).account i (.demand false none) = (s.taken i rest).takeDemand i :=
    account_demand (s := s.taken i rest) idle false
  rw [demanded]
  exact takeDemand_arrives (by rw [slot_taken]; exact arriving) (by rw [slot_taken]; exact state)
    (by rw [slot_taken]; exact last) (by rw [slot_taken]; exact freed)

/-- The slot enters WAITING or PARKED with the list (R26, R151). -/
theorem arrived_enters (l : DemandList) : ((s.arrived i rest l).admitDemand i).slot i =
    { (s.slot i).listed l (s.policy i).classLimit with
      outbox := rest, state := if (s.policy i).admits then .waiting else .parked } := by
  have policy : (s.arrived i rest l).policy i = s.policy i := rfl
  cases admits : (s.policy i).admits
  · rw [admitDemand_parks (by rw [policy]; exact admits), slot_enter, slot_arrived]
    rfl
  · rw [admitDemand_joins (by rw [policy]; exact admits), slot_joinQueue, slot_arrived]
    rfl

theorem arrived_ae (l : DemandList) (admits : (s.policy i).admits = true) : ((s.arrived i rest l).admitDemand i).ae =
    { (s.leaveQueue i).ae with entryOrder := s.ae.entryOrder.filter (· != i) ++ [i] } := by
  have joins := admitDemand_joins (s := s.arrived i rest l) (i := i) admits
  rw [joins]
  rfl

/-- A WAITING slot's replacement list changes nothing here (R88). -/
theorem account_replaced (idle : s.ae.reclaim.active = false) (none_ : (s.slot i).arriving = none)
    (waits : (s.slot i).state = .waiting) : (s.taken i rest).account i (.demand false none) = s.taken i rest := by
  have demanded : (s.taken i rest).account i (.demand false none) = (s.taken i rest).takeDemand i :=
    account_demand (s := s.taken i rest) idle false
  have stays : (s.taken i rest).admitKept i = s.taken i rest :=
    admitKept_stays (.inl (by rw [slot_taken]; simp [waits]))
  have absent : ((s.taken i rest).slot i).arriving = none := by rw [slot_taken]; exact none_
  rw [demanded, State.takeDemand, absent]
  dsimp only
  rw [stays]
  exact followFloor_idle i idle

theorem account_restated (idle : s.ae.reclaim.active = false) :
    (s.taken i rest).account i (.demand true none) = (s.taken i rest).mapRestatement i :=
  account_demand (s := s.taken i rest) idle true

/-- The notice of a dropped list, and of one that a newer has replaced, maps nothing (R54). -/
theorem mapRestatement_stays (dropped : (s.slot i).restated = none ∨ rest.any Notice.isRestatement = true) :
    (s.taken i rest).mapRestatement i = s.taken i rest := by
  unfold State.mapRestatement
  rw [slot_taken]
  rcases dropped with none_ | newer
  · simp [none_]
  · simp [newer]

/-- A restatement is mapped to the highest available point within the confirmed claim, or to none (R54). -/
theorem mapRestatement_maps {l : DemandList} {m : Option (Nat × Point)} (some_ : (s.slot i).restated = some l)
    (last : rest.any Notice.isRestatement = false) (found : l.highestWithin (s.entry i).confirmed = m) :
    ((s.taken i rest).mapRestatement i).slot i = { s.slot i with
      outbox := rest, mapRequests := (s.slot i).mapRequests ++ [m.map .ofPoint] } ∧
    ((s.taken i rest).mapRestatement i).entry i = { s.entry i with
      restating := (s.entry i).restating || m.isSome } ∧
    (∀ j, j ≠ i → ((s.taken i rest).mapRestatement i).entry j = s.entry j) ∧
    ((s.taken i rest).mapRestatement i).ae =
      { s.ae with slots := ((s.taken i rest).mapRestatement i).ae.slots } := by
  unfold State.mapRestatement
  rw [slot_taken, entry_taken]
  simp only [last, some_, found, Bool.false_eq_true, if_false]
  cases m with
  | none =>
    refine ⟨?_, ?_, fun j other => rfl, rfl⟩
    · rw [slot_modSlot_same, slot_taken, ← some_]; rfl
    · simp
  | some p =>
    refine ⟨?_, ?_, fun j other => ?_, rfl⟩
    · rw [slot_modSlot_same, slot_modEntry, slot_taken, ← some_]; rfl
    · rw [entry_modSlot, entry_modEntry_same]; simp
    · rw [entry_modSlot, entry_modEntry_other _ _ other]; rfl

end

/-- The happening of a DEMAND where the AE makes no decision. -/
theorem demand_still {s : State} {i : SlotId} {restating : Bool} {rest : List Notice} (high : s.resetLow = false)
    (still : aeStill s) (oldest : (s.slot i).outbox = .demand restating none :: rest) :
    exec (.demandNotice i) s = .next ((s.taken i rest).account i (.demand restating none)) := by
  obtain ⟨hold, idle, calm, -⟩ := id still
  have entered := Entered.account_demand (s := s.taken i rest) (i := i) idle restating
  exact still_account high still oldest (by rfl) nofun rfl (entered.hold.trans hold)
    ((congrArg Reclaim.active entered.reclaim).trans idle) (entered.excess.trans calm)

end Sys2Proof.Machine
end

section
/-! The allocation pass over a queue of one slot or two (R92 to R98), for a slot that has just entered it. -/

namespace Sys2Proof.Machine

/-! ### A pass step by step -/

section
variable {u : State} {h : SlotId} {rest : List SlotId} {n : Nat}

theorem isBeneficiary_idle (i : SlotId) (quiet : u.ae.reclaim.active = false) : u.isBeneficiary i = false := by
  simp [State.isBeneficiary, quiet]

theorem passFrom_empty (queue : u.queue = []) : State.passFrom n u = u := by
  cases n with
  | zero => rfl
  | succ n => rw [State.passFrom, queue]

theorem backfill_nil : u.backfill [] = u := ite_self _

variable (queue : u.queue = h :: rest) (quiet : u.ae.reclaim.active = false)
include queue quiet

/-- The head is offered its point (R93). -/
theorem passFrom_offers {p : Nat × Point} (fits : u.fitting h = some p) :
    State.passFrom (n + 1) u = State.passFrom n (u.offer h p) := by
  rw [State.passFrom, queue]
  dsimp only
  rw [if_neg (by rw [isBeneficiary_idle h quiet]; exact Bool.false_ne_true), fits]

/-- Nothing fits the head: it is settled, and those behind it may be served (R94 to R98). -/
theorem passFrom_settles (unfit : u.fitting h = none) :
    State.passFrom (n + 1) u = (u.settleHead h).backfill rest := by
  rw [State.passFrom, queue]
  dsimp only
  rw [if_neg (by rw [isBeneficiary_idle h quiet]; exact Bool.false_ne_true), unfit]

end

theorem raisePass_barred {u : State} (barred : u.ae.entryOrder ≠ [] ∨ u.cu.settings.autoRaise = false) :
    u.raisePass = u := by
  refine if_neg ?_
  rcases barred with queued | off
  · simp [State.raisesAllowed, queued]
  · simp [State.raisesAllowed, off]

/-- Two slots in the queue, the first of no worse class. -/
theorem queue_pair {u : State} {h i : SlotId} (order : u.ae.entryOrder = [h, i])
    (better : (u.slot h).effClass ≤ (u.slot i).effClass) (low : (u.slot i).effClass ≤ 3) : u.queue = [h, i] := by
  obtain ⟨a, class_h⟩ : ∃ a, (u.slot h).effClass = a := ⟨_, rfl⟩
  obtain ⟨b, class_i⟩ : ∃ b, (u.slot i).effClass = b := ⟨_, rfl⟩
  rw [class_h, class_i] at better
  rw [class_i] at low
  rw [State.queue, order]
  interval_cases b <;> interval_cases a <;> simp [State.ofClass, class_h, class_i]

/-! ### The slot that enters -/

/-- `u` is `s` after slot `i`, its record `r` by then, has joined the queue (R26, R86), nothing else having moved. -/
structure Joined (s u : State) (i : SlotId) (r : SlotRec) : Prop where
  frame : SlotFrame i s.elapse u
  links : u.links = s.links
  slot : u.slot i = r
  entry : u.entry i = { s.entry i with blocked := false }
  account : u.ae.account = s.ae.account
  ae : u.ae = { s.ae with slots := u.ae.slots, entryOrder := s.ae.entryOrder.filter (· != i) ++ [i] }
  eu : u.eu = s.elapse.eu

/-- The slot whose list has arrived joins the queue. -/
theorem arrived_joined (s : State) (i : SlotId) (rest : List Notice) (l : DemandList) :
    Joined s ((s.arrived i rest l).joinQueue i) i
      { (s.slot i).listed l (s.policy i).classLimit with outbox := rest, state := .waiting } := by
  refine ⟨?_, rfl, by rw [slot_joinQueue, slot_arrived], updateAt_same _ _ _, account_leaveQueue s i, rfl, rfl⟩
  exact SlotFrame.joinQueue_iff.mpr ((SlotFrame.modSlot_iff (i := i) _).mpr
    ((SlotFrame.modSlot_iff (i := i) _).mpr (.refl i s.elapse)))

namespace Joined

variable {s u : State} {i : SlotId} {r : SlotRec} (joined : Joined s u i r)
include joined

theorem slot_other {j : SlotId} (other : j ≠ i) : u.slot j = s.slot j := (joined.frame.2 j other).1
theorem entry_other {j : SlotId} (other : j ≠ i) : u.entry j = s.entry j := (joined.frame.2 j other).2.2
theorem link (j : SlotId) : u.link j = s.link j := congrArg (fun x : Slots LinkRec => x[j.val]) joined.links
theorem cu : u.cu = s.cu := joined.frame.1.2.2.2.1
theorem order : u.ae.entryOrder = s.ae.entryOrder.filter (· != i) ++ [i] := by rw [joined.ae]
theorem reclaim : u.ae.reclaim = s.ae.reclaim := reclaim_of_account joined.account
theorem claim (j : SlotId) : (u.entry j).claim = (s.entry j).claim := claim_of_account joined.account j
theorem calm (calm_s : s.ae.excess = false) : u.ae.excess = false := (excess_of_account joined.account).trans calm_s
theorem within (within_s : s.ae.committed ≤ s.ae.effective) : u.ae.committed ≤ u.ae.effective := by
  rw [committed_of_account joined.account, effective_of_account joined.account]
  exact within_s

/-- What is available to a slot where nothing is earmarked (R11). -/
theorem available (unearmarked : s.ae.reclaim.earmark = 0) (j : SlotId) : u.available j =
    s.ae.effective - (s.ae.committed + if (u.slot j).effClass = 0 then 0 else s.ae.reserve) := by
  have reserve : u.ae.reserve = s.ae.reserve := by rw [joined.ae]
  unfold State.available
  rw [effective_of_account joined.account, committed_of_account joined.account, joined.reclaim, unearmarked, reserve,
    ite_self, Nat.add_zero]

/-- Exchange marks stand as they stood (R94). -/
theorem marks : u.ae.markOutstanding = s.ae.slots.toList.any fun e => e.mark != .none := by
  rw [Bool.eq_iff_iff, Ae.markOutstanding, any_entries_iff, any_entries_iff]
  refine exists_congr fun j => ?_
  have mark : (u.entry j).mark = (s.entry j).mark := (AeSlot.mk.inj (entry_of_account joined.account j)).2.2.1
  show (((u.entry j).mark != .none) = true) ↔ (((s.entry j).mark != .none) = true)
  rw [mark]

/-- The happening of the notice that brings the entry runs both passes (R90, R91). -/
theorem rules (opens : aeOpen s) : u.aeRules true = u.allocationPass.raisePass := by
  obtain ⟨unheld, quiet, -, calm, -, period, -, -⟩ := opens
  exact aeRules_open (by rw [joined.reclaim]; exact quiet) (joined.calm calm) (by rw [joined.ae]; exact unheld)
    (by rw [joined.ae]; exact period)

end Joined

end Sys2Proof.Machine
end

section
/-! The slot that enters the queue at its head or behind a blocked one: offered, blocked, or a reclaim started for it
(R92 to R98, R115 to R118). -/

namespace Sys2Proof.Machine

namespace Joined

variable {s u : State} {i : SlotId} {r : SlotRec} {l : DemandList} (joined : Joined s u i r) (opens : aeOpen s)
  (current : r.current = some l)
include joined opens current

/-- What fits the slot that has entered (R92). -/
theorem fitting : u.fitting i = l.highestWithin (s.ae.effective -
    (s.ae.committed + if r.effClass = 0 then 0 else s.ae.reserve)) := by
  obtain ⟨-, -, unearmarked, -⟩ := opens
  have available := joined.available unearmarked i
  rw [joined.slot] at available
  rw [State.fitting, joined.slot, current, available]
  rfl

omit current in
/-- What an offer to it leaves (R93), where no one else is behind it. -/
theorem offered {p : Nat × Point} (fits : u.fitting i = some p) (absent : i ∉ s.ae.entryOrder) :
    let t := u.offer i p
    t.slot i = { r with state := .offering, offered := some (.ofPoint p) } ∧
      t.entry i = { s.entry i with claim := p.2.power, mark := .offer, blocked := false } ∧
      t.ae = { s.ae with slots := t.ae.slots } ∧ othersSame i s t ∧ t.eu = s.elapse.eu ∧
      ((s.link i).link ≠ .down →
        t.link i = (s.link i).asked (.offer p.1 p.2.power p.2.tag false) s.cu.settings.retryLimit) := by
  obtain ⟨-, -, -, calm, within, -⟩ := opens
  have calm_u := joined.calm calm
  have within_u := joined.within within
  have available := fitting_le fits
  have gone : s.ae.entryOrder.filter (· != i) = s.ae.entryOrder :=
    List.filter_eq_self.mpr fun j member => by
      simp only [bne_iff_ne, ne_eq]
      rintro rfl
      exact absent member
  have back : u.ae.entryOrder.filter (· != i) = s.ae.entryOrder := by
    rw [joined.order, List.filter_append, List.filter_filter]
    simp [gone]
  intro t
  have ae := offer_ae calm_u within_u available
  refine ⟨?_, ?_, ?_, fun j other => ⟨?_, ?_⟩, ?_, fun serves => ?_⟩
  · rw [← joined.slot]
    exact offer_slot calm_u within_u available
  · refine (offer_entry calm_u within_u available).trans ?_
    rw [joined.entry]
  · rw [back] at ae
    rw [joined.ae] at ae
    exact ae
  · exact (slot_offer_other u p other).trans (joined.slot_other other)
  · exact (offer_link_other calm_u within_u available other).trans (joined.link j)
  · exact (offer_eu calm_u within_u available).trans joined.eu
  · refine (offer_link calm_u within_u available).trans ?_
    rw [joined.link, joined.cu]
    exact LinkRec.request_asked (f := .offer p.1 p.2.power p.2.tag false) serves nofun _

variable (low : r.effClass ≤ 3)
include low

section
variable (empty : s.ae.entryOrder = [])
include empty

omit current opens in
theorem alone : u.queue = [i] ∧ u.ae.entryOrder = [i] := by
  have order : u.ae.entryOrder = [i] := by rw [joined.order, empty]; rfl
  exact ⟨queue_single order (by rw [joined.slot]; exact low), order⟩

omit current in
/-- The head is offered its point, and no raise follows (R93, R103). -/
theorem head_offered {p : Nat × Point} (fits : u.fitting i = some p) (unraised : s.cu.settings.autoRaise = false) :
    u.aeRules true = u.offer i p := by
  obtain ⟨-, quiet, -, calm, within, -⟩ := id opens
  obtain ⟨queue, order⟩ := joined.alone low empty
  have served : (u.offer i p).ae.entryOrder = [] := by
    rw [offer_ae (joined.calm calm) (joined.within within) (fitting_le fits), order]
    simp
  have queue' : (u.offer i p).queue = [] := by simp [State.queue, State.ofClass, served]
  have cu : (u.offer i p).cu = s.cu :=
    (((EngineFrame.offer_iff i p).mpr (.refl u)).2.2.2.1).trans joined.cu
  rw [joined.rules opens, State.allocationPass, passFrom_offers queue (by rw [joined.reclaim]; exact quiet) fits,
    passFrom_empty queue']
  exact raisePass_barred (.inr (by rw [cu]; exact unraised))

omit current in
/-- Nothing fits the head: it is settled, and no raise follows (R94, R103). -/
theorem head_settles (unfit : u.fitting i = none) (queued : (u.settleHead i).ae.entryOrder = [i]) :
    u.aeRules true = u.settleHead i := by
  obtain ⟨-, quiet, -⟩ := id opens
  obtain ⟨queue, -⟩ := joined.alone low empty
  rw [joined.rules opens, State.allocationPass, passFrom_settles queue (by rw [joined.reclaim]; exact quiet) unfit,
    backfill_nil]
  exact raisePass_barred (.inl (by rw [queued]; exact List.cons_ne_nil i []))

end

/-! ### The tests of R94 -/

section
variable (waits : r.state = .waiting) (unpowered : (s.slot i).state ≠ .powered)

omit low in
theorem shortfall : u.shortfall i = l.floorPower - (s.ae.effective -
    (s.ae.committed + if r.effClass = 0 then 0 else s.ae.reserve)) := by
  obtain ⟨-, -, unearmarked, -⟩ := opens
  have available := joined.available unearmarked i
  rw [joined.slot] at available
  rw [State.shortfall, State.floorPower, joined.slot, current, available]
  rfl

include waits unpowered

omit opens current low in
/-- Its victims are told of the state before: the slot itself is none. -/
theorem admitCandidates : u.admitCandidates i =
    s.candidates fun j => decide (r.effClass < (s.slot j).effClass) && (s.slot j).restated.isNone := by
  refine candidates_congr (by rw [joined.ae]) fun j powered => ?_
  have other : j ≠ i := by
    rintro rfl
    rcases powered with h | h
    · rw [joined.slot, waits] at h; cases h
    · exact unpowered h
  rw [joined.slot_other other, joined.slot]
  exact ⟨rfl, rfl, rfl⟩

omit current opens low in
theorem eligibleYield : u.eligibleYield i =
    ((s.candidates fun j => decide (r.effClass < (s.slot j).effClass) && (s.slot j).restated.isNone).map
      fun j => (s.entry j).claim).sum := by
  rw [State.eligibleYield, joined.admitCandidates waits unpowered]
  simp only [joined.claim]

omit low in
/-- The first test of R94 that may fail for a slot that enters an open queue. -/
theorem blockReason : u.blockReason i =
    if s.ae.slots.toList.any fun e => e.mark != .none then some 3
    else if ((s.candidates fun j => decide (r.effClass < (s.slot j).effClass) && (s.slot j).restated.isNone).map
        fun j => (s.entry j).claim).sum < l.floorPower - (s.ae.effective -
          (s.ae.committed + if r.effClass = 0 then 0 else s.ae.reserve)) then some 4
    else none := by
  obtain ⟨-, quiet, -, calm, -⟩ := id opens
  have quiet_u : u.ae.reclaim.active = false := by rw [joined.reclaim]; exact quiet
  rw [State.blockReason, quiet_u, joined.calm calm, joined.marks, joined.eligibleYield waits unpowered,
    joined.shortfall opens current]
  simp only [Bool.false_eq_true, if_false]

end

end Joined

end Sys2Proof.Machine
end

section
/-! DEMAND taken by the AE with its decisions open: the head blocked, an ADMIT reclaim, BACKFILL (R94 to R98). -/

namespace Sys2Proof.Machine

namespace Joined

variable {s u : State} {i : SlotId} {r : SlotRec} {l : DemandList} (joined : Joined s u i r) (opens : aeOpen s)
  (current : r.current = some l)
include joined opens current

omit opens current in
/-- The account after a change of its entry, for a slot alone in the queue. -/
theorem modEntry_ae (f : AeSlot → AeSlot) (empty : s.ae.entryOrder = []) : (u.modEntry i f).ae =
    { s.ae with slots := (u.modEntry i f).ae.slots, entryOrder := [i] } :=
  (congrArg (fun a : Ae => ({ a with slots := (u.modEntry i f).ae.slots } : Ae)) joined.ae).trans (by rw [empty]; rfl)

/-- The head found blocked (R96). -/
theorem blocked (reason : Nat) (empty : s.ae.entryOrder = []) :
    let t := u.block i reason
    t.slot i = r ∧ t.entry i = { s.entry i with blocked := true } ∧
      t.ae = { s.ae with slots := t.ae.slots, entryOrder := [i] } ∧ othersSame i s t ∧
      t.eu = (s.elapse.event .demandBlocked (some i) reason (l.floorPower - (s.ae.effective -
        (s.ae.committed + if r.effClass = 0 then 0 else s.ae.reserve)))).eu := by
  have unblocked : (u.entry i).blocked = false := by rw [joined.entry]
  have blocks : u.block i reason =
      (u.modEntry i fun e => { e with blocked := true }).event .demandBlocked (some i) reason (u.shortfall i) :=
    if_neg (by rw [unblocked]; exact Bool.false_ne_true)
  intro t
  have blocks : t = _ := blocks
  rw [blocks]
  refine ⟨joined.slot, ?_, ?_, fun j other => ⟨joined.slot_other other, joined.link j⟩, ?_⟩
  · show (u.modEntry i fun e => { e with blocked := true }).entry i = _
    rw [entry_modEntry_same, joined.entry]
  · exact joined.modEntry_ae _ empty
  · show u.eu.append _ _ _ (BitVec.ofNat 16 (u.shortfall i)) = _
    rw [joined.eu, joined.shortfall opens current]
    rfl

section
variable (waits : r.state = .waiting) (unpowered : (s.slot i).state ≠ .powered)
include waits unpowered

omit opens current in
/-- The victims chosen are those that the state before the entry gives (R115 to R117). -/
theorem victims (need : Nat) : u.selectVictims need (u.admitCandidates i) = s.selectVictims need
    (s.candidates fun j => decide (r.effClass < (s.slot j).effClass) && (s.slot j).restated.isNone) := by
  rw [joined.admitCandidates waits unpowered]
  refine selectVictims_congr fun j member => ⟨?_, joined.claim j⟩
  have other : j ≠ i := by
    rintro rfl
    simp only [State.candidates, List.mem_filter, Bool.and_eq_true, beq_iff_eq] at member
    exact unpowered member.2.1
  rw [joined.slot_other other]

/-- An ADMIT reclaim starts for the head (R95, R118). -/
theorem reclaims (empty : s.ae.entryOrder = []) (nodup : s.ae.grantOrder.Nodup) :
    let need := l.floorPower - (s.ae.effective -
      (s.ae.committed + if r.effClass = 0 then 0 else s.ae.reserve))
    let pool := s.candidates fun j => decide (r.effClass < (s.slot j).effClass) && (s.slot j).restated.isNone
    let t := u.startAdmit i (u.shortfall i)
    t.slot i = r ∧ t.entry i = { s.entry i with blocked := false } ∧
      t.ae = { s.ae with
        slots := t.ae.slots, entryOrder := [i]
        reclaim := { active := true, kind := .admission, beneficiary := some i, shortfall := need
                     earmark := l.floorPower, victims := s.selectVictims need pool, yieldTaken := 0 } } ∧
      (∀ j, j ≠ i → t.entry j = s.entry j) ∧
      (∀ v ∈ s.selectVictims need pool,
        (t.slot v.slot).state = .reducing ∧
        (t.slot v.slot).reduction = some (.entered v.targetIndex v.targetPower .reclaim)) ∧
      t.eu = (s.elapse.event .reclaimStart (some i) 1 need).eu := by
  intro need pool
  obtain ⟨each, chosen⟩ := selectVictims_candidates s need
    (fun j => decide (r.effClass < (s.slot j).effClass) && (s.slot j).restated.isNone) nodup
  have apart (v : Victim) (member : v ∈ s.selectVictims need pool) : v.slot ≠ i := by
    intro same
    exact unpowered (same ▸ (chosen v member).2.1)
  have floor : u.floorPower i = l.floorPower := by rw [State.floorPower, joined.slot, current]; rfl
  obtain ⟨w, opened⟩ : ∃ w : State, ((u.modEntry i fun e => { e with blocked := false }).withReclaim
    ⟨true, .admission, some i, need, l.floorPower, s.selectVictims need pool, 0⟩).event .reclaimStart (some i) 1 need =
      w := ⟨_, rfl⟩
  have slot (j : SlotId) : w.slot j = u.slot j := by rw [← opened]; rfl
  have started : u.startAdmit i (u.shortfall i) = w.requestReductions (s.selectVictims need pool) := by
    have short : u.shortfall i = need := joined.shortfall opens current
    rw [State.startAdmit, short, joined.victims waits unpowered, floor, ← opened]
    rfl
  have entries (j : SlotId) : w.entry j = (u.modEntry i fun e => { e with blocked := false }).entry j := by
    rw [← opened]; rfl
  rw [started]
  have ae := requestReductions_ae w (s.selectVictims need pool)
  have entry (j : SlotId) : (w.requestReductions (s.selectVictims need pool)).entry j = w.entry j := by
    rw [State.entry, ae]; rfl
  have powered (v : Victim) (member : v ∈ s.selectVictims need pool) : (w.slot v.slot).state = .powered := by
    rw [slot, joined.slot_other (apart v member)]
    exact (chosen v member).2.1
  refine ⟨?_, ?_, ?_, fun j other => ?_, fun v member => ?_, ?_⟩
  · exact (requestReductions_other apart).1.trans ((slot i).trans joined.slot)
  · rw [entry, entries, entry_modEntry_same, joined.entry]
  · rw [ae, ← opened]
    exact congrArg (fun a : Ae => ({ a with
      reclaim := ⟨true, .admission, some i, need, l.floorPower, s.selectVictims need pool, 0⟩ } : Ae))
      (joined.modEntry_ae (fun e => { e with blocked := false }) empty)
  · rw [entry, entries, entry_modEntry_other _ _ other, joined.entry_other other]
  · rw [requestReductions_victim each powered member]
    exact ⟨rfl, rfl⟩
  · rw [requestReductions_eu, ← opened]
    · show u.eu.append _ _ _ _ = _
      rw [joined.eu]
      rfl
    · intro v member
      have condition := (chosen v member).2.2
      simp only [Bool.and_eq_true, Option.isNone_iff_eq_none] at condition
      rw [slot, joined.slot_other (apart v member)]
      exact condition.2

end

omit current in
/-- Behind a blocked head it is offered a point under BACKFILL (R98). -/
theorem backfilled {h : SlotId} {lh : DemandList} {p : Nat × Point} (order : s.ae.entryOrder = [h]) (behind : h ≠ i)
    (low : r.effClass ≤ 3) (held : (s.slot h).current = some lh) (better : (s.slot h).effClass ≤ r.effClass)
    (unfit : lh.highestWithin (s.ae.effective -
      (s.ae.committed + if (s.slot h).effClass = 0 then 0 else s.ae.reserve)) = none)
    (blocked_h : (s.entry h).blocked = true) (marked : (s.ae.slots.toList.any fun e => e.mark != .none) = true)
    (backfills : s.cu.settings.backfill = true) (fits : u.fitting i = some p) : u.aeRules true = u.offer i p := by
  obtain ⟨-, quiet, unearmarked, calm, within, -⟩ := id opens
  have slot_h : u.slot h = s.slot h := joined.slot_other behind
  have quiet_u : u.ae.reclaim.active = false := by rw [joined.reclaim]; exact quiet
  have order_u : u.ae.entryOrder = [h, i] := by
    rw [joined.order, order]
    simp [behind]
  have queue : u.queue = [h, i] :=
    queue_pair order_u (by rw [slot_h, joined.slot]; exact better) (by rw [joined.slot]; exact low)
  have unfit_h : u.fitting h = none := by
    have available := joined.available unearmarked h
    rw [slot_h] at available
    rw [State.fitting, slot_h, held, available]
    exact unfit
  have reason : u.blockReason h = some 3 := by
    rw [State.blockReason, quiet_u, joined.calm calm, joined.marks, marked]
    rfl
  have stays : u.settleHead h = u := by
    rw [settleHead_blocked reason]
    exact if_pos (by rw [joined.entry_other behind]; exact blocked_h)
  have backfill : u.backfill [i] = u.offer i p := by
    refine (if_pos (by rw [joined.cu]; exact backfills)).trans ?_
    rw [List.foldl_cons, List.foldl_nil, if_neg (by rw [isBeneficiary_idle i quiet_u]; exact Bool.false_ne_true), fits]
  have served : (u.offer i p).ae.entryOrder = [h] := by
    rw [offer_ae (joined.calm calm) (joined.within within) (fitting_le fits), order_u]
    simp [behind]
  rw [joined.rules opens, State.allocationPass, passFrom_settles queue quiet_u unfit_h, stays, backfill]
  exact raisePass_barred (.inl (by rw [served]; exact List.cons_ne_nil h []))

end Joined

end Sys2Proof.Machine
end

section
/-! DEMAND taken by the AE, whole (R26, R54, R86, R90 to R98). -/

namespace Sys2Proof.Machine

/-- The happening of a DEMAND whose list has arrived, with the AE's decisions open. -/
theorem demand_open {s : State} {i : SlotId} {rest : List Notice} {l : DemandList} (high : s.resetLow = false)
    (oldest : (s.slot i).outbox = .demand false none :: rest) (opens : aeOpen s)
    (arriving : (s.slot i).arriving = some l) (last : rest.any Notice.isDemand = false)
    (freed : rest.any Notice.frees = false) (state : (s.slot i).state = .identify ∨ (s.slot i).state = .standby)
    (admits : (s.policy i).admits = true) :
    exec (.demandNotice i) s = .next (((s.arrived i rest l).joinQueue i).aeRules true) := by
  obtain ⟨-, quiet, -, -, -, -, unwaited, idle⟩ := opens
  have account : (s.taken i rest).account i (.demand false none) = (s.arrived i rest l).joinQueue i :=
    (account_arrives quiet arriving last freed state).trans (admitDemand_joins (s := s.arrived i rest l) admits)
  have before : ((s.taken i rest).slot i).state ≠ .waiting := by
    rw [slot_taken]
    rcases state with h | h <;> exact fun waits => SlotState.noConfusion (h.symm.trans waits)
  have after : (((s.arrived i rest l).joinQueue i).slot i).state = .waiting := by rw [slot_joinQueue]
  have run : exec (.demandNotice i) s = .next ((s.taken i rest).aeNotice i (.demand false none)) :=
    notice_happening high oldest (by rfl) unwaited nofun idle
  rw [run, State.aeNotice, account, passCause_slot i (.inl ⟨before, after⟩), Bool.true_or]

/-- The clauses of a DEMAND that the AE takes while it makes no decision. -/
theorem demand_still_clauses {s : State} {i : SlotId} {restating : Bool} {rest : List Notice}
    (idle : s.ae.reclaim.active = false) {t : State} (ends : t = (s.taken i rest).account i (.demand restating none)) :
    aroundNotice i s t ∧ t.eu = s.elapse.eu ∧
      (∀ l, (s.slot i).arriving = some l → restating = false → rest.any Notice.isDemand = false →
        rest.any Notice.frees = false → (s.slot i).state = .identify ∨ (s.slot i).state = .standby →
        t.slot i = { (s.slot i).listed l (s.policy i).classLimit with
          outbox := rest, state := if (s.policy i).admits then .waiting else .parked } ∧
        ((s.policy i).admits = true →
          t.ae = { (s.leaveQueue i).ae with entryOrder := s.ae.entryOrder.filter (· != i) ++ [i] }) ∧
        ((s.policy i).admits = false → t.ae = s.ae)) ∧
      (restating = false → (s.slot i).arriving = none → (s.slot i).state = .waiting →
        t.slot i = { s.slot i with outbox := rest } ∧ t.ae = s.ae) ∧
      (restating = true → (s.slot i).restated = none ∨ rest.any Notice.isRestatement = true →
        t.slot i = { s.slot i with outbox := rest } ∧ t.ae = s.ae) ∧
      (∀ l, (s.slot i).restated = some l → restating = true → rest.any Notice.isRestatement = false →
        t.slot i = { s.slot i with
          outbox := rest
          mapRequests := (s.slot i).mapRequests ++
            [(l.highestWithin (s.entry i).confirmed).map fun p =>
              { index := p.1, power := p.2.power, tag := p.2.tag }] } ∧
        t.entry i = { s.entry i with
          restating := (s.entry i).restating || (l.highestWithin (s.entry i).confirmed).isSome } ∧
        (∀ j, j ≠ i → t.entry j = s.entry j) ∧ t.ae = { s.ae with slots := t.ae.slots }) := by
  have entered := Entered.account_demand (s := s.taken i rest) (i := i) idle restating
  rw [← ends] at entered
  obtain ⟨around, eu⟩ := entered.around
  refine ⟨around, eu, ?_, ?_, ?_, ?_⟩
  · rintro l arriving rfl last freed state
    rw [account_arrives idle arriving last freed state] at ends
    rw [ends]
    refine ⟨arrived_enters l, fun admits => arrived_ae l admits, fun refused => ?_⟩
    have parks := admitDemand_parks (s := s.arrived i rest l) (i := i) refused
    rw [parks]
    rfl
  · rintro rfl none_ waits
    rw [account_replaced idle none_ waits] at ends
    rw [ends]
    exact ⟨slot_taken s i rest, rfl⟩
  · rintro rfl dropped
    rw [account_restated idle, mapRestatement_stays dropped] at ends
    rw [ends]
    exact ⟨slot_taken s i rest, rfl⟩
  · rintro l some_ rfl last
    rw [account_restated idle] at ends
    rw [ends]
    exact mapRestatement_maps some_ last rfl

/-- Settles O40: the account by `demand_still_clauses`, the decisions by `Joined`. -/
theorem demandNoticeEntersWaiting : Obligations.DemandNoticeEntersWaiting := by
  intro s i restating rest high oldest _
  obtain ⟨t, answer⟩ := exec_next (.demandNotice i) s
  refine ⟨t, answer, fun still => ?_, fun l arriving opens unrestating last freed state admits low => ?_⟩
  · exact demand_still_clauses still.2.1
      (Host.Outcome.next.inj (answer.symm.trans (demand_still high still oldest)))
  · subst unrestating
    have joined := arrived_joined s i rest l
    obtain ⟨u, entered⟩ : ∃ u : State, (s.arrived i rest l).joinQueue i = u := ⟨_, rfl⟩
    have ends : t = u.aeRules true := by
      rw [← entered]
      exact Host.Outcome.next.inj
        (answer.symm.trans (demand_open high oldest opens arriving last freed state admits))
    rw [entered] at joined
    intro cls avail need pool yield marked waits
    have joined : Joined s u i waits := joined
    have current : waits.current = some l := rfl
    have unpowered : (s.slot i).state ≠ .powered := by
      rcases state with h | h <;> exact fun powered => SlotState.noConfusion (h.symm.trans powered)
    have fitting : u.fitting i = l.highestWithin avail := joined.fitting opens current
    refine ⟨fun p fits empty unraised => ?_, fun none_ empty blocks => ?_, fun none_ empty nodup unmarked enough => ?_,
      fun h order behind lh held better unfit blocked_h some_ backfills p fits => ?_⟩
    · have fits_u : u.fitting i = some p := fitting.trans fits
      rw [ends, joined.head_offered opens low empty fits_u unraised]
      exact joined.offered opens fits_u (by rw [empty]; exact List.not_mem_nil)
    · have reason : u.blockReason i = some (if marked then 3 else 4) := by
        refine (joined.blockReason opens current rfl unpowered).trans ?_
        show (if marked = true then some 3 else if yield < need then some 4 else none) = _
        rcases blocks with some_ | short
        · rw [some_]; rfl
        · rw [if_pos short]; split <;> rfl
      have settles := settleHead_blocked reason
      have blocked := joined.blocked opens current (if marked then 3 else 4) empty
      have queued : (u.settleHead i).ae.entryOrder = [i] := by rw [settles, blocked.2.2.1]
      rw [ends, joined.head_settles opens low empty (fitting.trans none_) queued, settles]
      exact blocked
    · have reason : u.blockReason i = none := by
        refine (joined.blockReason opens current rfl unpowered).trans ?_
        show (if marked = true then some 3 else if yield < need then some 4 else none) = _
        rw [unmarked, if_neg Bool.false_ne_true, if_neg (Nat.not_lt.mpr enough)]
      have settles : u.settleHead i = u.startAdmit i (u.shortfall i) := by rw [State.settleHead, reason]
      have reclaims := joined.reclaims opens current rfl unpowered empty nodup
      have queued : (u.settleHead i).ae.entryOrder = [i] := by rw [settles, reclaims.2.2.1]
      rw [ends, joined.head_settles opens low empty (fitting.trans none_) queued, settles]
      exact reclaims
    · have fits_u : u.fitting i = some p := fitting.trans fits
      rw [ends, joined.backfilled opens order behind low held better unfit blocked_h some_ backfills fits_u]
      obtain ⟨slot, entry, ae, others, eu, -⟩ := joined.offered opens fits_u (by
        rw [order, List.mem_singleton]
        exact behind.symm)
      rw [slot]
      exact ⟨rfl, rfl, entry, ae, others, eu⟩

end Sys2Proof.Machine
end
